-- ==== Sys2Proof/Word.lean ====
section
/-! DEFINITION. The words of the part: what travels on a link or is counted as a word of fixed width. -/

namespace Sys2Proof

/-- One byte of a frame (01 R1). -/
abbrev Byte := BitVec 8

/-- A two-byte field: a sample, a knot coordinate, a limit, a timestamp, a parameter value (00, conventions). -/
abbrev Half := BitVec 16

/-- A counter's value, 0..4294967295 (10 R183). -/
abbrev Count := BitVec 32

/-- A context index, 0..63 (02 R24). -/
abbrev ContextId := Fin 64

/-- A curve id, 0..47 (03 R47). -/
abbrev CurveId := Fin 48

/-- A page number, 0..127 (03 R42). -/
abbrev PageId := Fin 128

/-- A work slot's number, 0..3 (04 R63). -/
abbrev SlotId := Fin 4

/-- A conversion unit's number, 0 or 1 (04 R65). -/
abbrev UnitId := Fin 2

end Sys2Proof
end

