-- ==== Sys2Proof/Syntax.lean ====
section
/-! DEFINITION. The commands of the part: one constructor for each row of spec/opcode_table.json.

A row of the management engine has no operand of its own here: its fields stand in the command frame that the engine
holds, which a FRAME_ARRIVAL brought in (log 1). -/

namespace Sys2Proof

/-- The two chain link ports (01, link ports). -/
inductive Port
  /-- Upstream, toward the sensors. -/
  | uPort
  /-- Downstream, toward the collector. -/
  | dPort
  deriving DecidableEq, Repr

/-- One command: a step of spec/opcode_table.json, whole and indivisible (95). -/
inductive Instr
  /-- RESETN_RELEASE (07 R150). -/
  | resetnRelease
  /-- CARRIER_DETECT (01 R9). -/
  | carrierDetect (port : Port)
  /-- ALIGNMENT_ACHIEVED (01 R9). -/
  | alignmentAchieved (port : Port)
  /-- CARRIER_LOSS (01 R14). -/
  | carrierLoss (port : Port)
  /-- FRAME_ARRIVAL (01 R11): the run of bytes the receiver delivered. -/
  | frameArrival (port : Port) (run : List Byte)
  /-- DATA_CLASSIFIER_TAKE (01 R17). -/
  | dataClassifierTake
  /-- LOOKUP (04 R66). -/
  | lookup
  /-- CONVERSION_END (04 R76) of one conversion unit, 0 or 1. -/
  | conversionEnd (unit : Nat)
  /-- CQ_ENTRY (04 R78). -/
  | cqEntry
  /-- FENCE_APPLY (02 R37). -/
  | fenceApply
  /-- COMMAND_CLASSIFIER_TAKE (01 R20). -/
  | commandClassifierTake
  /-- UNKNOWN_COMMAND (07 R135). -/
  | unknownCommand
  /-- PING (07 R145). -/
  | ping
  /-- GET_STATUS (07 R146). -/
  | getStatus
  /-- SET_PARAM (07 R132). -/
  | setParam
  /-- RESET_NODE_SOFT (07 R147). -/
  | resetNodeSoft
  /-- RESET_NODE_FULL (07 R147). -/
  | resetNodeFull
  /-- MAP_CHANNEL (02 R30). -/
  | mapChannel
  /-- SET_CHANNEL (02 R33). -/
  | setChannel
  /-- GET_CHANNEL (02 R35). -/
  | getChannel
  /-- OPEN_LEASE (05 R87). -/
  | openLease
  /-- STAGE_KNOTS (05 R93). -/
  | stageKnots
  /-- CLEAR_STAGING (05 R95). -/
  | clearStaging
  /-- READ_STAGING (05 R96). -/
  | readStaging
  /-- WRITE_PAGE (05 R98). -/
  | writePage
  /-- PAGE_WRITE_COMPLETION (05 R101). -/
  | pageWriteCompletion
  /-- DEFINE_CURVE (05 R104). -/
  | defineCurve
  /-- DEFINE_CURVE_CHECK_DONE (05 R105). -/
  | defineCurveCheckDone
  /-- CLOSE_LEASE (05 R91). -/
  | closeLease
  /-- LEASE_EXPIRY (05 R89). -/
  | leaseExpiry
  /-- GET_CURVE (03 R56). -/
  | getCurve
  /-- READ_KNOTS (03 R57). -/
  | readKnots
  /-- READ_KNOTS_DONE (03 R57). -/
  | readKnotsDone
  /-- DELETE_CURVE (03 R55). -/
  | deleteCurve
  /-- BIND_CHANNELS (06 R113). -/
  | bindChannels
  /-- PREPARE_BIND (06 R118). -/
  | prepareBind
  /-- APPLY_BIND (06 R119). -/
  | applyBind
  /-- APPLY_BIND_BROADCAST (06 R120). -/
  | applyBindBroadcast
  /-- CANCEL_BIND (06 R122). -/
  | cancelBind
  /-- CANCEL_BIND_BROADCAST (06 R123). -/
  | cancelBindBroadcast
  /-- ACK_NOTICES (08 R163). -/
  | ackNotices
  /-- RESUME_NOTICES (08 R165). -/
  | resumeNotices
  /-- READ_COUNTERS (10 R186). -/
  | readCounters
  /-- NOTICE_RETRY_EXPIRY (08 R162). -/
  | noticeRetryExpiry
  /-- D_PORT_TAKING (09 R174). -/
  | dPortTaking
  /-- D_PORT_DISCARD_TAKING (09 R177). -/
  | dPortDiscardTaking
  /-- FRAME_SENT (01 R15). -/
  | frameSent (port : Port)
  /-- UP_QUEUE_TAKE (09 R172). -/
  | upQueueTake
  /-- UP_QUEUE_DISCARD (09 R172). -/
  | upQueueDiscard
  /-- POSTED_RESPONSE_PLACED (07 R143). -/
  | postedResponsePlaced
  /-- MILLISECOND_TICK (05 R86, 08 R161). -/
  | millisecondTick
  deriving DecidableEq, Repr

end Sys2Proof
end

