-- ==== Sys2Proof/Config.lean ====
section
/-! DEFINITION. What the part fixes (sizes, defaults, bounds on access periods) and the free values: results the spec does not state. -/

namespace Sys2Proof.Config

/-- Frames the U-port receive buffer holds (01 R13). -/
def uBufferSize : Nat := 8
/-- Frames the D-port receive buffer holds (01 R13). -/
def dBufferSize : Nat := 4
/-- Entries the conditioned queue holds (09 R170). -/
def cqSize : Nat := 4
/-- Frames the forward queue holds (09 R171). -/
def fqSize : Nat := 8
/-- Frames the up queue holds (09 R172). -/
def uqSize : Nat := 4
/-- Commands the command queue holds (07 R133). -/
def commandQueueSize : Nat := 4
/-- Responses the response queue holds (07 R142). -/
def responseQueueSize : Nat := 4
/-- Entries the notice window holds (08 R156). -/
def windowSize : Nat := 8
/-- Entries the held list holds (08 R156). -/
def heldSize : Nat := 16
/-- Pages the loose set holds (03 R45). -/
def looseSize : Nat := 8
/-- Transmissions of a notice before the unit stalls (08 R162). -/
def maxTransmissions : Nat := 4
/-- The coalesce count at which it stays (08 R154). -/
def maxCoalesce : Nat := 255

/-- LEASE_TIME's default, in milliseconds (07 Table 7-3). -/
def leaseTimeDefault : Half := 200
/-- NOTICE_RETRY's default, in milliseconds (07 Table 7-3). -/
def noticeRetryDefault : Half := 20
/-- NOTICE_MASK's default: all six kinds enabled, the enable of kind k in bit k - 1 (07 R132, Table 7-3). -/
def noticeMaskDefault : Half := 0x003F

/-- The part id PING reports (07 R145). -/
def partId : Half := 0x0C40
/-- The revision PING reports (07 R145). -/
def revision : Byte := 1

/-- Access periods within which a conversion of 8 samples through 64 knots ends (04 R75). -/
def conversionPeriods : Nat := 151
/-- Access periods within which a page write's 16 slot writes complete (03 R60). -/
def pageWritePeriods : Nat := 128
/-- Access periods within which READ_KNOTS reads 11 knots, 8 each (03 R57, R59). -/
def readKnotsPeriods : Nat := 88
/-- Access periods within which the order check of 64 knots ends (05 R105). -/
def orderCheckPeriods : Nat := 512

/-- FREE VALUE (log 11). The own address, within its range 0..62 (07 R128), that an ENUM frame with next address 64..255 leaves: 07 Table 7-2 has no row for it. -/
opaque enumBeyondOwn : Nat → Byte → Fin 63

/-- FREE VALUE (log 11). The next-address field sent upstream for an ENUM frame with next address 64..255: 07 Table 7-2 has no row for it. -/
opaque enumBeyondSent : Nat → Byte → Byte

/-- FREE VALUE (log 12). Whether a CMD frame whose target is 64..255 goes to the up queue (true) or is dropped uncounted (false) at a node with a nonzero address: 01 R21 to R23 do not say. -/
opaque strayForwarded : Nat → Byte → Bool

end Sys2Proof.Config
end

