-- ==== Sys2Proof/Machine/State.lean ====
section
/-! DEFINITION. The state of the part, block by block as the manual owns it (00, Table 1), the reasons a step can stop, and the state after reset. -/

namespace Sys2Proof.Machine

/-! ### Frames and ports (chapter 01) -/

/-- The six frame kinds (01 R3). -/
inductive FrameKind
  | sample | csample | cmd | resp | notice | enum
  deriving DecidableEq, Repr

/-- A frame that has passed the receive checks, or that the part built: its header fields and payload. The length field is the
payload's length (01 R1, R3). -/
structure Frame where
  kind : FrameKind
  addr : Byte
  seq : Byte
  aux : Byte
  code : Byte
  payload : List Byte
  deriving DecidableEq, Repr

/-- The link states (01 R9). -/
inductive LinkState
  | down | align | up
  deriving DecidableEq, Repr

/-- A transmitter: IDLE, or SENDING the bytes of one frame, CRC included (01 R15). -/
inductive Transmitter
  | idle
  | sending (run : List Byte)
  deriving DecidableEq, Repr

/-- One link port: its state, its receive buffer oldest first, its transmitter (01 R9, R13, R15). -/
structure LinkPort where
  link : LinkState
  buffer : List Frame
  tx : Transmitter
  deriving DecidableEq, Repr

/-! ### Channel table (chapter 02) -/

/-- A context's mode (02 R26). -/
inductive Mode
  | off | pass | cond
  deriving DecidableEq, Repr

/-- A limit record (02 R27). -/
structure LimitRecord where
  low : Half
  high : Half
  hysteresis : Half
  deriving DecidableEq, Repr

/-- A limit state (02 R27). -/
inductive LimitState
  | normal | below | above
  deriving DecidableEq, Repr

/-- A limit record with the limit state that exists only beside it (02 R27). -/
structure Limits where
  bounds : LimitRecord
  state : LimitState
  deriving DecidableEq, Repr

/-- The accumulator (02 R28): exact sum, count, and the two carried clamp flags. -/
structure Accumulator where
  sum : Int
  count : Nat
  clampLow : Bool
  clampHigh : Bool
  deriving DecidableEq, Repr

/-- The empty accumulator (04 R74). -/
def Accumulator.empty : Accumulator := ⟨0, 0, false, false⟩

/-- A channel context (02 Table 2-1). -/
structure Context where
  channel : Option Byte
  mode : Mode
  curve : Option CurveId
  decimation : Nat
  limits : Option Limits
  limitNotices : Bool
  seqGapNotices : Bool
  expected : Option Byte
  acc : Accumulator
  outSeq : Byte
  inFlight : Nat
  fenced : Bool
  deriving DecidableEq, Repr

/-- A context at power-on (02 R39). -/
def Context.reset : Context where
  channel := none
  mode := .off
  curve := none
  decimation := 1
  limits := none
  limitNotices := true
  seqGapNotices := true
  expected := none
  acc := .empty
  outSeq := 0
  inFlight := 0
  fenced := false

/-- The channel map and the 64 contexts (02 R24). -/
structure ChannelTable where
  map : Vector (Option ContextId) 256
  contexts : Vector Context 64
  deriving DecidableEq, Repr

/-- The channel table at power-on (02 R39). -/
def ChannelTable.reset : ChannelTable := ⟨.replicate 256 none, .replicate 64 .reset⟩

/-! ### Curve store (chapter 03) -/

/-- A knot (03 R42). -/
structure Knot where
  x : Half
  y : Half
  deriving DecidableEq, Repr

/-- A curve descriptor's state (03 R47). -/
inductive CurveState
  | empty | built | live | retiring
  deriving DecidableEq, Repr

/-- A curve descriptor (03 Table 3-2). -/
structure Curve where
  state : CurveState
  knots : Nat
  pages : List PageId
  generation : Byte
  refs : Nat
  pins : Nat
  reservations : Nat
  deriving DecidableEq, Repr

/-- A descriptor at power-on (03 R61). -/
def Curve.reset : Curve := ⟨.empty, 0, [], 0, 0, 0, 0⟩

/-- A loose page with its writing mark (03 R45). -/
structure LoosePage where
  page : PageId
  writing : Bool
  deriving DecidableEq, Repr

/-- The two claimants of the store port that are not conversion units (03 R58). -/
inductive OtherClaimant
  | readBack | pageWrite
  deriving DecidableEq, Repr

/-- What the store access arbiter holds beside the claims waiting (03 R58). -/
structure StoreArbiter where
  lastUnit : Option UnitId
  lastOther : Option OtherClaimant
  conversionRun : Nat
  deriving DecidableEq, Repr

/-- The curve store: page array, free list, loose set, descriptors, arbiter (03). -/
structure CurveStore where
  pages : Vector (Vector Knot 16) 128
  free : List PageId
  loose : List LoosePage
  curves : Vector Curve 48
  arbiter : StoreArbiter
  deriving DecidableEq, Repr

/-- Sixteen slots of (0, 0): a page at power-on (03 R42) and the cleared staging page (05 R92). -/
def blankPage : Vector Knot 16 := .replicate 16 ⟨0, 0⟩

/-- The curve store at power-on (03 R61). -/
def CurveStore.reset : CurveStore where
  pages := .replicate 128 blankPage
  free := List.finRange 128
  loose := []
  curves := .replicate 48 .reset
  arbiter := ⟨none, none, 0⟩

/-! ### Conditioning engine (chapter 04) -/

/-- One entry of a CSAMPLE frame: a conditioned value and its flag byte (01 R5). -/
structure Output where
  value : Half
  flags : Byte
  deriving DecidableEq, Repr

/-- An occupied slot's state, with the fields written at the transition into it (04 Table 4-2). -/
inductive SlotPhase
  | queued
  | converting (unit : UnitId)
  | ready (outputs : List Output) (outSeq : Byte)
  deriving DecidableEq, Repr

/-- An occupied work slot (04 Table 4-2). -/
structure WorkSlot where
  phase : SlotPhase
  context : ContextId
  channel : Byte
  curve : CurveId
  timestamp : Half
  samples : List Half
  deriving DecidableEq, Repr

/-- A limit transition taken: the new state and the value (04 R73). -/
structure Transition where
  state : LimitState
  value : Half
  deriving DecidableEq, Repr

/-- A bisection in progress: the low and the high index and the knots held for them (04 R71). -/
structure Search where
  lo : Nat
  hi : Nat
  loKnot : Knot
  hiKnot : Knot
  deriving DecidableEq, Repr

/-- A BUSY unit's working record (04 R65), with the bisection in progress (R71). -/
structure Working where
  firstKnot : Option Knot
  lastKnot : Option Knot
  search : Option Search
  acc : Accumulator
  limits : Option Limits
  next : Nat
  outputs : List Output
  transitions : List Transition
  clampedLow : Nat
  clampedHigh : Nat
  deriving DecidableEq, Repr

/-- A BUSY conversion unit: the slot it converts and its working record (04 R65). -/
structure BusyUnit where
  slot : SlotId
  work : Working
  deriving DecidableEq, Repr

/-- The conditioning engine: slots (none = FREE), age order oldest first, ready order, units (none = IDLE) (04 Table 4-1). -/
structure Conditioner where
  slots : Vector (Option WorkSlot) 4
  age : List SlotId
  ready : List SlotId
  units : Vector (Option BusyUnit) 2
  deriving DecidableEq, Repr

/-- The engine at power-on (04 R82). -/
def Conditioner.reset : Conditioner := ⟨.replicate 4 none, [], [], .replicate 2 none⟩

/-! ### Curve loader (chapter 05) -/

/-- An OPEN lease: its owner and its running timer (05 R86). -/
structure Lease where
  owner : Byte
  duration : Nat
  count : Nat
  deriving DecidableEq, Repr

/-- The staging page (05 R92). -/
structure Staging where
  slots : Vector Knot 16
  cursor : Nat
  saturated : Bool
  deriving DecidableEq, Repr

/-- The cleared staging page (05 R92). -/
def Staging.cleared : Staging := ⟨blankPage, 0, false⟩

/-- The loader's states (05 R97). -/
inductive LoaderState
  | idle | writing | posting
  deriving DecidableEq, Repr

/-- The write record (05 R97), with the next slot the page write presents to the store port (03 R60). -/
structure WriteRecord where
  page : PageId
  manager : Byte
  tag : Byte
  saturated : Bool
  nextSlot : Nat
  deriving DecidableEq, Repr

/-- The curve loader (05 Table 5-1). Its held response stands in `Management.waiting` (log 18). -/
structure Loader where
  lease : Option Lease
  staging : Staging
  state : LoaderState
  write : Option WriteRecord
  deriving DecidableEq, Repr

/-- The loader at power-on (05 R108). -/
def Loader.reset : Loader := ⟨none, .cleared, .idle, none⟩

/-! ### Bind unit (chapter 06) -/

/-- A pair: channel, new curve or NONE, release flag (06 R111). -/
structure Pair where
  channel : Byte
  curve : Option CurveId
  release : Bool
  deriving DecidableEq, Repr

/-- A pending bind set that is present (06 R117). -/
structure PendingBind where
  tag : Byte
  pairs : List Pair
  deriving DecidableEq, Repr

/-! ### Management engine (chapter 07) -/

/-- UNMAPPED_POLICY (07 Table 7-3). -/
inductive UnmappedPolicy
  | forward | drop
  deriving DecidableEq, Repr

/-- The four parameters (07 R131). -/
structure Params where
  leaseTime : Half
  noticeRetry : Half
  unmappedPolicy : UnmappedPolicy
  noticeMask : Half
  deriving DecidableEq, Repr

/-- The parameters' defaults (07 Table 7-3). -/
def Params.default : Params :=
  ⟨Config.leaseTimeDefault, Config.noticeRetryDefault, .forward, Config.noticeMaskDefault⟩

/-- What a read-back serves: READ_KNOTS, or DEFINE_CURVE's order check with the index found out of order (03 R57, 05 R105). -/
inductive ReadPurpose
  | readKnots
  | orderCheck (failed : Option Nat)
  deriving DecidableEq, Repr

/-- The read-back record of the current command (03 R57, 05 R105): the knots `first` to `first + count - 1` of the pages listed, and those read so far. -/
structure ReadBack where
  purpose : ReadPurpose
  curve : CurveId
  generation : Byte
  pages : List PageId
  knots : Nat
  first : Nat
  count : Nat
  got : List Knot
  deriving DecidableEq, Repr

/-- The management engine's states (07 R134). -/
inductive EngineState
  | idle | executing | fenceWait | posting
  deriving DecidableEq, Repr

/-- Who holds a response that waits for the response queue (07 R142). -/
inductive Holder
  | engine | loader
  deriving DecidableEq, Repr

/-- A held response (07 R142, 05 R103). -/
structure HeldResponse where
  holder : Holder
  frame : Frame
  deriving DecidableEq, Repr

/-- A reply cache entry (07 R137). -/
inductive CacheEntry
  | empty
  | inProgress (tag : Byte)
  | answered (tag : Byte) (response : Frame)
  deriving DecidableEq, Repr

/-- The management engine (07 Table 7-1). `waiting` holds the responses of the holders in POSTING, first formed first (07 R143, log 18). -/
structure Management where
  address : Byte
  params : Params
  commandQueue : List Frame
  state : EngineState
  current : Option Frame
  readBack : Option ReadBack
  waiting : List HeldResponse
  cache : Vector CacheEntry 4
  responseQueue : List Frame
  deriving DecidableEq, Repr

/-- The management engine at power-on (07 R150). -/
def Management.reset : Management where
  address := 0
  params := .default
  commandQueue := []
  state := .idle
  current := none
  readBack := none
  waiting := []
  cache := .replicate 4 .empty
  responseQueue := []

/-! ### Notice unit (chapter 08) -/

/-- The notice kinds (01 Table 1-8). -/
inductive NoticeKind
  | nodeStart | linkChange | seqGap | limit | curveFreed | leaseExpired
  deriving DecidableEq, Repr

/-- What a raise carries (08 R151) and, with its coalesce count, what an entry keeps (08 Table 8-2). -/
structure Notice where
  kind : NoticeKind
  subject : Byte
  fields : List Byte
  coalesce : Nat
  deriving DecidableEq, Repr

/-- A window entry: a notice with its sequence, QUEUED or SENT, and its transmissions (08 Table 8-2). -/
structure WindowEntry where
  notice : Notice
  seq : Byte
  sent : Bool
  transmissions : Nat
  deriving DecidableEq, Repr

/-- The notice unit's state (08 Table 8-1). -/
inductive NoticeState
  | running | stalled
  deriving DecidableEq, Repr

/-- A running retry timer (08 R161). -/
structure RetryTimer where
  duration : Nat
  count : Nat
  deriving DecidableEq, Repr

/-- The notice unit (08 Table 8-1); a stopped timer is none. -/
structure NoticeUnit where
  state : NoticeState
  window : List WindowEntry
  held : List Notice
  nextSeq : Byte
  timer : Option RetryTimer
  lost : Bool
  deriving DecidableEq, Repr

/-- The reasons of NODE_START (01 Table 1-8). -/
inductive StartReason
  | power | fullReset
  deriving DecidableEq, Repr

/-- The code of a NODE_START reason (01 Table 1-8). -/
def StartReason.code : StartReason → Byte
  | .power => 1
  | .fullReset => 2

/-- The notice unit after RESETn or a full reset: emptied, then NODE_START taken as notice sequence 0 (08 R168). -/
def NoticeUnit.reset (reason : StartReason) : NoticeUnit where
  state := .running
  window := [⟨⟨.nodeStart, 0, [reason.code], 1⟩, 0, false, 0⟩]
  held := []
  nextSeq := 1
  timer := none
  lost := false

/-! ### Output merger (chapter 09) -/

/-- An entry of the conditioned queue: the CSAMPLE frame and the context index beside it (09 R170). -/
structure CqEntry where
  frame : Frame
  context : ContextId
  deriving DecidableEq, Repr

/-- The D-port arbiter's sources (09 R173). -/
inductive Source
  | cq | fq | rq | nu
  deriving DecidableEq, Repr

/-- The output merger (09 Table 9-1). -/
structure Merger where
  cq : List CqEntry
  fq : List Frame
  uq : List Frame
  pointer : Source
  deriving DecidableEq, Repr

/-- The merger at power-on (09 R182). -/
def Merger.reset : Merger := ⟨[], [], [], .cq⟩

/-! ### Counter block (chapter 10) -/

/-- A port's counters (10 Table 10-1). -/
structure PortCounters where
  lengthErr : Count
  crcErr : Count
  kindErr : Count
  direction : Count
  overrun : Count
  linkFlush : Count
  outDiscard : Count
  deriving DecidableEq, Repr

/-- The node counters (10 Table 10-1). -/
structure NodeCounters where
  unmappedFwd : Count
  unmappedDrop : Count
  badManager : Count
  cmdDropped : Count
  bcastIgnored : Count
  dupInProgress : Count
  retransmitAnswered : Count
  applyMiss : Count
  noticeCoalesced : Count
  noticesLost : Count
  acked : Count
  deriving DecidableEq, Repr

/-- A context's counters (10 Table 10-1). -/
structure ContextCounters where
  framesIn : Count
  samplesIn : Count
  offDrop : Count
  late : Count
  seqMissing : Count
  clampLow : Count
  clampHigh : Count
  limitEvents : Count
  outputs : Count
  decimDiscard : Count
  deriving DecidableEq, Repr

/-- A port group of zeros (10 R191). -/
def PortCounters.zero : PortCounters := ⟨0, 0, 0, 0, 0, 0, 0⟩
/-- A node group of zeros (10 R191). -/
def NodeCounters.zero : NodeCounters := ⟨0, 0, 0, 0, 0, 0, 0, 0, 0, 0, 0⟩
/-- A context group of zeros (10 R191). -/
def ContextCounters.zero : ContextCounters := ⟨0, 0, 0, 0, 0, 0, 0, 0, 0, 0⟩

/-- The counter block: 665 counters (10 R183). -/
structure Counters where
  uPort : PortCounters
  dPort : PortCounters
  node : NodeCounters
  contexts : Vector ContextCounters 64
  deriving DecidableEq, Repr

/-- The counter block at power-on (10 R191). -/
def Counters.reset : Counters := ⟨.zero, .zero, .zero, .replicate 64 .zero⟩

/-! ### Why a step stops -/

/-- Why a step stops. The spec has no fault of its own: what it leaves out of a state's reach is here. -/
inductive Fault
  /-- Raised by LOOKUP alone: a frame of a COND context without a bound curve would be admitted. 02 R26 says no such context exists,
  so the spec gives the lookup no effect there. Safe (log 17). -/
  | condWithoutCurve
  deriving DecidableEq, Repr

/-- Why a step is refused. -/
inductive Refusal
  /-- Raised by the dispatch alone, for a row that has no meaning yet. Safe. No row is refused in this model. -/
  | notModelled (mnemonic : String)
  deriving DecidableEq, Repr

/-! ### The whole part -/

/-- The part's state, one field per block (00 Table 1), and the model's own two fields: `fresh`, to which the free values are
applied (log 13), and `pending`, the commands waiting, first in first out (log 1). -/
structure State where
  uPort : LinkPort
  dPort : LinkPort
  table : ChannelTable
  store : CurveStore
  conditioner : Conditioner
  loader : Loader
  bind : Option PendingBind
  mgmt : Management
  notices : NoticeUnit
  merger : Merger
  counters : Counters
  fresh : Nat
  pending : List Instr
  deriving DecidableEq, Repr

/-- A port at the release of RESETn (01 R16). -/
def LinkPort.reset : LinkPort := ⟨.down, [], .idle⟩

/-- The part right after the release of RESETn (07 R150 and the reset rules of each chapter), no command waiting. -/
def State.reset : State where
  uPort := .reset
  dPort := .reset
  table := .reset
  store := .reset
  conditioner := .reset
  loader := .reset
  bind := none
  mgmt := .reset
  notices := .reset .power
  merger := .reset
  counters := .reset
  fresh := 0
  pending := []

end Sys2Proof.Machine
end

