-- ==== Sys2Proof/Machine/Operands.lean ====
section
/-! DEFINITION. The operand forms of the part: multi-byte fields, codes of named values, the fields of command payloads (01 R3, R6 and each command's rule). -/

namespace Sys2Proof.Machine

/-! ### Multi-byte fields, high byte first (00, conventions) -/

/-- The two bytes of a field, high byte first. -/
def halfBytes (v : Half) : List Byte := [v.extractLsb' 8 8, v.extractLsb' 0 8]

/-- The field two bytes spell, high byte first. -/
def halfOf (high low : Byte) : Half := high ++ low

/-- The four bytes of a counter or an accumulator sum, high byte first (10 R187, 02 Table 2-4). -/
def wordBytes (v : BitVec 32) : List Byte :=
  [v.extractLsb' 24 8, v.extractLsb' 16 8, v.extractLsb' 8 8, v.extractLsb' 0 8]

/-- A small number in one byte. -/
def byteOf (n : Nat) : Byte := BitVec.ofNat 8 n

/-- A small number in two bytes. -/
def halfOfNat (n : Nat) : Half := BitVec.ofNat 16 n

/-- Milliseconds left of an OPEN lease, as a payload field: the duration less the ticks counted (05 R86). -/
def Lease.remaining (l : Lease) : Half := halfOfNat (l.duration - l.count)

/-- The 0 or 1 that reports a flag. -/
def flagByte (b : Bool) : Byte := if b then 1 else 0

/-- The fields of two bytes each that a run of bytes spells, in order; an odd last byte spells none. -/
def halvesOf : List Byte → List Half
  | high :: low :: rest => halfOf high low :: halvesOf rest
  | _ => []

/-! ### Knots on the link: x then y (05 R93, R96; 03 R57) -/

/-- The four bytes of a knot. -/
def Knot.bytes (k : Knot) : List Byte := halfBytes k.x ++ halfBytes k.y

/-- The knots a run of bytes spells, four bytes each. -/
def knotsOf : List Byte → List Knot
  | a :: b :: c :: d :: rest => ⟨halfOf a b, halfOf c d⟩ :: knotsOf rest
  | _ => []

/-! ### Codes of named values -/

/-- The kind byte (01 R3). -/
def FrameKind.code : FrameKind → Byte
  | .sample => 1
  | .csample => 2
  | .cmd => 3
  | .resp => 4
  | .notice => 5
  | .enum => 6

/-- The kind a kind byte names; any other value names none (01 R3). -/
def FrameKind.ofCode (b : Byte) : Option FrameKind :=
  if b = 1 then some .sample
  else if b = 2 then some .csample
  else if b = 3 then some .cmd
  else if b = 4 then some .resp
  else if b = 5 then some .notice
  else if b = 6 then some .enum
  else none

/-- The link state code of GET_STATUS and LINK_CHANGE (07 Table 7-6, 01 Table 1-8). -/
def LinkState.code : LinkState → Byte
  | .down => 0
  | .align => 1
  | .up => 2

/-- The subject of a port's LINK_CHANGE (01 R10). -/
def portSubject : Port → Byte
  | .uPort => 0
  | .dPort => 1

/-- The mode code (02 Table 2-3). -/
def Mode.code : Mode → Byte
  | .off => 0
  | .pass => 1
  | .cond => 2

/-- The mode a mode byte names (02 Table 2-3). -/
def Mode.ofCode (b : Byte) : Option Mode :=
  if b = 0 then some .off else if b = 1 then some .pass else if b = 2 then some .cond else none

/-- The limit state code (01 Table 1-6). -/
def LimitState.code : LimitState → Byte
  | .normal => 0
  | .below => 1
  | .above => 2

/-- The curve state code (03 R56). -/
def CurveState.code : CurveState → Byte
  | .empty => 0
  | .built => 1
  | .live => 2
  | .retiring => 3

/-- The loader state code (05 R97). -/
def LoaderState.code : LoaderState → Byte
  | .idle => 0
  | .writing => 1
  | .posting => 2

/-- The notice kind code (01 Table 1-8). -/
def NoticeKind.code : NoticeKind → Byte
  | .nodeStart => 1
  | .linkChange => 2
  | .seqGap => 3
  | .limit => 4
  | .curveFreed => 5
  | .leaseExpired => 6

/-- The bit of NOTICE_MASK that enables a kind: kind k in bit k - 1 (07 R132). -/
def NoticeKind.maskBit (k : NoticeKind) : Nat := k.code.toNat - 1

/-- The notice unit state code (07 Table 7-6, 08 R163). -/
def NoticeState.code : NoticeState → Byte
  | .running => 0
  | .stalled => 1

/-- UNMAPPED_POLICY's value (07 Table 7-3). -/
def UnmappedPolicy.code : UnmappedPolicy → Half
  | .forward => 0
  | .drop => 1

/-- The statuses of a response (01 Table 1-7). -/
inductive Status
  | ok | unknown | badLength | badArg | badState | busy | noRoom | inUse | reserved | noLease | notOwner | leaseLost
  deriving DecidableEq, Repr

/-- The status code (01 Table 1-7). -/
def Status.code : Status → Byte
  | .ok => 0x00
  | .unknown => 0x01
  | .badLength => 0x02
  | .badArg => 0x03
  | .badState => 0x04
  | .busy => 0x05
  | .noRoom => 0x06
  | .inUse => 0x07
  | .reserved => 0x08
  | .noLease => 0x09
  | .notOwner => 0x0A
  | .leaseLost => 0x0B

/-! ### Command codes, each in the rule that specifies the command -/

/-- PING (07 R145). -/
def codePing : Byte := 0x01
/-- GET_STATUS (07 R146). -/
def codeGetStatus : Byte := 0x02
/-- SET_PARAM (07 R132). -/
def codeSetParam : Byte := 0x03
/-- RESET_NODE (07 R147). -/
def codeResetNode : Byte := 0x04
/-- MAP_CHANNEL (02 R30). -/
def codeMapChannel : Byte := 0x10
/-- SET_CHANNEL (02 R33). -/
def codeSetChannel : Byte := 0x11
/-- GET_CHANNEL (02 R35). -/
def codeGetChannel : Byte := 0x12
/-- OPEN_LEASE (05 R87). -/
def codeOpenLease : Byte := 0x20
/-- STAGE_KNOTS (05 R93). -/
def codeStageKnots : Byte := 0x21
/-- CLEAR_STAGING (05 R95). -/
def codeClearStaging : Byte := 0x22
/-- READ_STAGING (05 R96). -/
def codeReadStaging : Byte := 0x23
/-- WRITE_PAGE (05 R98). -/
def codeWritePage : Byte := 0x24
/-- DEFINE_CURVE (05 R104). -/
def codeDefineCurve : Byte := 0x25
/-- CLOSE_LEASE (05 R91). -/
def codeCloseLease : Byte := 0x26
/-- GET_CURVE (03 R56). -/
def codeGetCurve : Byte := 0x30
/-- READ_KNOTS (03 R57). -/
def codeReadKnots : Byte := 0x31
/-- DELETE_CURVE (03 R55). -/
def codeDeleteCurve : Byte := 0x32
/-- BIND_CHANNELS (06 R113). -/
def codeBindChannels : Byte := 0x40
/-- PREPARE_BIND (06 R118). -/
def codePrepareBind : Byte := 0x41
/-- APPLY_BIND (06 R119). -/
def codeApplyBind : Byte := 0x42
/-- CANCEL_BIND (06 R122). -/
def codeCancelBind : Byte := 0x43
/-- ACK_NOTICES (08 R163). -/
def codeAckNotices : Byte := 0x50
/-- RESUME_NOTICES (08 R165). -/
def codeResumeNotices : Byte := 0x51
/-- READ_COUNTERS (10 R186). -/
def codeReadCounters : Byte := 0x60

/-- The codes that name a command of the manual (07 R135, Table 7-5). -/
def knownCodes : List Byte :=
  [codePing, codeGetStatus, codeSetParam, codeResetNode, codeMapChannel, codeSetChannel, codeGetChannel,
   codeOpenLease, codeStageKnots, codeClearStaging, codeReadStaging, codeWritePage, codeDefineCurve, codeCloseLease,
   codeGetCurve, codeReadKnots, codeDeleteCurve, codeBindChannels, codePrepareBind, codeApplyBind, codeCancelBind,
   codeAckNotices, codeResumeNotices, codeReadCounters]

/-- The broadcast target (01 Table 1-3). -/
def broadcastTarget : Byte := 63

/-! ### Fields that name one of a fixed number of things -/

/-- The context a byte names, 0..63. -/
def contextOf (b : Byte) : Option ContextId := if h : b.toNat < 64 then some ⟨b.toNat, h⟩ else none

/-- The curve a byte names, 0..47. -/
def curveOf (b : Byte) : Option CurveId := if h : b.toNat < 48 then some ⟨b.toNat, h⟩ else none

/-- The page a byte names, 0..127. -/
def pageOf (b : Byte) : Option PageId := if h : b.toNat < 128 then some ⟨b.toNat, h⟩ else none

/-- The reply cache entry of a manager id (07 R137); only ids 0..3 pass the command classifier (01 R20). -/
def managerIndex (b : Byte) : Fin 4 := ⟨b.toNat % 4, Nat.mod_lt _ (by decide)⟩

/-- The byte that reports a context or NONE (02 R31). -/
def contextByte : Option ContextId → Byte
  | some k => byteOf k.val
  | none => 0xFF

/-! ### Pairs on the link (06 R111) -/

/-- A pair as its three bytes stand in a payload. -/
structure RawPair where
  channel : Byte
  curve : Byte
  flags : Byte
  deriving DecidableEq, Repr

/-- The raw pairs a run of bytes spells, three bytes each. -/
def rawPairsOf : List Byte → List RawPair
  | c :: k :: f :: rest => ⟨c, k, f⟩ :: rawPairsOf rest
  | _ => []

/-- The pair its bytes mean: 0xFF is NONE, bit 0 of the flags is the release flag (06 Table 6-2). -/
def RawPair.pair (p : RawPair) : Pair := ⟨p.channel, curveOf p.curve, p.flags.getLsbD 0⟩

/-! ### Length rules that depend on more than the length -/

/-- SET_CHANNEL: 4 bytes without a limit record, 10 with one, as bit 2 of the flags byte says (02 R33). -/
def setChannelLength : List Byte → Bool
  | [_, _, _, flags] => !flags.getLsbD 2
  | [_, _, _, flags, _, _, _, _, _, _] => flags.getLsbD 2
  | _ => false

/-- STAGE_KNOTS: 2 + 4n bytes, n 1..11 (05 R93). -/
def stageKnotsLength (p : List Byte) : Bool := 6 ≤ p.length && p.length ≤ 46 && p.length % 4 == 2

/-- DEFINE_CURVE: 4..7 bytes, 3 plus the page count byte (05 R104). -/
def defineCurveLength : List Byte → Bool
  | id :: count :: rest =>
    let n := (id :: count :: rest).length
    4 ≤ n && n ≤ 7 && n == 3 + count.toNat
  | _ => false

/-- BIND_CHANNELS: 3n bytes, n 1..8 (06 R113). -/
def bindChannelsLength (p : List Byte) : Bool := 3 ≤ p.length && p.length ≤ 24 && p.length % 3 == 0

/-- PREPARE_BIND: 1 + 3n bytes, n 1..8 (06 R118). -/
def prepareBindLength (p : List Byte) : Bool := 4 ≤ p.length && p.length ≤ 25 && p.length % 3 == 1

end Sys2Proof.Machine
end

