-- ==== Sys2Proof/Machine/Flags.lean ====
section
/-! DEFINITION. Every flag byte the part computes: the CSAMPLE flag byte, GET_CHANNEL's presence byte and clamp byte. -/

namespace Sys2Proof.Machine

/-- The flag byte of a conditioned value: bit 0 clamped-low, bit 1 clamped-high, bits 3..2 the limit state, NORMAL without a limit record (01 Table 1-6, R5). -/
def sampleFlags (clampLow clampHigh : Bool) (limits : Option Limits) : Byte :=
  flagByte clampLow ||| (flagByte clampHigh <<< 1) |||
    ((limits.elim LimitState.normal Limits.state).code <<< 2)

/-- The presence byte of GET_CHANNEL (02 Table 2-4, byte 1). -/
def Context.presence (c : Context) : Byte :=
  flagByte c.channel.isSome ||| (flagByte c.curve.isSome <<< 1) ||| (flagByte c.limits.isSome <<< 2) |||
    (flagByte c.expected.isSome <<< 3) ||| (flagByte c.limitNotices <<< 4) ||| (flagByte c.seqGapNotices <<< 5)

/-- The carried clamps byte of GET_CHANNEL (02 Table 2-4, byte 18). -/
def Accumulator.clampByte (a : Accumulator) : Byte := flagByte a.clampLow ||| (flagByte a.clampHigh <<< 1)

end Sys2Proof.Machine
end

