-- ==== Sys2Proof/Machine/Frames.lean ====
section
/-! DEFINITION. Frames as bytes: the CRC, the bytes a transmitter sends, the receive checks (01 R1 to R8, R11). -/

namespace Sys2Proof.Machine

/-! ### The CRC (01 R2) -/

/-- One of the eight steps of the register (01 R2). -/
def crcShift (r : Half) : Half := if r.msb then (r <<< 1) ^^^ 0x1021 else r <<< 1

/-- One byte taken into the register: combined with its high byte, then eight steps (01 R2). -/
def crcByte (r : Half) (b : Byte) : Half :=
  crcShift (crcShift (crcShift (crcShift (crcShift (crcShift (crcShift (crcShift (r ^^^ (b ++ (0 : Byte))))))))))

/-- The CRC of a run of bytes (01 R2). -/
def crc (bytes : List Byte) : Half := bytes.foldl crcByte 0xFFFF

/-! ### What a transmitter sends -/

/-- The header and payload bytes of a frame, in transmission order (01 R1, R3). -/
def Frame.body (f : Frame) : List Byte :=
  [f.kind.code, byteOf f.payload.length, f.addr, f.seq, f.aux, f.code] ++ f.payload

/-- The bytes of a frame on the link: header, payload, CRC high byte first (01 R1, R2, R15). -/
def Frame.wire (f : Frame) : List Byte := f.body ++ halfBytes (crc f.body)

/-! ### The receive checks (01 R11) -/

/-- The counter of the check a run fails first (01 Table 1-10). -/
inductive ReceiveError
  | lengthErr | crcErr | kindErr
  deriving DecidableEq, Repr

/-- The kind-specific length check (01 Table 1-10, order 4): CMD and RESP have none. -/
def kindLengthOk (kind : FrameKind) (aux : Byte) (n : Nat) : Bool :=
  match kind with
  | .sample => 1 ≤ aux.toNat && aux.toNat ≤ 8 && n == 2 + 2 * aux.toNat
  | .csample => 1 ≤ aux.toNat && aux.toNat ≤ 8 && n == 2 + 3 * aux.toNat
  | .notice => 2 ≤ n
  | .enum => n == 0
  | .cmd => true
  | .resp => true

/-- The first check: the run is no longer than 56 bytes, at least 8, its length field at most 48, and the two agree (01 Table 1-10, order 1). -/
def runLengthOk (bytes : Nat) (n : Nat) : Bool := bytes ≤ 56 && 8 ≤ bytes && n ≤ 48 && bytes == 8 + n

/-- A delivered run put through the receive checks in order: the frame, or the first check it fails (01 R11). -/
def receive (run : List Byte) : Except ReceiveError Frame :=
  match run with
  | kind :: n :: addr :: seq :: aux :: code :: rest =>
    if runLengthOk run.length n.toNat then
      if halfBytes (crc (run.take (6 + n.toNat))) = run.drop (6 + n.toNat) then
        match FrameKind.ofCode kind with
        | some k =>
          if kindLengthOk k aux n.toNat then .ok ⟨k, addr, seq, aux, code, rest.take n.toNat⟩
          else .error .lengthErr
        | none => .error .kindErr
      else .error .crcErr
    else .error .lengthErr
  | _ => .error .lengthErr

/-! ### The samples of a SAMPLE frame (01 R4) -/

/-- The timestamp, payload bytes 0..1 (01 Table 1-4). -/
def Frame.timestamp (f : Frame) : Half :=
  match f.payload with
  | a :: b :: _ => halfOf a b
  | _ => 0

/-- The raw samples, in payload order (01 Table 1-4). -/
def Frame.samples (f : Frame) : List Half := halvesOf (f.payload.drop 2)

/-! ### Frames the part builds -/

/-- The three bytes of a CSAMPLE entry (01 Table 1-5). -/
def Output.bytes (o : Output) : List Byte := halfBytes o.value ++ [o.flags]

/-- The CSAMPLE frame of a READY slot (01 R5, 04 R77). -/
def csampleFrame (channel outSeq : Byte) (timestamp : Half) (outputs : List Output) : Frame where
  kind := .csample
  addr := channel
  seq := outSeq
  aux := byteOf outputs.length
  code := 0
  payload := halfBytes timestamp ++ outputs.flatMap Output.bytes

/-- A response frame (01 R6, 07 R136). -/
def responseFrame (address tag manager : Byte) (status : Status) (payload : List Byte) : Frame :=
  ⟨.resp, address, tag, manager, status.code, payload⟩

/-- The NOTICE frame of a window entry (01 R7, 08 R159). -/
def noticeFrame (address : Byte) (e : WindowEntry) : Frame where
  kind := .notice
  addr := address
  seq := e.seq
  aux := e.notice.kind.code
  code := 0
  payload := e.notice.subject :: byteOf e.notice.coalesce :: e.notice.fields

end Sys2Proof.Machine
end

