-- ==== Sys2Proof/Machine/Ops.lean ====
section
/-! DEFINITION. The named operations that several commands share: reading and writing one of a fixed number of things, counting, raising a notice,
the response path of the management engine, pages and curve descriptors, the common checks of a command.

Taking an exception is not asked of this block: it has none. -/

namespace Sys2Proof.Machine

/-! ### One of a fixed number of like things -/

/-- The vector with entry `i` changed by `f`. -/
def vmod {α : Type} {n : Nat} (v : Vector α n) (i : Fin n) (f : α → α) : Vector α n := v.set i (f v[i])

/-- Context `k`. -/
def State.context (s : State) (k : ContextId) : Context := s.table.contexts[k]

/-- Context `k` changed by `f`. -/
def State.modContext (s : State) (k : ContextId) (f : Context → Context) : State :=
  { s with table := { s.table with contexts := vmod s.table.contexts k f } }

/-- The context the map gives a channel id, or UNMAPPED (02 R24). -/
def ChannelTable.lookup (t : ChannelTable) (channel : Byte) : Option ContextId := t.map[channel.toFin]

/-- The map with one entry written. -/
def ChannelTable.setEntry (t : ChannelTable) (channel : Byte) (k : Option ContextId) : ChannelTable :=
  { t with map := vmod t.map channel.toFin fun _ => k }

/-- Curve descriptor `c`. -/
def State.curve (s : State) (c : CurveId) : Curve := s.store.curves[c]

/-- The store with descriptor `c` changed by `f`. -/
def CurveStore.modCurve (t : CurveStore) (c : CurveId) (f : Curve → Curve) : CurveStore :=
  { t with curves := vmod t.curves c f }

/-- The part with descriptor `c` changed by `f`. -/
def State.modCurve (s : State) (c : CurveId) (f : Curve → Curve) : State := { s with store := s.store.modCurve c f }

/-- A port. -/
def State.port (s : State) : Port → LinkPort
  | .uPort => s.uPort
  | .dPort => s.dPort

/-- The part with one port written. -/
def State.setPort (s : State) (p : Port) (x : LinkPort) : State :=
  match p with
  | .uPort => { s with uPort := x }
  | .dPort => { s with dPort := x }

/-- The frames a port's receive buffer holds at most (01 R13). -/
def bufferSize : Port → Nat
  | .uPort => Config.uBufferSize
  | .dPort => Config.dBufferSize

/-! ### Increment claims (10 R184): an amount is added modulo 2^32 -/

/-- A claim on the node group. -/
def State.countNode (s : State) (f : NodeCounters → NodeCounters) : State :=
  { s with counters := { s.counters with node := f s.counters.node } }

/-- A claim on a port's group. -/
def State.countPort (s : State) (p : Port) (f : PortCounters → PortCounters) : State :=
  match p with
  | .uPort => { s with counters := { s.counters with uPort := f s.counters.uPort } }
  | .dPort => { s with counters := { s.counters with dPort := f s.counters.dPort } }

/-- A claim on a context's group. -/
def State.countContext (s : State) (k : ContextId) (f : ContextCounters → ContextCounters) : State :=
  { s with counters := { s.counters with contexts := vmod s.counters.contexts k f } }

/-- An amount as a counter's word. -/
def amount (n : Nat) : Count := BitVec.ofNat 32 n

/-! ### Raising a notice (08 R151 to R155) -/

/-- What becomes of a raise (08 Table 8-4). -/
inductive RaiseOutcome
  | masked | entered | merged | held | lost
  deriving DecidableEq, Repr

/-- Two notices of the same kind and subject (08 R154). -/
def Notice.matches (a b : Notice) : Bool := a.kind == b.kind && a.subject == b.subject

/-- The outcome of a raise, by the mask, the window and the held list (08 Table 8-4). -/
def NoticeUnit.raiseOutcome (u : NoticeUnit) (mask : Half) (n : Notice) : RaiseOutcome :=
  if mask.getLsbD n.kind.maskBit then
    if u.window.length < Config.windowSize then .entered
    else if u.held.any n.matches then .merged
    else if u.held.length < Config.heldSize then .held
    else .lost
  else .masked

/-- A notice appended to the window with the next sequence, QUEUED, not yet transmitted (08 R153, R164). -/
def NoticeUnit.enter (u : NoticeUnit) (n : Notice) : NoticeUnit :=
  { u with window := u.window ++ [⟨n, u.nextSeq, false, 0⟩], nextSeq := u.nextSeq + 1 }

/-- A held entry that takes the fields of a new raise of its kind and subject; its count rises by one, up to 255 (08 R154). -/
def Notice.merge (new old : Notice) : Notice :=
  { old with fields := new.fields, coalesce := min (old.coalesce + 1) Config.maxCoalesce }

/-- The raise taken by the unit (08 R152 to R154). -/
def NoticeUnit.raise (u : NoticeUnit) (mask : Half) (n : Notice) : NoticeUnit :=
  match u.raiseOutcome mask n with
  | .masked => u
  | .entered => u.enter n
  | .merged => { u with held := u.held.map fun h => if n.matches h then n.merge h else h }
  | .held => { u with held := u.held ++ [n] }
  | .lost => { u with lost := true }

/-- What a raise counts (08 R154). -/
def NodeCounters.countRaise (c : NodeCounters) : RaiseOutcome → NodeCounters
  | .merged => { c with noticeCoalesced := c.noticeCoalesced + 1 }
  | .lost => { c with noticesLost := c.noticesLost + 1 }
  | .masked | .entered | .held => c

/-- A raise: the claim on the notice unit, and what it counts (08 R151). -/
def State.raise (s : State) (kind : NoticeKind) (subject : Byte) (fields : List Byte) : State :=
  let n : Notice := ⟨kind, subject, fields, 1⟩
  let mask := s.mgmt.params.noticeMask
  { s with
    notices := s.notices.raise mask n
    counters := { s.counters with node := s.counters.node.countRaise (s.notices.raiseOutcome mask n) } }

/-! ### The response path (07 R134, R136, R142, R143) -/

/-- The engine leaves its command: it takes the next head frame as current, or is IDLE (07 R134, Table 7-4). -/
def Management.leave (m : Management) : Management :=
  match m.commandQueue with
  | [] => { m with state := .idle, current := none, readBack := none }
  | f :: rest => { m with state := .executing, current := some f, readBack := none, commandQueue := rest }

/-- The reply cache entry of a manager. -/
def Management.entry (m : Management) (manager : Byte) : CacheEntry := m.cache[managerIndex manager]

/-- The reply cache with one manager's entry written. -/
def Management.setEntry (m : Management) (manager : Byte) (e : CacheEntry) : Management :=
  { m with cache := vmod m.cache (managerIndex manager) fun _ => e }

/-- A formed response stored where its command's tag is in progress, and nowhere else (07 R136). -/
def Management.store (m : Management) (response : Frame) : Management :=
  if m.entry response.aux = .inProgress response.seq then
    m.setEntry response.aux (.answered response.seq response)
  else m

/-- The engine offers a frame to the response queue: it joins and the engine leaves its command, or the engine is POSTING with it held (07 R142). -/
def Management.offer (m : Management) (response : Frame) : Management :=
  if m.responseQueue.length < Config.responseQueueSize then
    { m with responseQueue := m.responseQueue ++ [response] }.leave
  else { m with state := .posting, waiting := m.waiting ++ [⟨.engine, response⟩] }

/-- The current command `f` answered: its response formed with the address held now, stored, and offered (07 R136). -/
def Management.respond (m : Management) (f : Frame) (status : Status) (payload : List Byte) : Management :=
  let r := responseFrame m.address f.seq f.aux status payload
  (m.store r).offer r

/-- The current command `f` answered (07 R136). -/
def State.respond (s : State) (f : Frame) (status : Status) (payload : List Byte) : State :=
  { s with mgmt := s.mgmt.respond f status payload }

/-- The engine leaves its command without a response (07 Table 7-4). -/
def State.leave (s : State) : State := { s with mgmt := s.mgmt.leave }

/-- The loader offers its formed response: it joins the queue and the loader is IDLE, or the loader is POSTING with it held (05 R101 step 5). -/
def State.offerLoader (s : State) (response : Frame) : State :=
  if s.mgmt.responseQueue.length < Config.responseQueueSize then
    { s with
      mgmt := { s.mgmt with responseQueue := s.mgmt.responseQueue ++ [response] }
      loader := { s.loader with state := .idle, write := none } }
  else
    { s with
      mgmt := { s.mgmt with waiting := s.mgmt.waiting ++ [⟨.loader, response⟩] }
      loader := { s.loader with state := .posting } }

/-- The response formed first among those held takes a place of the response queue, and its holder leaves POSTING (07 R143, 05 R103). -/
def State.placePosted (s : State) : State :=
  match s.mgmt.waiting with
  | [] => s
  | ⟨holder, response⟩ :: rest =>
    if s.mgmt.responseQueue.length < Config.responseQueueSize then
      let m := { s.mgmt with waiting := rest, responseQueue := s.mgmt.responseQueue ++ [response] }
      match holder with
      | .engine => { s with mgmt := m.leave }
      | .loader => { s with mgmt := m, loader := { s.loader with state := .idle, write := none } }
    else s

/-! ### The common checks of a command (07 R135) -/

/-- The command the engine holds and has not yet carried out: it is EXECUTING, and no read-back of it is in progress (07 R134, log 3). -/
def Management.inHand (m : Management) : Option Frame :=
  if m.state = .executing ∧ m.readBack = none then m.current else none

/-- An addressed command, not a broadcast copy (01 R22: a broadcast's target is 63, a node's address never). -/
def Frame.addressed (f : Frame) : Bool := f.addr != broadcastTarget

/-- A new command reaches check 2 of 07 R135: its manager's cache entry is in progress with its tag (07 R137). -/
def State.begun (s : State) (f : Frame) : State := { s with mgmt := s.mgmt.setEntry f.aux (.inProgress f.seq) }

/-- Check 1 of 07 R135, the reply cache (R138): a repeat of an answered command is answered from the cache, a repeat of one in progress is dropped,
and any other command goes on with its entry in progress (R137). -/
def State.cacheCheck (s : State) (f : Frame) (go : State → State) : State :=
  match s.mgmt.entry f.aux with
  | .answered tag response =>
    if tag = f.seq then
      let s := s.countNode fun c => { c with retransmitAnswered := c.retransmitAnswered + 1 }
      { s with mgmt := s.mgmt.offer response }
    else go (s.begun f)
  | .inProgress tag =>
    if tag = f.seq then
      (s.countNode fun c => { c with dupInProgress := c.dupInProgress + 1 }).leave
    else go (s.begun f)
  | .empty => go (s.begun f)

/-- Check 3 of 07 R135, the length rule, then the rest of the command. -/
def State.lengthCheck (s : State) (f : Frame) (ok : List Byte → Bool) (go : State → State) : State :=
  if ok f.payload then go s else s.respond f .badLength []

/-- An addressed command in hand that `accepts` picks out is taken through the reply cache and its length rule to its own checks and effect `body`
(07 R135); with no such command in hand the row leaves the part as it is (log 2). -/
def State.command (s : State) (accepts : Frame → Bool) (lengthOk : List Byte → Bool) (body : Frame → State → State) :
    Host.Outcome State Fault Refusal :=
  match s.mgmt.inHand with
  | some f =>
    if f.addressed && accepts f then .next (s.cacheCheck f fun s => s.lengthCheck f lengthOk (body f)) else .next s
  | none => .next s

/-- The frame carries a command code. -/
def Frame.hasCode (code : Byte) (f : Frame) : Bool := f.code == code

/-- The payload has `n` bytes. -/
def lengthIs (n : Nat) (p : List Byte) : Bool := p.length == n

/-! ### Pages (03 R44 to R46) and descriptors (R50 to R54) -/

/-- A descriptor becomes EMPTY: its pages join the tail of the free list in page list order (03 R50, steps 1 and 2). -/
def CurveStore.reclaim (t : CurveStore) (c : CurveId) : CurveStore :=
  { t.modCurve c fun d => { d with state := .empty, knots := 0, pages := [] } with free := t.free ++ t.curves[c].pages }

/-- The reclamation of a descriptor with its CURVE_FREED notice (03 R50). -/
def State.reclaim (s : State) (c : CurveId) : State :=
  ({ s with store := s.store.reclaim c }).raise .curveFreed (byteOf c.val) [byteOf (s.curve c).pages.length]

/-- Loose pages whose writing mark is clear go back to the free list in loose set order; a marked page stays (03 R46). -/
def CurveStore.returnLoose (t : CurveStore) : CurveStore :=
  { t with
    free := t.free ++ (t.loose.filter fun p => !p.writing).map LoosePage.page
    loose := t.loose.filter LoosePage.writing }

/-- How many pages `returnLoose` returns (03 R46). -/
def CurveStore.returnCount (t : CurveStore) : Nat := (t.loose.filter fun p => !p.writing).length

/-- Take for write: the page leaves the free list and joins the loose set's tail, marked (03 R45). -/
def CurveStore.takeForWrite (t : CurveStore) (p : PageId) : CurveStore :=
  { t with free := t.free.erase p, loose := t.loose ++ [⟨p, true⟩] }

/-- Write done: the page's writing mark is cleared in place (03 R45). -/
def CurveStore.writeDone (t : CurveStore) (p : PageId) : CurveStore :=
  { t with loose := t.loose.map fun q => if q.page = p then { q with writing := false } else q }

/-- Return writing page: the page leaves the loose set for the free list's tail (03 R45). -/
def CurveStore.returnWriting (t : CurveStore) (p : PageId) : CurveStore :=
  { t with
    free := t.free ++ (t.loose.filter fun q => q.page = p).map LoosePage.page
    loose := t.loose.filter fun q => q.page ≠ p }

/-- The curve's pages and slots a knot index names: slot k mod 16 of the page at position k div 16 (03 R47). -/
def CurveStore.knotAt (t : CurveStore) (pages : List PageId) (k : Nat) : Option Knot :=
  (pages[k / 16]?).map fun p => t.pages[p][k % 16]'(Nat.mod_lt _ (by decide))

/-- A pin claim of +1 (03 R54). -/
def State.pin (s : State) (c : CurveId) : State := s.modCurve c fun d => { d with pins := d.pins + 1 }

/-- A pin claim of -1; one that brings a RETIRING curve to 0 empties it (03 R54). -/
def State.unpin (s : State) (c : CurveId) : State :=
  let s := s.modCurve c fun d => { d with pins := d.pins - 1 }
  if (s.curve c).state = .retiring ∧ (s.curve c).pins = 0 then s.reclaim c else s

/-- A release request on the state a bind has left (03 R52). -/
def State.releaseRequest (s : State) (c : CurveId) : State :=
  let d := s.curve c
  if d.state = .built ∧ d.reservations = 0 then
    if d.pins = 0 then s.reclaim c else s.modCurve c fun d => { d with state := .retiring }
  else s

end Sys2Proof.Machine
end

