-- ==== Sys2Proof/Machine/Channels.lean ====
section
/-! DEFINITION. The channel commands and fencing: MAP_CHANNEL, SET_CHANNEL, GET_CHANNEL, FENCE_APPLY (chapter 02). -/

namespace Sys2Proof.Machine

/-! ### What the pending bind set reserves (06 R117) -/

/-- The channel is named in a pair of the pending bind set. -/
def State.channelPending (s : State) (channel : Byte) : Bool :=
  s.bind.elim false fun b => b.pairs.any fun p => p.channel == channel

/-- The channel is named in the pending bind set with a curve of NONE (02 R33, check 4). -/
def State.channelPendingNone (s : State) (channel : Byte) : Bool :=
  s.bind.elim false fun b => b.pairs.any fun p => p.channel == channel && p.curve.isNone

/-! ### The live state -/

/-- The live state reset at mapping (02 R32): the limit state becomes NORMAL where a record is present. -/
def Context.resetLive (c : Context) : Context :=
  { c with
    expected := none
    acc := .empty
    limits := c.limits.map fun l => { l with state := .normal }
    outSeq := 0 }

/-- Values discarded by emptying a context's accumulator, counted (02 R28). -/
def State.countDiscard (s : State) (k : ContextId) (n : Nat) : State :=
  s.countContext k fun c => { c with decimDiscard := c.decimDiscard + amount n }

/-! ### MAP_CHANNEL (02 R30, R31) -/

/-- The target of a MAP_CHANNEL: a context, NONE (0xFF), or neither (02 Table 2-2). -/
def mapTarget (b : Byte) : Option (Option ContextId) :=
  if b = 0xFF then some none else (contextOf b).map some

/-- The change MAP_CHANNEL makes, as one event (02 R31). -/
def State.applyMap (s : State) (channel : Byte) (target : Option ContextId) : State :=
  let s := match s.table.lookup channel with
    | some old => s.modContext old fun c => { c with channel := none }
    | none => s
  let s := { s with table := s.table.setEntry channel target }
  match target with
  | some k =>
    (s.countDiscard k (s.context k).acc.count).modContext k fun c => { c.resetLive with channel := some channel }
  | none => s

/-- MAP_CHANNEL applied and answered (02 R31). -/
def State.finishMap (s : State) (f : Frame) (channel : Byte) (target : Option ContextId) : State :=
  (s.applyMap channel target).respond f .ok [channel, contextByte (s.table.lookup channel), contextByte target]

/-! ### SET_CHANNEL (02 R33, R34) -/

/-- A SET_CHANNEL payload whose fields are in range (02 Table 2-3, checks 1 and 2). -/
structure ChannelSettings where
  context : ContextId
  mode : Mode
  decimation : Nat
  limitNotices : Bool
  seqGapNotices : Bool
  bounds : Option LimitRecord
  deriving DecidableEq, Repr

/-- The limit record of a SET_CHANNEL payload: the bytes after the flags, when bit 2 is set (02 Table 2-3). -/
def boundsOf (flags : Byte) (rest : List Byte) : Option LimitRecord :=
  if flags.getLsbD 2 then
    match halvesOf rest with
    | low :: high :: h :: _ => some ⟨low, high, h⟩
    | _ => none
  else none

/-- A limit record SET_CHANNEL accepts: L at most H, hysteresis at most 4095 (02 R27; the hysteresis is unsigned, log 14). -/
def LimitRecord.ok (r : LimitRecord) : Bool := r.low.toInt ≤ r.high.toInt && r.hysteresis.toNat ≤ 4095

/-- The settings a SET_CHANNEL payload names, none where a field is out of range (02 R33, checks 1 and 2). -/
def settingsOf (payload : List Byte) : Option ChannelSettings :=
  match payload with
  | context :: mode :: n :: flags :: rest =>
    match contextOf context, Mode.ofCode mode with
    | some k, some m =>
      let bounds := boundsOf flags rest
      if 1 ≤ n.toNat ∧ n.toNat ≤ 16 ∧ flags.toNat < 8 ∧ bounds.all LimitRecord.ok then
        some ⟨k, m, n.toNat, flags.getLsbD 0, flags.getLsbD 1, bounds⟩
      else none
    | _, _ => none
  | _ => none

/-- SET_CHANNEL empties the accumulator: N or the limit record differs, or the mode leaves COND (02 R34). -/
def Context.emptiedBy (c : Context) (p : ChannelSettings) : Bool :=
  c.decimation != p.decimation || c.limits.map Limits.bounds != p.bounds || (c.mode == .cond && p.mode != .cond)

/-- The number of values SET_CHANNEL discards (02 R34). -/
def Context.discardedBy (c : Context) (p : ChannelSettings) : Nat := if c.emptiedBy p then c.acc.count else 0

/-- The context SET_CHANNEL leaves (02 R34): a limit record that differs starts NORMAL, an unchanged one keeps its state;
a mode that becomes COND makes the expected sequence UNKNOWN; the output sequence is never changed. -/
def Context.settings (c : Context) (p : ChannelSettings) : Context :=
  { c with
    mode := p.mode
    decimation := p.decimation
    limits := if c.limits.map Limits.bounds = p.bounds then c.limits else p.bounds.map fun b => ⟨b, .normal⟩
    limitNotices := p.limitNotices
    seqGapNotices := p.seqGapNotices
    expected := if c.mode ≠ .cond ∧ p.mode = .cond then none else c.expected
    acc := if c.emptiedBy p then .empty else c.acc }

/-- The change SET_CHANNEL makes, as one event (02 R34). -/
def State.applySettings (s : State) (p : ChannelSettings) : State :=
  (s.countDiscard p.context ((s.context p.context).discardedBy p)).modContext p.context fun c => c.settings p

/-- SET_CHANNEL applied and answered (02 R34). -/
def State.finishSettings (s : State) (f : Frame) (p : ChannelSettings) : State :=
  (s.applySettings p).respond f .ok [byteOf p.context.val, byteOf ((s.context p.context).discardedBy p)]

/-! ### Fencing (02 R36, R37) -/

/-- The context's fence set or cleared. -/
def State.setFence (s : State) (k : ContextId) (b : Bool) : State := s.modContext k fun c => { c with fenced := b }

/-- A fenced command accepted while its context has frames in flight: the fence is set and the engine waits (02 R36). -/
def State.fence (s : State) (k : ContextId) : State :=
  let s := s.setFence k true
  { s with mgmt := { s.mgmt with state := .fenceWait } }

/-- The context a fenced command is fenced on: the old context for MAP_CHANNEL, the named one for SET_CHANNEL (02 R36). -/
def State.fenceTarget (s : State) (f : Frame) : Option ContextId :=
  if f.code = codeMapChannel then f.payload.head?.bind s.table.lookup
  else if f.code = codeSetChannel then f.payload.head?.bind contextOf
  else none

/-- The effect and the response of a fenced command whose checks have passed (02 R31, R34). -/
def State.finishFenced (s : State) (f : Frame) : State :=
  if f.code = codeMapChannel then
    match f.payload with
    | [channel, target] =>
      match mapTarget target with
      | some t => s.finishMap f channel t
      | none => s
    | _ => s
  else
    match settingsOf f.payload with
    | some p => s.finishSettings f p
    | none => s

/-- The current command in FENCE_WAIT and its context, when the context is fenced and its in-flight count is 0 (02 R37). -/
def State.fenceDue (s : State) : Option (Frame × ContextId) :=
  if s.mgmt.state = .fenceWait then
    match s.mgmt.current with
    | some f =>
      match s.fenceTarget f with
      | some k => if (s.context k).fenced ∧ (s.context k).inFlight = 0 then some (f, k) else none
      | none => none
    | none => none
  else none

/-- The event "in-flight count reaches 0" on a fenced context: the command's effect, the fence cleared, the response (02 R37).
Elsewhere it has no effect (R29). The fence is cleared before the response is formed; no block reads it in between. -/
def State.settleFence (s : State) : State :=
  match s.fenceDue with
  | some (f, k) => (s.setFence k false).finishFenced f
  | none => s

/-! ### The rows -/

/-- MAP_CHANNEL's own checks in order, then the fenced command (02 R30, R36). -/
def mapChannelBody (f : Frame) (s : State) : State :=
  match f.payload with
  | [channel, target] =>
    match mapTarget target with
    | none => s.respond f .badArg []
    | some t =>
      let holder := t.bind fun k => (s.context k).channel
      if s.channelPending channel || holder.any s.channelPending then s.respond f .reserved []
      else
        match holder with
        | some other =>
          if other ≠ channel then s.respond f .inUse [other] else fenceOrFinish s
        | none => fenceOrFinish s
  | _ => s.respond f .badLength []
where
  /-- The command applies at once, or its context has frames in flight and is fenced (02 R36). -/
  fenceOrFinish (s : State) : State :=
    match s.fenceTarget f with
    | some k => if (s.context k).inFlight = 0 then s.finishFenced f else s.fence k
    | none => s.finishFenced f

/-- MAP_CHANNEL (02 R30). -/
def execMapChannel (s : State) : Host.Outcome State Fault Refusal :=
  s.command (Frame.hasCode codeMapChannel) (lengthIs 2) mapChannelBody

/-- SET_CHANNEL's own checks in order, then the fenced command (02 R33, R36). -/
def setChannelBody (f : Frame) (s : State) : State :=
  match settingsOf f.payload with
  | none => s.respond f .badArg []
  | some p =>
    let c := s.context p.context
    if p.mode = .cond ∧ c.curve = none then s.respond f .badState []
    else if p.mode = .cond ∧ c.channel.any s.channelPendingNone then s.respond f .reserved []
    else if c.inFlight = 0 then s.finishSettings f p
    else s.fence p.context

/-- SET_CHANNEL (02 R33). -/
def execSetChannel (s : State) : Host.Outcome State Fault Refusal :=
  s.command (Frame.hasCode codeSetChannel) setChannelLength setChannelBody

/-- GET_CHANNEL's response payload (02 Table 2-4). -/
def Context.report (c : Context) (k : ContextId) : List Byte :=
  let bounds := (c.limits.map Limits.bounds).getD ⟨0, 0, 0⟩
  [byteOf k.val, c.presence, c.channel.getD 0, c.mode.code, byteOf (c.curve.elim 0 Fin.val), byteOf c.decimation]
    ++ halfBytes bounds.low ++ halfBytes bounds.high ++ halfBytes bounds.hysteresis
    ++ [c.expected.getD 0, byteOf c.acc.count] ++ wordBytes (BitVec.ofInt 32 c.acc.sum)
    ++ [c.acc.clampByte, (c.limits.elim LimitState.normal Limits.state).code, c.outSeq, byteOf c.inFlight]

/-- GET_CHANNEL's own check and answer (02 R35). -/
def getChannelBody (f : Frame) (s : State) : State :=
  match f.payload.head?.bind contextOf with
  | some k => s.respond f .ok ((s.context k).report k)
  | none => s.respond f .badArg []

/-- GET_CHANNEL (02 R35). -/
def execGetChannel (s : State) : Host.Outcome State Fault Refusal :=
  s.command (Frame.hasCode codeGetChannel) (lengthIs 1) getChannelBody

/-- FENCE_APPLY (02 R37): the waiting command applied when its context is quiet. A slot release that makes it so applies it in its own
event (log 4); this row takes it wherever it is still due. -/
def execFenceApply (s : State) : Host.Outcome State Fault Refusal := .next s.settleFence

end Sys2Proof.Machine
end

