-- ==== Sys2Proof/Machine/Bind.lean ====
section
/-! DEFINITION. The bind unit: BIND_CHANNELS, PREPARE_BIND, APPLY_BIND and CANCEL_BIND, addressed and by broadcast (chapter 06). -/

namespace Sys2Proof.Machine

/-! ### Validation (06 R112) -/

/-- The reason a pair fails, the channels of earlier pairs given; none when it passes (06 Table 6-3). -/
def State.pairFault (s : State) (seen : List Byte) (p : RawPair) : Option Byte :=
  if (47 < p.curve.toNat ∧ p.curve ≠ 0xFF) ∨ 1 < p.flags.toNat then some 1
  else if seen.contains p.channel then some 2
  else
    match s.table.lookup p.channel with
    | none => some 3
    | some k =>
      match p.pair.curve with
      | some c => if (s.curve c).state = .empty ∨ (s.curve c).state = .retiring then some 4 else none
      | none => if (s.context k).mode = .cond then some 5 else none

/-- The first pair that fails, as its reason and index (06 R112). -/
def State.validate (s : State) (seen : List Byte) : List RawPair → Option (List Byte)
  | [] => none
  | p :: rest =>
    match s.pairFault seen p with
    | some reason => some [reason, byteOf seen.length]
    | none => s.validate (seen ++ [p.channel]) rest

/-- The pairs a payload names (06 R111). -/
def pairsOf (bytes : List Byte) : List Pair := (rawPairsOf bytes).map RawPair.pair

/-! ### Applying a pair set (06 R114, R115, 03 R51 to R53) -/

/-- A context whose bound curve a pair changes (06 R114). -/
structure Change where
  context : ContextId
  old : Option CurveId
  new : Option CurveId
  release : Bool
  deriving DecidableEq, Repr

/-- The change a pair makes; none when its curve is the context's present one (06 R114). -/
def State.changeOf (s : State) (p : Pair) : Option Change :=
  match s.table.lookup p.channel with
  | some k => if (s.context k).curve = p.curve then none else some ⟨k, (s.context k).curve, p.curve, p.release⟩
  | none => none

/-- The changes a pair set makes, in list order (06 R114). -/
def State.changes (s : State) (pairs : List Pair) : List Change := pairs.filterMap s.changeOf

/-- A descriptor after the reference claims of a bind event, taken together; a touched one is LIVE or BUILT by its count (03 R51). -/
def Curve.claim (d : Curve) (c : CurveId) (changes : List Change) : Curve :=
  let gained := changes.countP fun x => x.new == some c
  let lost := changes.countP fun x => x.old == some c
  if gained = 0 ∧ lost = 0 then d
  else
    let refs := d.refs + gained - lost
    { d with refs := refs, state := if refs = 0 then .built else .live }

/-- The bound curve fields written (06 R114). -/
def ChannelTable.bindAll (t : ChannelTable) (changes : List Change) : ChannelTable :=
  changes.foldl (fun t x => { t with contexts := vmod t.contexts x.context fun c => { c with curve := x.new } }) t

/-- The changes written and claimed (06 R114). -/
def State.applyChanges (s : State) (changes : List Change) : State :=
  { s with
    table := s.table.bindAll changes
    store := { s.store with curves := Vector.ofFn fun c => (s.curve c).claim c changes } }

/-- The old curves a release is asked for, each once, in the order of the first pair that left it (06 R115). -/
def releasesOf (changes : List Change) : List CurveId :=
  ((changes.filter Change.release).filterMap Change.old).eraseDups

/-- The release requests of a bind event (06 R115). -/
def State.releaseAll (s : State) (curves : List CurveId) : State := curves.foldl State.releaseRequest s

/-- How many pairs name a curve (03 R53). -/
def naming (pairs : List Pair) (c : CurveId) : Nat := pairs.countP fun p => p.curve == some c

/-- A reservation claim of +1 for each pair that names a curve (03 R53). -/
def State.reserve (s : State) (pairs : List Pair) : State :=
  { s with store := { s.store with
      curves := Vector.ofFn fun c => { s.curve c with reservations := (s.curve c).reservations + naming pairs c } } }

/-- A reservation claim of -1 for each pair that names a curve (03 R53). -/
def State.unreserve (s : State) (pairs : List Pair) : State :=
  { s with store := { s.store with
      curves := Vector.ofFn fun c => { s.curve c with reservations := (s.curve c).reservations - naming pairs c } } }

/-- A pair set bound at once: changes, then release requests (06 R113 to R115). -/
def State.bindNow (s : State) (pairs : List Pair) : State :=
  (s.applyChanges (s.changes pairs)).releaseAll (releasesOf (s.changes pairs))

/-- The pending set applied: changes, reservations returned, the set absent, release requests (06 R121). -/
def State.applyPending (s : State) (b : PendingBind) : State :=
  let s' := (s.applyChanges (s.changes b.pairs)).unreserve b.pairs
  ({ s' with bind := none }).releaseAll (releasesOf (s.changes b.pairs))

/-- The pending set cancelled: reservations returned, the set absent (06 R122). -/
def State.cancelPending (s : State) (b : PendingBind) : State := { s.unreserve b.pairs with bind := none }

/-! ### BIND_CHANNELS and PREPARE_BIND (06 R113, R118) -/

/-- BIND_CHANNELS's own checks in order, and its effect (06 R113). -/
def bindChannelsBody (f : Frame) (s : State) : State :=
  let pairs := pairsOf f.payload
  match s.validate [] (rawPairsOf f.payload) with
  | some payload => s.respond f .badArg payload
  | none =>
    match pairs.findIdx? fun p => s.channelPending p.channel with
    | some i => s.respond f .reserved [byteOf i]
    | none => (s.bindNow pairs).respond f .ok [byteOf pairs.length, byteOf (s.changes pairs).length]

/-- BIND_CHANNELS (06 R113). -/
def execBindChannels (s : State) : Host.Outcome State Fault Refusal :=
  s.command (Frame.hasCode codeBindChannels) bindChannelsLength bindChannelsBody

/-- PREPARE_BIND's own checks in order, and its effect (06 R118). -/
def prepareBindBody (f : Frame) (s : State) : State :=
  match f.payload with
  | tag :: rest =>
    if tag = 0 then s.respond f .badArg [6, 0]
    else
      match s.bind with
      | some b => s.respond f .busy [b.tag]
      | none =>
        match s.validate [] (rawPairsOf rest) with
        | some payload => s.respond f .badArg payload
        | none =>
          let pairs := pairsOf rest
          ({ s.reserve pairs with bind := some ⟨tag, pairs⟩ }).respond f .ok [tag, byteOf pairs.length]
  | [] => s.respond f .badLength []

/-- PREPARE_BIND (06 R118). -/
def execPrepareBind (s : State) : Host.Outcome State Fault Refusal :=
  s.command (Frame.hasCode codePrepareBind) prepareBindLength prepareBindBody

/-! ### APPLY_BIND and CANCEL_BIND, addressed (06 R119, R122) -/

/-- The first payload byte, the tag. -/
def Frame.bindTag (f : Frame) : Byte := f.payload.headD 0

/-- An addressed APPLY_BIND's own checks in order, and its effect (06 R119). -/
def applyBindBody (f : Frame) (s : State) : State :=
  match s.bind with
  | none => s.respond f .badState []
  | some b =>
    if f.bindTag = b.tag then
      (s.applyPending b).respond f .ok [b.tag, byteOf b.pairs.length, byteOf (s.changes b.pairs).length]
    else s.respond f .badArg [b.tag]

/-- APPLY_BIND, addressed (06 R119). -/
def execApplyBind (s : State) : Host.Outcome State Fault Refusal :=
  s.command (Frame.hasCode codeApplyBind) (lengthIs 1) applyBindBody

/-- A tag that cancels a pending set: its own, or 0 (06 R122). -/
def cancels (tag : Byte) (b : PendingBind) : Bool := tag == 0 || tag == b.tag

/-- An addressed CANCEL_BIND's own checks in order, and its effect (06 R122). -/
def cancelBindBody (f : Frame) (s : State) : State :=
  match s.bind with
  | none => s.respond f .badState []
  | some b =>
    if cancels f.bindTag b then (s.cancelPending b).respond f .ok [b.tag, byteOf b.pairs.length]
    else s.respond f .badArg [b.tag]

/-- CANCEL_BIND, addressed (06 R122). -/
def execCancelBind (s : State) : Host.Outcome State Fault Refusal :=
  s.command (Frame.hasCode codeCancelBind) (lengthIs 1) cancelBindBody

/-! ### The broadcast copies (06 R120, R123, 07 R140) -/

/-- A broadcast copy that applies or cancels nothing is counted, and the engine leaves it (06 R120, R123). -/
def State.applyMiss (s : State) : State := (s.countNode fun c => { c with applyMiss := c.applyMiss + 1 }).leave

/-- A broadcast copy in hand with a code: carried out by `body`, without cache, length answer or response (07 R140, 06 R120). -/
def State.broadcastCopy (s : State) (code : Byte) (body : Frame → State → State) : Host.Outcome State Fault Refusal :=
  match s.mgmt.inHand with
  | some f =>
    if !f.addressed && f.hasCode code then
      .next (if f.payload.length = 1 then body f s else s.applyMiss)
    else .next s
  | none => .next s

/-- A broadcast APPLY_BIND on the pending set as it stands (06 R120). -/
def applyBindBroadcastBody (f : Frame) (s : State) : State :=
  match s.bind with
  | some b => if f.bindTag = b.tag then (s.applyPending b).leave else s.applyMiss
  | none => s.applyMiss

/-- APPLY_BIND_BROADCAST (06 R120). -/
def execApplyBindBroadcast (s : State) : Host.Outcome State Fault Refusal :=
  s.broadcastCopy codeApplyBind applyBindBroadcastBody

/-- A broadcast CANCEL_BIND on the pending set as it stands (06 R123). -/
def cancelBindBroadcastBody (f : Frame) (s : State) : State :=
  match s.bind with
  | some b => if cancels f.bindTag b then (s.cancelPending b).leave else s.applyMiss
  | none => s.applyMiss

/-- CANCEL_BIND_BROADCAST (06 R123). -/
def execCancelBindBroadcast (s : State) : Host.Outcome State Fault Refusal :=
  s.broadcastCopy codeCancelBind cancelBindBroadcastBody

end Sys2Proof.Machine
end

