-- ==== Sys2Proof/Machine/CounterCommands.lean ====
section
/-! DEFINITION. READ_COUNTERS: snapshot and clear of one scope (chapter 10). -/

namespace Sys2Proof.Machine

/-- A scope of READ_COUNTERS (10 R183, Table 10-2). -/
inductive Scope
  | port (p : Port)
  | node
  | context (k : ContextId)
  deriving DecidableEq, Repr

/-- The scope a payload's first two bytes name, or the reason they are refused (10 R186, checks 1 and 2). -/
def scopeOf (scope context : Byte) : Except Byte Scope :=
  if scope = 0 then .ok (.port .uPort)
  else if scope = 1 then .ok (.port .dPort)
  else if scope = 2 then .ok .node
  else if scope = 3 then
    match contextOf context with
    | some k => .ok (.context k)
    | none => .error 2
  else .error 1

/-- Bytes 0 and 1 of the answer: the scope, and the context or 0 (10 Table 10-3). -/
def Scope.bytes : Scope → List Byte
  | .port .uPort => [0, 0]
  | .port .dPort => [1, 0]
  | .node => [2, 0]
  | .context k => [3, byteOf k.val]

/-- A port's counters in the order of the answer (10 Table 10-3). -/
def PortCounters.list (c : PortCounters) : List Count :=
  [c.lengthErr, c.crcErr, c.kindErr, c.direction, c.overrun, c.linkFlush, c.outDiscard]

/-- The node's counters in the order of the answer (10 Table 10-3). -/
def NodeCounters.list (c : NodeCounters) : List Count :=
  [c.unmappedFwd, c.unmappedDrop, c.badManager, c.cmdDropped, c.bcastIgnored, c.dupInProgress, c.retransmitAnswered,
   c.applyMiss, c.noticeCoalesced, c.noticesLost, c.acked]

/-- A context's counters in the order of the answer (10 Table 10-3). -/
def ContextCounters.list (c : ContextCounters) : List Count :=
  [c.framesIn, c.samplesIn, c.offDrop, c.late, c.seqMissing, c.clampLow, c.clampHigh, c.limitEvents, c.outputs, c.decimDiscard]

/-- The counters of a scope (10 R187). -/
def Counters.read (c : Counters) : Scope → List Count
  | .port .uPort => c.uPort.list
  | .port .dPort => c.dPort.list
  | .node => c.node.list
  | .context k => c.contexts[k].list

/-- Every counter of a scope set to 0 (10 R188). -/
def Counters.clear (c : Counters) : Scope → Counters
  | .port .uPort => { c with uPort := .zero }
  | .port .dPort => { c with dPort := .zero }
  | .node => { c with node := .zero }
  | .context k => { c with contexts := vmod c.contexts k fun _ => .zero }

/-- The scope cleared after the snapshot, when the clear flag is set (10 R188). -/
def State.clearScope (s : State) (x : Scope) (clear : Bool) : State :=
  if clear then { s with counters := s.counters.clear x } else s

/-- READ_COUNTERS's response payload (10 Table 10-3). -/
def Counters.report (c : Counters) (x : Scope) (clear : Bool) : List Byte :=
  x.bytes ++ [flagByte clear] ++ (c.read x).flatMap wordBytes

/-- READ_COUNTERS's own checks in order, its snapshot and clear (10 R186 to R188). -/
def readCountersBody (f : Frame) (s : State) : State :=
  match f.payload with
  | [scope, context, flags] =>
    match scopeOf scope context with
    | .error reason => s.respond f .badArg [reason]
    | .ok x =>
      if 1 < flags.toNat then s.respond f .badArg [3]
      else
        let clear := flags.getLsbD 0
        (s.clearScope x clear).respond f .ok (s.counters.report x clear)
  | _ => s.respond f .badLength []

/-- READ_COUNTERS (10 R186). -/
def execReadCounters (s : State) : Host.Outcome State Fault Refusal :=
  s.command (Frame.hasCode codeReadCounters) (lengthIs 3) readCountersBody

end Sys2Proof.Machine
end

