-- ==== Sys2Proof/Machine/Links.lean ====
section
/-! DEFINITION. The RESETn pin and the link ports: RESETN_RELEASE, CARRIER_DETECT, ALIGNMENT_ACHIEVED, CARRIER_LOSS, FRAME_ARRIVAL, FRAME_SENT (chapter 01, 07 R150). -/

namespace Sys2Proof.Machine

/-- RESETN_RELEASE (07 R150): every block in its power-on state. The model's own fields go on (log 19). -/
def execResetnRelease (s : State) : Host.Outcome State Fault Refusal :=
  .next { State.reset with fresh := s.fresh, pending := s.pending }

/-! ### Link states (01 R9, R10, R14) -/

/-- The raise of a port's LINK_CHANGE (01 R10). -/
def State.raiseLink (s : State) (p : Port) (l : LinkState) : State := s.raise .linkChange (portSubject p) [l.code]

/-- CARRIER_DETECT (01 R9): DOWN goes to ALIGN, any other state stays. -/
def execCarrierDetect (port : Port) (s : State) : Host.Outcome State Fault Refusal :=
  let x := s.port port
  if x.link = .down then .next (s.setPort port { x with link := .align }) else .next s

/-- ALIGNMENT_ACHIEVED (01 R9): ALIGN goes to UP, which is raised (R10); any other state stays. -/
def execAlignmentAchieved (port : Port) (s : State) : Host.Outcome State Fault Refusal :=
  let x := s.port port
  if x.link = .align then .next ((s.setPort port { x with link := .up }).raiseLink port .up) else .next s

/-- One when the transmitter is SENDING: the frame abandoned (01 R15). -/
def Transmitter.abandoned : Transmitter → Count
  | .idle => 0
  | .sending _ => 1

/-- A port leaves UP: DOWN, its buffer emptied and counted, its frame being sent abandoned and counted, the loss raised (01 R10, R14, R15). -/
def State.leaveUp (s : State) (p : Port) : State :=
  let x := s.port p
  let s := (s.setPort p ⟨.down, [], .idle⟩).countPort p fun c =>
    { c with linkFlush := c.linkFlush + amount x.buffer.length, outDiscard := c.outDiscard + x.tx.abandoned }
  s.raiseLink p .down

/-- CARRIER_LOSS (01 R9, R14): from UP with its flush and notice, from ALIGN without, in DOWN no change. -/
def execCarrierLoss (port : Port) (s : State) : Host.Outcome State Fault Refusal :=
  match (s.port port).link with
  | .up => .next (s.leaveUp port)
  | .align => .next (s.setPort port { s.port port with link := .down })
  | .down => .next s

/-! ### Frame arrival (01 R11 to R13) -/

/-- The kinds a port accepts (01 R12). -/
def rightDirection : Port → FrameKind → Bool
  | .uPort, k => k != .cmd && k != .enum
  | .dPort, k => k == .cmd || k == .enum

/-- A failed receive check counted (01 Table 1-10). -/
def PortCounters.countError (c : PortCounters) : ReceiveError → PortCounters
  | .lengthErr => { c with lengthErr := c.lengthErr + 1 }
  | .crcErr => { c with crcErr := c.crcErr + 1 }
  | .kindErr => { c with kindErr := c.kindErr + 1 }

/-- A checked frame joins the receive buffer's tail, or finds it full (01 R13). -/
def State.joinBuffer (s : State) (p : Port) (f : Frame) : State :=
  let x := s.port p
  if x.buffer.length < bufferSize p then s.setPort p { x with buffer := x.buffer ++ [f] }
  else s.countPort p fun c => { c with overrun := c.overrun + 1 }

/-- A frame arrival at a port in UP: the receive checks, the direction check, the buffer (01 R11 to R13). -/
def State.arrive (s : State) (p : Port) (run : List Byte) : State :=
  match receive run with
  | .error e => s.countPort p fun c => c.countError e
  | .ok f =>
    if rightDirection p f.kind then s.joinBuffer p f
    else s.countPort p fun c => { c with direction := c.direction + 1 }

/-- FRAME_ARRIVAL (01 R11). In DOWN and ALIGN bytes are discarded without an arrival (R9). -/
def execFrameArrival (port : Port) (run : List Byte) (s : State) : Host.Outcome State Fault Refusal :=
  if (s.port port).link = .up then .next (s.arrive port run) else .next s

/-! ### Frame sent (01 R15) -/

/-- FRAME_SENT (01 R15): the last CRC byte has gone and the transmitter is IDLE. -/
def execFrameSent (port : Port) (s : State) : Host.Outcome State Fault Refusal :=
  .next (s.setPort port { s.port port with tx := .idle })

end Sys2Proof.Machine
end

