-- ==== Sys2Proof/Machine/Classifier.lean ====
section
/-! DEFINITION. The two classifiers: DATA_CLASSIFIER_TAKE behind the U-port, COMMAND_CLASSIFIER_TAKE behind the D-port, with enumeration (01 R17 to R23, 07 R129, R130, R133, R139). -/

namespace Sys2Proof.Machine

/-! ### The data classifier (01 R17 to R19) -/

/-- What the data classifier decides of a head frame (01 R17, R18, Table 1-13). -/
inductive DataDecision
  /-- Another node's frame, to the forward queue. -/
  | passOther
  /-- A SAMPLE frame of an unmapped channel under FORWARD, to the forward queue. -/
  | passUnmapped
  /-- A SAMPLE frame of a PASS context, to the forward queue. -/
  | passContext (k : ContextId)
  /-- A SAMPLE frame of an unmapped channel under DROP. -/
  | dropUnmapped
  /-- A SAMPLE frame of an OFF context. -/
  | dropOff (k : ContextId)
  /-- Held back by a fence. -/
  | fenced
  /-- A SAMPLE frame of a COND context: the lookup's (04 R66). -/
  | offered
  deriving DecidableEq, Repr

/-- The decision, from the state at the moment of taking (01 R17 to R19). -/
def State.decide (s : State) (f : Frame) : DataDecision :=
  if f.kind = .sample then
    match s.table.lookup f.addr with
    | none =>
      match s.mgmt.params.unmappedPolicy with
      | .forward => .passUnmapped
      | .drop => .dropUnmapped
    | some k =>
      if (s.context k).fenced then .fenced
      else
        match (s.context k).mode with
        | .off => .dropOff k
        | .pass => .passContext k
        | .cond => .offered
  else .passOther

/-- The decision sends the frame to the forward queue. -/
def DataDecision.passes : DataDecision → Bool
  | .passOther | .passUnmapped | .passContext _ => true
  | .dropUnmapped | .dropOff _ | .fenced | .offered => false

/-- What a decision counts when the frame is taken (01 R18, Table 1-13). -/
def State.countDecision (s : State) : DataDecision → State
  | .passUnmapped => s.countNode fun c => { c with unmappedFwd := c.unmappedFwd + 1 }
  | .passContext k => s.countContext k fun c => { c with framesIn := c.framesIn + 1 }
  | .dropUnmapped => s.countNode fun c => { c with unmappedDrop := c.unmappedDrop + 1 }
  | .dropOff k => s.countContext k fun c => { c with offDrop := c.offDrop + 1 }
  | .passOther | .fenced | .offered => s

/-- The forward queue is full (09 R171). -/
def State.forwardFull (s : State) : Bool := Config.fqSize ≤ s.merger.fq.length

/-- The data classifier takes the head frame to the forward queue or drops it; a frame that must wait, and one that is the lookup's, stays (01 R17 to R19). -/
def State.classifyData (s : State) : State :=
  match s.uPort.buffer with
  | [] => s
  | f :: rest =>
    let d := s.decide f
    let taken := ({ s with uPort := { s.uPort with buffer := rest } }).countDecision d
    match d with
    | .passOther | .passUnmapped | .passContext _ =>
      if s.forwardFull then s else { taken with merger := { taken.merger with fq := taken.merger.fq ++ [f] } }
    | .dropUnmapped | .dropOff _ => taken
    | .fenced | .offered => s

/-- The decision on the head frame, if there is one. -/
def State.headDecision (s : State) : Option DataDecision := s.uPort.buffer.head?.map s.decide

/-- DATA_CLASSIFIER_TAKE (01 R17). -/
def execDataClassifierTake (s : State) : Host.Outcome State Fault Refusal := .next s.classifyData

/-! ### Joining the command queue (01 R21, 07 R133, R134, R139) -/

/-- A frame joins the command queue's tail; an IDLE engine takes the head at once (07 R134). -/
def Management.join (m : Management) (f : Frame) : Management :=
  let m := { m with commandQueue := m.commandQueue ++ [f] }
  if m.state = .idle then m.leave else m

/-- The command queue has no place (07 R133). -/
def Management.commandFull (m : Management) : Bool := Config.commandQueueSize ≤ m.commandQueue.length

/-- A command the queue has no place for is dropped and counted (01 R21, R22). -/
def State.dropCommand (s : State) : State := s.countNode fun c => { c with cmdDropped := c.cmdDropped + 1 }

/-- A holder in POSTING holds a response to this manager with this tag (07 R142). -/
def Management.holdsAnswer (m : Management) (manager tag : Byte) : Bool :=
  m.waiting.any fun h => h.frame.aux == manager && h.frame.seq == tag

/-- A frame that repeats a command whose answer is still to come out: its manager's cache entry holds its tag, in progress (07 R139), or answered with
the response still held in POSTING (05 R103, 07 R139, R144). That the second is dropped too is a choice between sentences of the spec (log 27). -/
def Management.repeatsUnanswered (m : Management) (f : Frame) : Bool :=
  match m.entry f.aux with
  | .inProgress tag => tag == f.seq
  | .answered tag _ => tag == f.seq && m.holdsAnswer f.aux tag
  | .empty => false

/-- An addressed command arrives at the command queue: dropped when it is full (01 R21, log 15), removed as a repeat of a command whose answer is still to
come out (07 R139, log 27), else joining. -/
def State.arriveCommand (s : State) (f : Frame) : State :=
  if s.mgmt.commandFull then s.dropCommand
  else if s.mgmt.repeatsUnanswered f then
    s.countNode fun c => { c with dupInProgress := c.dupInProgress + 1 }
  else { s with mgmt := s.mgmt.join f }

/-- The broadcast codes this node acts on (01 R22). -/
def Frame.actsByBroadcast (f : Frame) : Bool := f.code == codeApplyBind || f.code == codeCancelBind

/-- The part of a broadcast that concerns this node: a copy of APPLY_BIND or CANCEL_BIND joins the command queue, any other code is counted (01 R22). -/
def State.arriveBroadcast (s : State) (f : Frame) : State :=
  if f.actsByBroadcast then
    if s.mgmt.commandFull then s.dropCommand else { s with mgmt := s.mgmt.join f }
  else s.countNode fun c => { c with bcastIgnored := c.bcastIgnored + 1 }

/-! ### Enumeration (07 R129, R130) -/

/-- What an ENUM frame does to a node: the own address and the field sent upstream (07 Table 7-2). -/
structure Enumeration where
  own : Byte
  sent : Byte
  deriving DecidableEq, Repr

/-- The rows of 07 Table 7-2; for a next address of 64..255, which it does not have, both are free values (log 11). -/
def enumerationOf (fresh : Nat) (a : Byte) : Enumeration :=
  if a = 0 then ⟨0, 0⟩
  else if a.toNat ≤ 62 then ⟨a, a + 1⟩
  else if a = 63 then ⟨0, 63⟩
  else ⟨byteOf (Config.enumBeyondOwn fresh a).val, Config.enumBeyondSent fresh a⟩

/-- The next address has no row in 07 Table 7-2, and the enumeration uses free values (log 11). -/
def enumerationFree (a : Byte) : Bool := 63 < a.toNat

/-- The own address set; a change of it empties the reply cache (07 R130). -/
def Management.setAddress (m : Management) (a : Byte) : Management :=
  { m with address := a, cache := if a = m.address then m.cache else .replicate 4 .empty }

/-- A frame joins the up queue's tail (09 R172). -/
def State.joinUp (s : State) (f : Frame) : State := { s with merger := { s.merger with uq := s.merger.uq ++ [f] } }

/-- The up queue is full (09 R172). -/
def State.upFull (s : State) : Bool := Config.uqSize ≤ s.merger.uq.length

/-- The enumeration event: own address, rewritten frame to the up queue (07 R129). The seq, aux and code fields go on as received, though 01 R3 sends 0 in
the frames the part originates: the model's choice where the two differ, in an ENUM frame received with one of them not 0 (log 28). -/
def State.enumerate (s : State) (f : Frame) : State :=
  let e := enumerationOf s.fresh f.addr
  let s' := ({ s with mgmt := s.mgmt.setAddress e.own }).joinUp { f with addr := e.sent }
  { s' with fresh := if enumerationFree f.addr then s.fresh + 1 else s.fresh }

/-! ### The command classifier (01 R20 to R23) -/

/-- What the command classifier decides of a head frame (01 Table 1-14). -/
inductive CommandDecision
  | badManager
  | addressed
  | broadcast
  | other
  /-- A target of 64..255 at a node with an address: the spec names no decision (log 12). -/
  | stray
  | enum
  deriving DecidableEq, Repr

/-- The decision, from the frame and the own address at the moment of taking (01 R20 to R23). -/
def State.decideCommand (s : State) (f : Frame) : CommandDecision :=
  if f.kind = .enum then .enum
  else if 3 < f.aux.toNat then .badManager
  else if f.addr = broadcastTarget then .broadcast
  else if s.mgmt.address = 0 then .other
  else if f.addr = s.mgmt.address then .addressed
  else if f.addr.toNat ≤ 62 then .other
  else .stray

/-- A taking that needs up-queue space: made when there is space, else the frame waits (01 R20). -/
def State.takeUp (s taken : State) (go : State → State) : State := if s.upFull then s else go taken

/-- A stray CMD frame: whether it is forwarded or dropped is a free value (log 12). -/
def State.takeStray (s taken : State) (f : Frame) : State :=
  if Config.strayForwarded s.fresh f.addr then
    s.takeUp taken fun t => { t.joinUp f with fresh := s.fresh + 1 }
  else { taken with fresh := s.fresh + 1 }

/-- The command classifier takes the head frame of the D-port receive buffer, or it waits for up-queue space (01 R20 to R23). -/
def State.classifyCommand (s : State) : State :=
  match s.dPort.buffer with
  | [] => s
  | f :: rest =>
    let taken := { s with dPort := { s.dPort with buffer := rest } }
    match s.decideCommand f with
    | .badManager => taken.countNode fun c => { c with badManager := c.badManager + 1 }
    | .addressed => taken.arriveCommand f
    | .broadcast => s.takeUp taken fun t => (t.joinUp f).arriveBroadcast f
    | .other => s.takeUp taken fun t => t.joinUp f
    | .stray => s.takeStray taken f
    | .enum => s.takeUp taken fun t => t.enumerate f

/-- COMMAND_CLASSIFIER_TAKE (01 R20). -/
def execCommandClassifierTake (s : State) : Host.Outcome State Fault Refusal := .next s.classifyCommand

end Sys2Proof.Machine
end

