-- ==== Sys2Proof/Machine/Convert.lean ====
section
/-! DEFINITION. Converting one raw sample after another: segment search, interpolation, clamping, limit check, decimation (04 R71 to R74). -/

namespace Sys2Proof.Machine

/-- How a sample was clamped (04 R72). -/
inductive Clamp
  | none | low | high
  deriving DecidableEq, Repr

/-- The value on the segment from knot `a` to knot `b`: exact on integers, the quotient truncated toward zero before the first y is added (04 R72). -/
def interpolate (a b : Knot) (r : Half) : Half :=
  BitVec.ofInt 16
    (a.y.toInt + ((r.toInt - a.x.toInt) * (b.y.toInt - a.y.toInt)).tdiv (b.x.toInt - a.x.toInt))

/-- The limit state after a value's check (04 Table 4-5); the differences are computed without wrap. -/
def limitAfter (b : LimitRecord) (from_ : LimitState) (v : Half) : LimitState :=
  let x := v.toInt
  let low := b.low.toInt
  let high := b.high.toInt
  let h : Int := b.hysteresis.toNat
  match from_ with
  | .normal => if x > high then .above else if x < low then .below else .normal
  | .above => if x < low then .below else if x ≤ high - h ∧ x ≥ low then .normal else .above
  | .below => if x > high then .above else if x ≥ low + h ∧ x ≤ high then .normal else .below

/-- The limit check of one value: the working limit state moves, and a transition taken is appended (04 R73). -/
def Working.check (w : Working) (v : Half) : Working :=
  match w.limits with
  | none => w
  | some l =>
    let after := limitAfter l.bounds l.state v
    { w with
      limits := some { l with state := after }
      transitions := if after = l.state then w.transitions else w.transitions ++ [⟨after, v⟩] }

/-- A clamped sample counted, and its flag carried in the accumulator (04 R72). -/
def Working.clamp (w : Working) : Clamp → Working
  | .none => w
  | .low => { w with clampedLow := w.clampedLow + 1, acc := { w.acc with clampLow := true } }
  | .high => { w with clampedHigh := w.clampedHigh + 1, acc := { w.acc with clampHigh := true } }

/-- The average of a full accumulator: the sum divided by N and truncated toward zero (04 R74). -/
def average (sum : Int) (n : Nat) : Half := BitVec.ofInt 16 (sum.tdiv n)

/-- One value added to the accumulator; at N values one output is produced and the accumulator is emptied (04 R74). -/
def Working.accumulate (w : Working) (n : Nat) (v : Half) : Working :=
  let acc := { w.acc with sum := w.acc.sum + v.toInt, count := w.acc.count + 1 }
  if acc.count = n then
    { w with
      acc := .empty
      outputs := w.outputs ++ [⟨average acc.sum n, sampleFlags acc.clampLow acc.clampHigh w.limits⟩] }
  else { w with acc := acc }

/-- One converted value taken: clamp, limit check, decimation, and on to the next raw sample (04 R72 to R74). -/
def Working.take (w : Working) (n : Nat) (clamp : Clamp) (v : Half) : Working :=
  { (((w.clamp clamp).check v).accumulate n v) with next := w.next + 1, search := none }

/-- What the search of a sample comes to (04 R71). -/
inductive SearchResult
  /-- The value, without a further read. -/
  | value (clamp : Clamp) (v : Half)
  /-- A bisection that must read a knot. -/
  | bisect (search : Search)
  deriving DecidableEq, Repr

/-- A bisection goes on while hi - lo is greater than 1; at 1 it ends on the segment it holds (04 R71). -/
def Search.narrow (q : Search) (r : Half) : SearchResult :=
  if q.lo + 1 < q.hi then .bisect q else .value .none (interpolate q.loKnot q.hiKnot r)

/-- The search of a raw sample begins: no read at or beyond an end knot, else the bisection from 0 and K - 1 (04 R71, R72). -/
def searchStart (first last : Knot) (knots : Nat) (r : Half) : SearchResult :=
  let x := r.toInt
  if x < first.x.toInt then .value .low first.y
  else if x = first.x.toInt then .value .none first.y
  else if x > last.x.toInt then .value .high last.y
  else if x = last.x.toInt then .value .none last.y
  else Search.narrow ⟨0, knots - 1, first, last⟩ r

/-- The index a bisection reads next (04 R71). -/
def Search.mid (q : Search) : Nat := (q.lo + q.hi) / 2

/-- The knot at the middle has been read: the search ends at it, or goes on in the half that holds the sample (04 R71). -/
def Search.step (q : Search) (k : Knot) (r : Half) : SearchResult :=
  if k.x.toInt = r.toInt then .value .none k.y
  else if k.x.toInt < r.toInt then Search.narrow { q with lo := q.mid, loKnot := k } r
  else Search.narrow { q with hi := q.mid, hiKnot := k } r

/-- A search carried on to its value, each knot it reads granted in turn; none where the fuel ends first. -/
def searchRun (knotAt : Nat → Knot) (r : Half) : Nat → SearchResult → Option (Clamp × Half)
  | _, .value c v => some (c, v)
  | 0, .bisect _ => none
  | fuel + 1, .bisect q => searchRun knotAt r fuel (q.step (knotAt q.mid) r)

/-- Raw samples converted in payload order for as long as none needs a knot read (04, conversion). -/
def Working.run (w : Working) (n knots : Nat) : List Half → Working
  | [] => w
  | r :: rest =>
    match w.firstKnot, w.lastKnot with
    | some first, some last =>
      match searchStart first last knots r with
      | .value c v => (w.take n c v).run n knots rest
      | .bisect q => { w with search := some q }
    | _, _ => w

/-- The knot a unit's claim reads: knot 0, then knot K - 1, then the middle of the bisection; none when it needs no read (04 R70, R71). -/
def Working.wants (w : Working) (knots : Nat) : Option Nat :=
  match w.firstKnot, w.lastKnot with
  | none, _ => some 0
  | some _, none => some (knots - 1)
  | some _, some _ => w.search.map Search.mid

/-- A unit takes the knot its claim read, and converts on until it needs the next (04 R71). -/
def Working.granted (w : Working) (n knots : Nat) (samples : List Half) (k : Knot) : Working :=
  match w.firstKnot, w.lastKnot with
  | none, _ => { w with firstKnot := some k }
  | some _, none => { w with lastKnot := some k }.run n knots (samples.drop w.next)
  | some _, some _ =>
    match w.search, samples.drop w.next with
    | some q, r :: rest =>
      match q.step k r with
      | .value c v => (w.take n c v).run n knots rest
      | .bisect q => { w with search := some q }
    | _, _ => w

/-- The working record at conversion start: the context's accumulator and limit state, nothing read, nothing produced (04 R70). -/
def Working.start (c : Context) : Working where
  firstKnot := none
  lastKnot := none
  search := none
  acc := c.acc
  limits := c.limits
  next := 0
  outputs := []
  transitions := []
  clampedLow := 0
  clampedHigh := 0

end Sys2Proof.Machine
end

