-- ==== Sys2Proof/Machine/Arbiter.lean ====
section
/-! DEFINITION. The store access port: the four claimants, the arbiter's choice, and the grant of one access period (03 R58 to R60). -/

namespace Sys2Proof.Machine

/-! ### The arbiter's choice (03 R59) -/

/-- Which claimants have a claim waiting (03 R58). -/
structure Claims where
  unit0 : Bool
  unit1 : Bool
  readBack : Bool
  pageWrite : Bool
  deriving DecidableEq, Repr

/-- A conversion claim waits. -/
def Claims.conversion (c : Claims) : Bool := c.unit0 || c.unit1

/-- A read-back or page-write claim waits. -/
def Claims.other (c : Claims) : Bool := c.readBack || c.pageWrite

/-- Who is granted an access period. -/
inductive Grant
  | unit (u : UnitId)
  | other (c : OtherClaimant)
  deriving DecidableEq, Repr

/-- The unit served: the one waiting, or of two the one the last conversion grant did not serve, unit 0 at first (03 R59, step 2). -/
def StoreArbiter.unitTurn (a : StoreArbiter) (c : Claims) : UnitId :=
  if c.unit0 && c.unit1 then (if a.lastUnit = some 0 then 1 else 0) else if c.unit0 then 0 else 1

/-- The other claimant served: the one waiting, or of two the one the last such grant did not serve, read-back at first (03 R59, step 3). -/
def StoreArbiter.otherTurn (a : StoreArbiter) (c : Claims) : OtherClaimant :=
  if c.readBack && c.pageWrite then (if a.lastOther = some .readBack then .pageWrite else .readBack)
  else if c.readBack then .readBack else .pageWrite

/-- The claim granted in a period, none when none waits (03 R59). -/
def StoreArbiter.choose (a : StoreArbiter) (c : Claims) : Option Grant :=
  if c.other && 3 ≤ a.conversionRun then some (.other (a.otherTurn c))
  else if c.conversion then some (.unit (a.unitTurn c))
  else if c.other then some (.other (a.otherTurn c))
  else none

/-- What the arbiter holds after a period: the last-served records, and the count of conversion grants made while a read-back or
page-write claim waited, 0 at each grant to one of those and whenever none waits (03 R58, R59). -/
def StoreArbiter.after (a : StoreArbiter) (c : Claims) : Option Grant → StoreArbiter
  | some (.unit u) => { a with lastUnit := some u, conversionRun := if c.other then a.conversionRun + 1 else 0 }
  | some (.other x) => { a with lastOther := some x, conversionRun := 0 }
  | none => { a with conversionRun := if c.other then a.conversionRun else 0 }

/-! ### The claims and what a grant does -/

/-- The slot a BUSY unit converts. -/
def State.busySlot (s : State) (u : UnitId) : Option (BusyUnit × WorkSlot) :=
  match s.conditioner.units[u] with
  | some b => (s.conditioner.slots[b.slot]).map fun w => (b, w)
  | none => none

/-- The knot a unit's waiting claim would read (04 R70, R71). -/
def State.unitClaim (s : State) (u : UnitId) : Option Knot :=
  match s.busySlot u with
  | some (b, w) => (b.work.wants (s.curve w.curve).knots).bind (s.store.knotAt (s.curve w.curve).pages)
  | none => none

/-- A read-back that has read its last knot, or found one out of order (03 R57, 05 R105). -/
def ReadBack.done (r : ReadBack) : Bool :=
  r.count ≤ r.got.length ||
    (match r.purpose with
     | .orderCheck (some _) => true
     | .orderCheck none => false
     | .readKnots => false)

/-- The knot the read-back's waiting claim would read: knot first + (knots read so far) of its record's pages (03 R57, 05 R105). -/
def State.readBackClaim (s : State) : Option Knot :=
  match s.mgmt.readBack with
  | some r => if r.done then none else s.store.knotAt r.pages (r.first + r.got.length)
  | none => none

/-- The page write's waiting claim: the record, and the slot it writes next (03 R60). -/
def State.pageWriteClaim (s : State) : Option (WriteRecord × Fin 16) :=
  if s.loader.state = .writing then
    match s.loader.write with
    | some r => if h : r.nextSlot < 16 then some (r, ⟨r.nextSlot, h⟩) else none
    | none => none
  else none

/-- The claims waiting in this period (03 R58). -/
def State.claims (s : State) : Claims :=
  ⟨(s.unitClaim 0).isSome, (s.unitClaim 1).isSome, s.readBackClaim.isSome, s.pageWriteClaim.isSome⟩

/-- A unit takes the knot it was granted (04 R71). -/
def State.grantUnit (s : State) (u : UnitId) : State :=
  match s.busySlot u, s.unitClaim u with
  | some (b, w), some k =>
    let work := b.work.granted (s.context w.context).decimation (s.curve w.curve).knots w.samples k
    { s with conditioner := { s.conditioner with units := vmod s.conditioner.units u fun _ => some { b with work := work } } }
  | _, _ => s

/-- The knot just read does not have a greater x than the one before it (05 R105). -/
def outOfOrder (got : List Knot) (k : Knot) : Bool :=
  match got.getLast? with
  | some p => k.x.toInt ≤ p.x.toInt
  | none => false

/-- A read-back takes the knot it was granted; an order check notes the first index out of order (05 R105). -/
def ReadBack.granted (r : ReadBack) (k : Knot) : ReadBack :=
  { r with
    got := r.got ++ [k]
    purpose := match r.purpose with
      | .readKnots => .readKnots
      | .orderCheck failed => if outOfOrder r.got k then .orderCheck (some r.got.length) else .orderCheck failed }

/-- The read-back claim granted. -/
def State.grantReadBack (s : State) : State :=
  match s.mgmt.readBack, s.readBackClaim with
  | some r, some k => { s with mgmt := { s.mgmt with readBack := some (r.granted k) } }
  | _, _ => s

/-- The page-write claim granted: one slot of the page takes the staging page's knot (03 R60). -/
def State.grantPageWrite (s : State) : State :=
  match s.pageWriteClaim with
  | some (r, i) =>
    { s with
      store := { s.store with pages := vmod s.store.pages r.page fun p => p.set i s.loader.staging.slots[i] }
      loader := { s.loader with write := some { r with nextSlot := r.nextSlot + 1 } } }
  | none => s

/-- The access of a granted claim. -/
def State.access (s : State) : Option Grant → State
  | some (.unit u) => s.grantUnit u
  | some (.other .readBack) => s.grantReadBack
  | some (.other .pageWrite) => s.grantPageWrite
  | none => s

/-- The grant of one access period: the arbiter grants one waiting claim, and its access is made (03 R58, R59). -/
def State.grantPeriod (s : State) : State :=
  let c := s.claims
  let g := s.store.arbiter.choose c
  let s' := s.access g
  { s' with store := { s'.store with arbiter := s.store.arbiter.after c g } }

/-! ### Work whose accesses have all been granted -/

/-- The unit's last read has been granted and its last sample converted (04 R75). -/
def State.unitDone (s : State) (u : UnitId) : Bool :=
  match s.busySlot u with
  | some (b, w) => b.work.wants (s.curve w.curve).knots == none && b.work.next == w.samples.length
  | none => false

/-- The read-back of the current command has ended (03 R57, 05 R105). -/
def State.readBackDone (s : State) : Bool := s.mgmt.readBack.elim false ReadBack.done

/-- Slot 15 of the page has been written (03 R60). -/
def State.pageWriteDone (s : State) : Bool :=
  s.loader.state == .writing && s.loader.write.elim false fun r => 16 ≤ r.nextSlot

end Sys2Proof.Machine
end

