-- ==== Sys2Proof/Machine/Engine.lean ====
section
/-! DEFINITION. The conditioning engine's events: LOOKUP and CQ_ENTRY, with slot release, conversion start and conversion end (chapter 04). -/

namespace Sys2Proof.Machine

/-! ### Slot release and entry to the conditioned queue (04 R78, R79) -/

/-- The engine with slot `i` FREE and out of both orders (04 R64, R79). -/
def Conditioner.free (c : Conditioner) (i : SlotId) : Conditioner :=
  { c with slots := vmod c.slots i fun _ => none, age := c.age.erase i, ready := c.ready.erase i }

/-- A slot release: the pin claim and the in-flight claim of -1, then whatever the count reaching 0 brings about (04 R79, 02 R37). -/
def State.releaseSlot (s : State) (i : SlotId) : State :=
  match s.conditioner.slots[i] with
  | some w =>
    let s := { s with conditioner := s.conditioner.free i }
    let s := s.unpin w.curve
    let s := s.modContext w.context fun c => { c with inFlight := c.inFlight - 1 }
    s.settleFence
  | none => s

/-- The CSAMPLE frame a READY slot holds, none in any other state (04 R77). -/
def WorkSlot.built (w : WorkSlot) : Option Frame :=
  match w.phase with
  | .ready outputs outSeq => some (csampleFrame w.channel outSeq w.timestamp outputs)
  | .queued => none
  | .converting _ => none

/-- The head of the ready order: its slot number, the slot, and the frame built in it (04 R64). -/
def State.readyHead (s : State) : Option (SlotId × WorkSlot × Frame) :=
  match s.conditioner.ready with
  | i :: _ => (s.conditioner.slots[i]).bind fun w => w.built.map fun f => (i, w, f)
  | [] => none

/-- The head of the ready order enters the conditioned queue when the queue has space, and its slot is released (04 R78). -/
def State.enterCq (s : State) : State :=
  match s.readyHead with
  | some (i, w, f) =>
    if s.merger.cq.length < Config.cqSize then
      ({ s with merger := { s.merger with cq := s.merger.cq ++ [(⟨f, w.context⟩ : CqEntry)] } }).releaseSlot i
    else s
  | none => s

/-- CQ_ENTRY (04 R78). An event that makes space takes the entry within itself (log 4); this row takes it wherever it is still due. -/
def execCqEntry (s : State) : Host.Outcome State Fault Refusal := .next s.enterCq

/-! ### Conversion start (04 R70) -/

/-- The oldest eligible slot among those listed, oldest first, where `busy` are the contexts of older slots that are CONVERTING (04 R70). -/
def Conditioner.eligible (c : Conditioner) (busy : List ContextId) : List SlotId → Option SlotId
  | [] => none
  | i :: rest =>
    match c.slots[i] with
    | some w =>
      match w.phase with
      | .queued => if w.context ∈ busy then c.eligible busy rest else some i
      | .converting _ => c.eligible (w.context :: busy) rest
      | .ready _ _ => c.eligible busy rest
    | none => c.eligible busy rest

/-- The unit a conversion starts on: unit 0 when both are IDLE (04 R70). -/
def Conditioner.idleUnit (c : Conditioner) : Option UnitId :=
  if c.units[(0 : UnitId)] = none then some 0 else if c.units[(1 : UnitId)] = none then some 1 else none

/-- Slot `i` starts on unit `u`: it is CONVERTING, and the unit takes its working record (04 R70). -/
def State.startOn (s : State) (u : UnitId) (i : SlotId) : State :=
  match s.conditioner.slots[i] with
  | some w =>
    { s with
      conditioner := { s.conditioner with
        slots := vmod s.conditioner.slots i fun _ => some { w with phase := .converting u }
        units := vmod s.conditioner.units u fun _ => some { slot := i, work := .start (s.context w.context) } } }
  | none => s

/-- The oldest eligible slot starts on an IDLE unit, where there are both (04 R70). -/
def State.startOne (s : State) : State :=
  match s.conditioner.idleUnit, s.conditioner.eligible [] s.conditioner.age with
  | some u, some i => s.startOn u i
  | _, _ => s

/-- Conversions start for as long as a unit is IDLE and a slot eligible: at most two (04 R70). -/
def State.startConversions (s : State) : State := s.startOne.startOne

/-! ### LOOKUP (04 R66 to R69) -/

/-- The outcome of the sequence check (04 Table 4-3). -/
inductive SequenceCheck
  /-- Admitted after a gap of that many frames, 0 where there is none. -/
  | admitted (gap : Nat)
  | late
  deriving DecidableEq, Repr

/-- The sequence check: d = (s - e) mod 256 (04 R67). -/
def sequenceCheck (expected : Option Byte) (seq : Byte) : SequenceCheck :=
  match expected with
  | none => .admitted 0
  | some e =>
    let d := (seq - e).toNat
    if d ≤ 127 then .admitted d else .late

/-- The context of a COND head frame that the engine could take: a SAMPLE frame of a mapped channel, the context in COND and not fenced (04 R66). -/
def State.conditioned (s : State) (f : Frame) : Option ContextId :=
  if f.kind = .sample then
    (s.table.lookup f.addr).filter fun k => (s.context k).mode == .cond && !(s.context k).fenced
  else none

/-- The FREE slot with the lowest number (04 R69, step 1). -/
def Conditioner.freeSlot (c : Conditioner) : Option SlotId := (List.finRange 4).find? fun i => c.slots[i] == none

/-- The gap of an admitted frame counted, and raised when the context's flag is on (04 R67). -/
def State.countGap (s : State) (k : ContextId) (channel : Byte) (gap : Nat) : State :=
  if gap = 0 then s
  else
    let s := s.countContext k fun c => { c with seqMissing := c.seqMissing + amount gap }
    if (s.context k).seqGapNotices then s.raise .seqGap channel [byteOf gap] else s

/-- An admitted frame placed in slot `i`, its curve pinned, counted in flight and in its context's counters (04 R69). -/
def State.occupy (s : State) (k : ContextId) (i : SlotId) (curve : CurveId) (f : Frame) : State :=
  let s := s.modContext k fun c => { c with expected := some (f.seq + 1), inFlight := c.inFlight + 1 }
  let s := { s with
    conditioner := { s.conditioner with
      slots := vmod s.conditioner.slots i fun _ => some ⟨.queued, k, f.addr, curve, f.timestamp, f.samples⟩
      age := s.conditioner.age ++ [i] } }
  let s := s.pin curve
  s.countContext k fun c => { c with framesIn := c.framesIn + 1, samplesIn := c.samplesIn + amount f.samples.length }

/-- The head frame, its context and the slot that allow a lookup, with the rest of the receive buffer (04 R66). -/
def State.lookupReady (s : State) : Option (Frame × List Frame × ContextId × SlotId) :=
  match s.uPort.buffer with
  | f :: rest =>
    match s.conditioned f, s.conditioner.freeSlot with
    | some k, some i => some (f, rest, k, i)
    | _, _ => none
  | [] => none

/-- LOOKUP (04 R66): the head frame leaves the receive buffer, admitted after its sequence check or dropped as late; conversion start may follow. -/
def execLookup (s : State) : Host.Outcome State Fault Refusal :=
  match s.lookupReady with
  | some (f, rest, k, i) =>
    let taken := { s with uPort := { s.uPort with buffer := rest } }
    match sequenceCheck (s.context k).expected f.seq with
    | .late => .next (taken.countContext k fun c => { c with late := c.late + 1 })
    | .admitted gap =>
      match (s.context k).curve with
      | some curve => .next ((taken.countGap k f.addr gap).occupy k i curve f).startConversions
      | none => .fault .condWithoutCurve
  | none => .next s

/-! ### Conversion end (04 R75 to R77) -/

/-- The LIMIT notices of a frame, in list order, when the context's flag is on (04 R76, step 5). -/
def State.raiseLimits (s : State) (on : Bool) (channel : Byte) (transitions : List Transition) : State :=
  if on then transitions.foldl (fun s t => s.raise .limit channel (t.state.code :: halfBytes t.value)) s else s

/-- The working record committed to the context (04 R76). -/
def State.commit (s : State) (w : WorkSlot) (r : Working) : State :=
  let s := s.modContext w.context fun c =>
    { c with acc := r.acc, limits := c.limits.map fun l => { l with state := r.limits.elim l.state Limits.state } }
  let s := s.countContext w.context fun c =>
    { c with
      clampLow := c.clampLow + amount r.clampedLow
      clampHigh := c.clampHigh + amount r.clampedHigh
      limitEvents := c.limitEvents + amount r.transitions.length }
  s.raiseLimits (s.context w.context).limitNotices w.channel r.transitions

/-- The CSAMPLE frame is built in the slot with the context's output sequence, which advances; the slot is READY at the ready order's tail (04 R77). -/
def State.makeReady (s : State) (i : SlotId) (w : WorkSlot) (outputs : List Output) : State :=
  let seq := (s.context w.context).outSeq
  let s := s.modContext w.context fun c => { c with outSeq := c.outSeq + 1 }
  let s := s.countContext w.context fun c => { c with outputs := c.outputs + 1 }
  { s with
    conditioner := { s.conditioner with
      slots := vmod s.conditioner.slots i fun _ => some { w with phase := .ready outputs seq }
      ready := s.conditioner.ready ++ [i] } }

/-- The slot's fate: released without outputs, else READY, and at once into the conditioned queue when it has become the head (04 R77, R78). -/
def State.settleSlot (s : State) (i : SlotId) (w : WorkSlot) (outputs : List Output) : State :=
  if outputs.isEmpty then s.releaseSlot i
  else
    let s := s.makeReady i w outputs
    if s.conditioner.ready = [i] then s.enterCq else s

/-- The unit IDLE (04 R76). -/
def State.idleUnit (s : State) (u : UnitId) : State :=
  { s with conditioner := { s.conditioner with units := vmod s.conditioner.units u fun _ => none } }

/-- The conversion end event of a unit whose last sample is converted; a unit that is not there yet is left at its work (04 R76, R77). -/
def State.endConversion (s : State) (u : UnitId) : State :=
  if s.unitDone u then
    match s.busySlot u with
    | some (b, w) => (((s.commit w b.work).idleUnit u).settleSlot b.slot w b.work.outputs).startConversions
    | none => s
  else s

end Sys2Proof.Machine
end

