-- ==== Sys2Proof/Machine/NoticeCommands.lean ====
section
/-! DEFINITION. The notice commands and what the notice unit does at a taking and at a retry expiry: ACK_NOTICES, RESUME_NOTICES (08 R158 to R165). -/

namespace Sys2Proof.Machine

/-! ### Acknowledgement (08 R163, R164) -/

/-- A notice taken into the window at its tail with its own coalesce count, as at a raise (08 R164). -/
def NoticeUnit.promote (u : NoticeUnit) (places : Nat) : NoticeUnit :=
  (u.held.take places).foldl NoticeUnit.enter { u with held := u.held.drop places }

/-- An entry QUEUED with a fresh budget of transmissions (08 R163, R165). -/
def WindowEntry.renew (e : WindowEntry) : WindowEntry := { e with sent := false, transmissions := 0 }

/-- The first `n` window entries acknowledged: removed, a stall ended or the timer restarted or stopped, and the places filled from the held list (08 R163, steps 1 to 4). -/
def NoticeUnit.ack (u : NoticeUnit) (n : Nat) (retry : Nat) : NoticeUnit :=
  let rest := u.window.drop n
  let u' := match u.state with
    | .stalled => { u with state := .running, window := rest.map WindowEntry.renew, timer := none }
    | .running => { u with window := rest, timer := if rest.any WindowEntry.sent then some ⟨retry, 0⟩ else none }
  u'.promote n

/-- How many entries an acknowledgement of sequence `s` removes: those up to it; none when no entry holds it (08 R163). -/
def NoticeUnit.acked (u : NoticeUnit) (seq : Byte) : Option Nat :=
  (u.window.findIdx? fun e => e.seq == seq).map fun i => i + 1

/-- ACK_NOTICES's own check and effect (08 R163). -/
def ackNoticesBody (f : Frame) (s : State) : State :=
  match f.payload with
  | [seq] =>
    match s.notices.acked seq with
    | none =>
      s.respond f .badArg [byteOf s.notices.window.length, (s.notices.window.head?).elim 0 WindowEntry.seq]
    | some n =>
      let u := s.notices.ack n s.mgmt.params.noticeRetry.toNat
      (({ s with notices := u }).countNode fun c => { c with acked := c.acked + amount n }).respond f .ok
        [byteOf n, byteOf u.window.length, u.state.code]
  | _ => s.respond f .badLength []

/-- ACK_NOTICES (08 R163). -/
def execAckNotices (s : State) : Host.Outcome State Fault Refusal :=
  s.command (Frame.hasCode codeAckNotices) (lengthIs 1) ackNoticesBody

/-! ### Recovery (08 R165) -/

/-- A stalled unit recovered without an acknowledgement; a RUNNING one is left as it is (08 R165). -/
def NoticeUnit.resume (u : NoticeUnit) : NoticeUnit :=
  match u.state with
  | .stalled => { u with state := .running, window := u.window.map WindowEntry.renew, timer := none }
  | .running => u

/-- The number of entries a RESUME_NOTICES returns to QUEUED (08 R165). -/
def NoticeUnit.requeued (u : NoticeUnit) : Nat :=
  match u.state with
  | .stalled => u.window.countP WindowEntry.sent
  | .running => 0

/-- RESUME_NOTICES's effect and answer (08 R165). -/
def resumeNoticesBody (f : Frame) (s : State) : State :=
  ({ s with notices := s.notices.resume }).respond f .ok [s.notices.state.code, byteOf s.notices.requeued]

/-- RESUME_NOTICES (08 R165). -/
def execResumeNotices (s : State) : Host.Outcome State Fault Refusal :=
  s.command (Frame.hasCode codeResumeNotices) (lengthIs 0) resumeNoticesBody

/-! ### Transmission (08 R158, R159) -/

/-- The D-port is UP and the node has an address: the notice unit may transmit, and a running retry timer counts (08 R158, R161). -/
def State.noticesFlow (s : State) : Bool := s.dPort.link == .up && s.mgmt.address != 0

/-- The oldest QUEUED entry with the entries before and after it. -/
def firstQueued : List WindowEntry → Option (List WindowEntry × WindowEntry × List WindowEntry)
  | [] => none
  | e :: rest =>
    if e.sent then (firstQueued rest).map fun (before, x, after) => (e :: before, x, after)
    else some ([], e, rest)

/-- The notice unit offers a notice (08 R158). -/
def State.offers (s : State) : Bool :=
  s.notices.state == .running && s.noticesFlow && s.notices.window.any fun e => !e.sent

/-- An entry transmitted: SENT, its transmissions one more (08 R159). -/
def WindowEntry.transmit (e : WindowEntry) : WindowEntry := { e with sent := true, transmissions := e.transmissions + 1 }

/-- The notice taken by the arbiter: its frame, and the unit with the entry SENT and the timer running (08 R159, R161). -/
def State.takeNotice (s : State) : Option (Frame × NoticeUnit) :=
  if s.offers then
    (firstQueued s.notices.window).map fun (before, e, after) =>
      (noticeFrame s.mgmt.address e,
       { s.notices with
         window := before ++ e.transmit :: after
         timer := s.notices.timer.getD ⟨s.mgmt.params.noticeRetry.toNat, 0⟩ })
  else none

/-! ### The retry timer's expiry (08 R162) -/

/-- A SENT entry back to QUEUED, its transmissions kept (08 R162). -/
def WindowEntry.goBack (e : WindowEntry) : WindowEntry := { e with sent := false }

/-- The retry expiry: the go-back, or the stall when the head has been sent four times (08 R162). -/
def NoticeUnit.expire (u : NoticeUnit) : NoticeUnit :=
  match u.window.head? with
  | some e =>
    if e.transmissions < Config.maxTransmissions then
      { u with window := u.window.map WindowEntry.goBack, timer := none }
    else { u with state := .stalled, timer := none }
  | none => { u with timer := none }

/-- The timer counts and its next tick brings the count to the duration (08 R161). -/
def State.retryDue (s : State) : Bool :=
  s.noticesFlow && s.notices.timer.elim false fun t => t.duration ≤ t.count + 1

/-- One tick of the millisecond timebase at the retry timer (08 R161, R162). -/
def State.tickRetry (s : State) : State :=
  if s.retryDue then { s with notices := s.notices.expire }
  else if s.noticesFlow then
    { s with notices := { s.notices with timer := s.notices.timer.map fun t => { t with count := t.count + 1 } } }
  else s

end Sys2Proof.Machine
end

