-- ==== Sys2Proof/Machine/Merger.lean ====
section
/-! DEFINITION. The output merger: D_PORT_TAKING, D_PORT_DISCARD_TAKING, UP_QUEUE_TAKE, UP_QUEUE_DISCARD, POSTED_RESPONSE_PLACED (chapter 09, 07 R143). -/

namespace Sys2Proof.Machine

/-! ### The D-port arbiter's choice (09 R173) -/

/-- The source that follows in the cyclic order CQ, FQ, RQ, NU (09 R173). -/
def Source.next : Source → Source
  | .cq => .fq
  | .fq => .rq
  | .rq => .nu
  | .nu => .cq

/-- The sources in the order they are considered (09 Table 9-2). -/
def Source.order (p : Source) : List Source := [p, p.next, p.next.next, p.next.next.next]

/-- The source has a frame to give (09 R173). -/
def State.gives (s : State) : Source → Bool
  | .cq => !s.merger.cq.isEmpty
  | .fq => !s.merger.fq.isEmpty
  | .rq => !s.mgmt.responseQueue.isEmpty
  | .nu => s.offers

/-- The source served at a taking: the first from the pointer that has a frame to give (09 R173). -/
def State.source (s : State) : Option Source := s.merger.pointer.order.find? s.gives

/-- The frame a source gives, and the part with that frame out of the source (09 R173, R174). -/
def State.takeFrom (s : State) : Source → Option (Frame × State)
  | .cq =>
    match s.merger.cq with
    | e :: rest => some (e.frame, { s with merger := { s.merger with cq := rest } })
    | [] => none
  | .fq =>
    match s.merger.fq with
    | f :: rest => some (f, { s with merger := { s.merger with fq := rest } })
    | [] => none
  | .rq =>
    match s.mgmt.responseQueue with
    | f :: rest => some (f, { s with mgmt := { s.mgmt with responseQueue := rest } })
    | [] => none
  | .nu => s.takeNotice.map fun (f, u) => (f, { s with notices := u })

/-- The pointer after a source is served (09 R173). -/
def State.pointPast (s : State) (x : Source) : State := { s with merger := { s.merger with pointer := x.next } }

/-! ### The place a taking makes (09 R174, R177) -/

/-- Before the taking, the data classifier's head frame waits for a place of the forward queue (01 R17). -/
def State.passWaits (s : State) : Bool := s.forwardFull && s.headDecision.any DataDecision.passes

/-- What the place made lets happen in the same event: the ready head enters CQ, a waiting pass frame enters FQ, a held response enters RQ (09 R174). -/
def State.fillPlace (s : State) (x : Source) (passWaited : Bool) : State :=
  match x with
  | .cq => s.enterCq
  | .fq => if passWaited then s.classifyData else s
  | .rq => s.placePosted
  | .nu => s

/-- The event of one D-port taking: the source chosen gives its frame to `use`, the pointer passes it, the place made is used (09 R173, R174). -/
def State.dPortTake (s : State) (use : Frame → State → State) : State :=
  match s.source with
  | none => s
  | some x =>
    match s.takeFrom x with
    | none => s
    | some (f, taken) => ((use f taken).pointPast x).fillPlace x s.passWaits

/-- The frame handed to the D-port transmitter (01 R15). -/
def State.sendDown (f : Frame) (s : State) : State := { s with dPort := { s.dPort with tx := .sending f.wire } }

/-- A frame discarded at the D-port (09 R177). -/
def State.discardDown (_ : Frame) (s : State) : State :=
  s.countPort .dPort fun c => { c with outDiscard := c.outDiscard + 1 }

/-- D_PORT_TAKING (09 R174): made while the D-port is UP and its transmitter IDLE. -/
def execDPortTaking (s : State) : Host.Outcome State Fault Refusal :=
  if s.dPort.link = .up ∧ s.dPort.tx = .idle then .next (s.dPortTake State.sendDown) else .next s

/-- D_PORT_DISCARD_TAKING (09 R177): made while the D-port is DOWN or ALIGN. -/
def execDPortDiscardTaking (s : State) : Host.Outcome State Fault Refusal :=
  if s.dPort.link = .up then .next s else .next (s.dPortTake State.discardDown)

/-! ### The up queue (09 R172) -/

/-- UP_QUEUE_TAKE (09 R172): while the U-port is UP and its transmitter IDLE, the head of the up queue is taken for transmission. -/
def execUpQueueTake (s : State) : Host.Outcome State Fault Refusal :=
  match s.merger.uq with
  | f :: rest =>
    if s.uPort.link = .up ∧ s.uPort.tx = .idle then
      .next { s with
        merger := { s.merger with uq := rest }
        uPort := { s.uPort with tx := .sending f.wire } }
    else .next s
  | [] => .next s

/-- UP_QUEUE_DISCARD (09 R172): while the U-port is not UP, the head of the up queue is discarded and counted. -/
def execUpQueueDiscard (s : State) : Host.Outcome State Fault Refusal :=
  match s.merger.uq with
  | _ :: rest =>
    if s.uPort.link = .up then .next s
    else
      .next (({ s with merger := { s.merger with uq := rest } }).countPort .uPort fun c =>
        { c with outDiscard := c.outDiscard + 1 })
  | [] => .next s

/-! ### Posted responses (07 R143) -/

/-- POSTED_RESPONSE_PLACED (07 R143). The taking that makes the place places the response within itself (log 4); this row does it wherever it is still due. -/
def execPostedResponsePlaced (s : State) : Host.Outcome State Fault Refusal := .next s.placePosted

end Sys2Proof.Machine
end

