-- ==== Sys2Proof/Machine/Node.lean ====
section
/-! DEFINITION. The node commands: UNKNOWN_COMMAND, PING, GET_STATUS, SET_PARAM, RESET_NODE at both levels (chapter 07, and the reset rules of every chapter). -/

namespace Sys2Proof.Machine

/-- Any payload length. -/
def anyLength (_ : List Byte) : Bool := true

/-! ### UNKNOWN_COMMAND and PING -/

/-- The code names no command of the manual (07 R135, check 2). -/
def Frame.codeUnknown (f : Frame) : Bool := !knownCodes.contains f.code

/-- UNKNOWN_COMMAND (07 R135, check 2): UNKNOWN with the code received. -/
def execUnknownCommand (s : State) : Host.Outcome State Fault Refusal :=
  s.command Frame.codeUnknown anyLength fun f s => s.respond f .unknown [f.code]

/-- PING's answer: address, part id, revision (07 R145). -/
def pingBody (f : Frame) (s : State) : State :=
  s.respond f .ok (s.mgmt.address :: halfBytes Config.partId ++ [Config.revision])

/-- PING (07 R145). -/
def execPing (s : State) : Host.Outcome State Fault Refusal :=
  s.command (Frame.hasCode codePing) (lengthIs 0) pingBody

/-! ### GET_STATUS (07 R146) -/

/-- How many descriptors are in a state (07 Table 7-6). -/
def CurveStore.curvesIn (t : CurveStore) (x : CurveState) : Nat := t.curves.toList.countP fun d => d.state == x

/-- How many work slots are occupied (07 Table 7-6). -/
def Conditioner.occupied (c : Conditioner) : Nat := c.slots.toList.countP Option.isSome

/-- GET_STATUS's response payload (07 Table 7-6). -/
def State.status (s : State) : List Byte :=
  [s.mgmt.address, flagByte s.loader.lease.isSome, s.loader.lease.elim 0xFF Lease.owner]
    ++ halfBytes (s.loader.lease.elim 0 Lease.remaining)
    ++ [s.loader.state.code, byteOf s.loader.staging.cursor, flagByte s.loader.staging.saturated,
        byteOf s.store.free.length, byteOf s.store.loose.length,
        byteOf (s.store.curvesIn .empty), byteOf (s.store.curvesIn .built),
        byteOf (s.store.curvesIn .live), byteOf (s.store.curvesIn .retiring),
        s.bind.elim 0 PendingBind.tag, byteOf s.conditioner.occupied,
        s.notices.state.code, byteOf s.notices.window.length, byteOf s.notices.held.length,
        flagByte s.notices.lost, s.uPort.link.code, s.dPort.link.code]

/-- GET_STATUS's own check and answer; with bit 0 of the option the NOTICE_LOST flag is cleared after it is read (07 R146, 08 R155). -/
def getStatusBody (f : Frame) (s : State) : State :=
  match f.payload with
  | [option] =>
    if option.toNat ≤ 1 then
      let cleared := if option.getLsbD 0 then { s with notices := { s.notices with lost := false } } else s
      cleared.respond f .ok s.status
    else s.respond f .badArg []
  | _ => s.respond f .badLength []

/-- GET_STATUS (07 R146). -/
def execGetStatus (s : State) : Host.Outcome State Fault Refusal :=
  s.command (Frame.hasCode codeGetStatus) (lengthIs 1) getStatusBody

/-! ### SET_PARAM (07 R131, R132) -/

/-- The parameter ids (07 Table 7-3). -/
inductive ParamId
  | leaseTime | noticeRetry | unmappedPolicy | noticeMask
  deriving DecidableEq, Repr

/-- The parameter a byte names (07 Table 7-3). -/
def ParamId.ofCode (b : Byte) : Option ParamId :=
  if b = 1 then some .leaseTime
  else if b = 2 then some .noticeRetry
  else if b = 3 then some .unmappedPolicy
  else if b = 4 then some .noticeMask
  else none

/-- A value in the range of 07 Table 7-3. -/
def ParamId.accepts (p : ParamId) (v : Half) : Bool :=
  match p with
  | .leaseTime => 10 ≤ v.toNat && v.toNat ≤ 2550 && v.toNat % 10 == 0
  | .noticeRetry => 5 ≤ v.toNat && v.toNat ≤ 255
  | .unmappedPolicy => v.toNat ≤ 1
  | .noticeMask => v.toNat < 64

/-- The value a parameter holds (07 Table 7-3). -/
def Params.get (q : Params) : ParamId → Half
  | .leaseTime => q.leaseTime
  | .noticeRetry => q.noticeRetry
  | .unmappedPolicy => q.unmappedPolicy.code
  | .noticeMask => q.noticeMask

/-- The parameters with one written (07 R132). -/
def Params.set (q : Params) (p : ParamId) (v : Half) : Params :=
  match p with
  | .leaseTime => { q with leaseTime := v }
  | .noticeRetry => { q with noticeRetry := v }
  | .unmappedPolicy => { q with unmappedPolicy := if v = 0 then .forward else .drop }
  | .noticeMask => { q with noticeMask := v }

/-- An unmapped head frame waits for forward-queue space (01 R18). -/
def State.unmappedWaits (s : State) : Bool := s.forwardFull && s.headDecision == some .passUnmapped

/-- A parameter written; a change to DROP drops the unmapped head frame that waits for forward-queue space (01 R18, 07 R132, log 21). -/
def State.writeParam (s : State) (p : ParamId) (v : Half) : State :=
  let s' := { s with mgmt := { s.mgmt with params := s.mgmt.params.set p v } }
  if s.unmappedWaits && s'.mgmt.params.unmappedPolicy == .drop then s'.classifyData else s'

/-- SET_PARAM's own checks and effect (07 R132). -/
def setParamBody (f : Frame) (s : State) : State :=
  match f.payload with
  | [id, high, low] =>
    match ParamId.ofCode id with
    | none => s.respond f .badArg [1]
    | some p =>
      let v := halfOf high low
      if p.accepts v then (s.writeParam p v).respond f .ok (id :: halfBytes (s.mgmt.params.get p) ++ halfBytes v)
      else s.respond f .badArg [2]
  | _ => s.respond f .badLength []

/-- SET_PARAM (07 R132). -/
def execSetParam (s : State) : Host.Outcome State Fault Refusal :=
  s.command (Frame.hasCode codeSetParam) (lengthIs 3) setParamBody

/-! ### RESET_NODE, what both levels do (07 R147, R148) -/

/-- The code of the level SOFT (07 R147). -/
def levelSoft : Byte := 1
/-- The code of the level FULL (07 R147). -/
def levelFull : Byte := 2

/-- A port at RESET_NODE: link state and transmitter kept, receive buffer emptied (01 R16). -/
def LinkPort.resetNode (x : LinkPort) : LinkPort := { x with buffer := [] }

/-- The response to a RESET_NODE (07 R148). -/
def resetResponse (address : Byte) (f : Frame) (level : Byte) : Frame := responseFrame address f.seq f.aux .ok [level]

/-- The engine after RESET_NODE: IDLE, queues and cache emptied, then the reset's response first in the response queue and alone in the cache,
`held` behind it (07 R147, R148). -/
def Management.resetNode (m : Management) (params : Params) (f : Frame) (level : Byte) (held : List Frame) : Management :=
  let r := resetResponse m.address f level
  { Management.reset with
    address := m.address
    params := params
    cache := vmod Management.reset.cache (managerIndex f.aux) fun _ => .answered f.seq r
    responseQueue := r :: held }

/-! ### Level FULL (01 R16, 02 R40, 03 R61, 04 R83, 05 R109, 06 R127, 07 R147, 08 R168, 09 R181, 10 R191) -/

/-- RESET_NODE FULL takes effect, and is answered (07 R147, R148). The model's own fields go on (log 19). -/
def State.resetFull (s : State) (f : Frame) : State :=
  { State.reset with
    uPort := s.uPort.resetNode
    dPort := s.dPort.resetNode
    mgmt := s.mgmt.resetNode .default f levelFull []
    notices := .reset .fullReset
    fresh := s.fresh
    pending := s.pending }

/-! ### Level SOFT (01 R16, 02 R41, 03 R62, 04 R84, R85, 05 R110, 06 R127, 07 R147, 08 R169, 09 R181, 10 R192) -/

/-- The output sequences of a context's CSAMPLE frames built and not yet out of the conditioned queue, oldest first: those in the queue, then those in READY slots (04 R85). -/
def State.unsent (s : State) (k : ContextId) : List Byte :=
  (s.merger.cq.filter fun e => e.context = k).map (fun e => e.frame.seq) ++
    s.conditioner.ready.filterMap fun i =>
      (s.conditioner.slots[i]).bind fun w => if w.context = k then w.built.map Frame.seq else none

/-- A context at a soft reset (02 R41), its output sequence set back to the oldest of its unsent frames (04 R85). -/
def Context.resetSoft (c : Context) (unsent : List Byte) : Context :=
  { c with
    expected := none
    acc := .empty
    limits := c.limits.map fun l => { l with state := .normal }
    outSeq := unsent.headD c.outSeq
    inFlight := 0
    fenced := false }

/-- A descriptor whose pins are all released by a soft reset (03 R62). -/
def Curve.resetSoft (d : Curve) : Curve :=
  if d.state = .retiring then { d with state := .empty, knots := 0, pages := [], pins := 0 } else { d with pins := 0 }

/-- The store at a soft reset: every pin count 0, the RETIRING curves reclaimed in ascending curve id order (03 R62). -/
def CurveStore.resetSoft (t : CurveStore) : CurveStore :=
  { t with
    free := t.free ++ (t.curves.toList.filter fun d => d.state == .retiring).flatMap Curve.pages
    curves := t.curves.map Curve.resetSoft }

/-- The loader at a soft reset: kept, but that a response held in POSTING is placed (05 R110). -/
def Loader.resetSoft (l : Loader) : Loader :=
  if l.state = .posting then { l with state := .idle, write := none } else l

/-- The notice unit at a soft reset: emptied and RUNNING, sequence counter and NOTICE_LOST kept (08 R169). -/
def NoticeUnit.resetSoft (u : NoticeUnit) : NoticeUnit :=
  { u with state := .running, window := [], held := [], timer := none }

/-- The responses the loader holds (05 R103). -/
def Management.heldByLoader (m : Management) : List Frame :=
  (m.waiting.filter fun h => h.holder = .loader).map HeldResponse.frame

/-- RESET_NODE SOFT takes effect, and is answered (07 R147, R148). -/
def State.resetSoft (s : State) (f : Frame) : State :=
  { s with
    uPort := s.uPort.resetNode
    dPort := s.dPort.resetNode
    table := { s.table with contexts := Vector.ofFn fun k => (s.context k).resetSoft (s.unsent k) }
    store := s.store.resetSoft
    conditioner := .reset
    loader := s.loader.resetSoft
    mgmt := s.mgmt.resetNode s.mgmt.params f levelSoft s.mgmt.heldByLoader
    notices := s.notices.resetSoft
    merger := .reset }

/-! ### The rows -/

/-- RESET_NODE's own check and effect (07 R147). -/
def resetNodeBody (f : Frame) (s : State) : State :=
  if f.payload = [levelSoft] then s.resetSoft f
  else if f.payload = [levelFull] then s.resetFull f
  else s.respond f .badArg []

/-- A RESET_NODE that is not one of the other level (log 20). -/
def Frame.resetsBut (level : Byte) (f : Frame) : Bool := f.hasCode codeResetNode && f.payload != [level]

/-- RESET_NODE_SOFT (07 R147): a RESET_NODE at level SOFT, or one that is refused (log 20). -/
def execResetNodeSoft (s : State) : Host.Outcome State Fault Refusal :=
  s.command (Frame.resetsBut levelFull) (lengthIs 1) resetNodeBody

/-- RESET_NODE_FULL (07 R147): a RESET_NODE at level FULL, or one that is refused (log 20). -/
def execResetNodeFull (s : State) : Host.Outcome State Fault Refusal :=
  s.command (Frame.resetsBut levelSoft) (lengthIs 1) resetNodeBody

end Sys2Proof.Machine
end

