-- ==== Sys2Proof/Machine/Curves.lean ====
section
/-! DEFINITION. The curve commands: GET_CURVE, READ_KNOTS, DELETE_CURVE, and the end of a read-back (03 R55 to R57). -/

namespace Sys2Proof.Machine

/-! ### DELETE_CURVE (03 R55) -/

/-- A BUILT curve without reservations deleted: EMPTY when no frame pins it, else RETIRING (03 R55). -/
def State.deleteCurve (s : State) (c : CurveId) : State :=
  if (s.curve c).pins = 0 then s.reclaim c else s.modCurve c fun d => { d with state := .retiring }

/-- DELETE_CURVE's own checks in order, and its effect (03 R55). -/
def deleteCurveBody (f : Frame) (s : State) : State :=
  match f.payload.head?.bind curveOf with
  | none => s.respond f .badArg []
  | some c =>
    let d := s.curve c
    match d.state with
    | .empty | .retiring => s.respond f .badState [d.state.code]
    | .live => s.respond f .inUse [byteOf d.refs]
    | .built =>
      if d.reservations ≠ 0 then s.respond f .reserved [byteOf d.reservations]
      else
        (s.deleteCurve c).respond f .ok
          [byteOf c.val, flagByte (d.pins != 0), byteOf d.pages.length, byteOf d.pins]

/-- DELETE_CURVE (03 R55). -/
def execDeleteCurve (s : State) : Host.Outcome State Fault Refusal :=
  s.command (Frame.hasCode codeDeleteCurve) (lengthIs 1) deleteCurveBody

/-! ### GET_CURVE (03 R56) -/

/-- The four bytes of a page list: 0xFF in each position past the page count (03 R56). -/
def pageListBytes (pages : List PageId) : List Byte :=
  (List.range 4).map fun i => (pages[i]?).elim 0xFF fun p => byteOf p.val

/-- GET_CURVE's response payload (03 R56). -/
def Curve.report (d : Curve) (c : CurveId) : List Byte :=
  [byteOf c.val, d.state.code, d.generation, byteOf d.knots, byteOf d.pages.length] ++ pageListBytes d.pages
    ++ [byteOf d.refs, byteOf d.pins, byteOf d.reservations]

/-- GET_CURVE's own check and answer (03 R56). -/
def getCurveBody (f : Frame) (s : State) : State :=
  match f.payload.head?.bind curveOf with
  | none => s.respond f .badArg []
  | some c => s.respond f .ok ((s.curve c).report c)

/-- GET_CURVE (03 R56). -/
def execGetCurve (s : State) : Host.Outcome State Fault Refusal :=
  s.command (Frame.hasCode codeGetCurve) (lengthIs 1) getCurveBody

/-! ### READ_KNOTS (03 R57) -/

/-- A read-back begins: the engine stays EXECUTING with its record (03 R57, 05 R105). -/
def State.startReadBack (s : State) (r : ReadBack) : State := { s with mgmt := { s.mgmt with readBack := some r } }

/-- READ_KNOTS's own checks in order, then its read-back (03 R57). -/
def readKnotsBody (f : Frame) (s : State) : State :=
  match f.payload with
  | [id, first, count] =>
    match curveOf id with
    | none => s.respond f .badArg []
    | some c =>
      let d := s.curve c
      if count.toNat < 1 ∨ 11 < count.toNat then s.respond f .badArg []
      else if d.state = .empty then s.respond f .badState []
      else if d.knots < first.toNat + count.toNat then s.respond f .badArg []
      else s.startReadBack ⟨.readKnots, c, d.generation, d.pages, d.knots, first.toNat, count.toNat, []⟩
  | _ => s.respond f .badLength []

/-- READ_KNOTS (03 R57). -/
def execReadKnots (s : State) : Host.Outcome State Fault Refusal :=
  s.command (Frame.hasCode codeReadKnots) (lengthIs 3) readKnotsBody

/-- READ_KNOTS's response payload (03 R57). -/
def ReadBack.report (r : ReadBack) : List Byte :=
  [byteOf r.curve.val, r.generation, byteOf r.first, byteOf r.count] ++ r.got.flatMap Knot.bytes

/-- The read-back that is in progress ends and the command is answered; the record goes first, for an engine that must hold its response. -/
def State.endReadBack (s : State) (status : Status) (payload : List Byte) : State :=
  match s.mgmt.current with
  | some f => ({ s with mgmt := { s.mgmt with readBack := none } }).respond f status payload
  | none => s

end Sys2Proof.Machine
end

