-- ==== Sys2Proof/Machine/Loader.lean ====
section
/-! DEFINITION. The curve loader: lease, staging page, page write, curve definition (chapter 05). -/

namespace Sys2Proof.Machine

/-! ### The lease (05 R86 to R91) -/

/-- A lease whose timer starts now: the duration latches LEASE_TIME, the count is 0 (05 R86). -/
def State.newLease (s : State) (owner : Byte) : Lease := ⟨owner, s.mgmt.params.leaseTime.toNat, 0⟩

/-- The payload that names the owner and the remaining time (05 R87, R88). -/
def Lease.report (l : Lease) : List Byte := l.owner :: halfBytes l.remaining

/-- The lease timer restarted where the lease is OPEN (05 R86). -/
def State.renewLease (s : State) : State :=
  { s with loader := { s.loader with lease := s.loader.lease.map fun l => s.newLease l.owner } }

/-- The lease checks of a loader command: NO_LEASE, NOT_OWNER, or renewal and on to its own checks; WRITE_PAGE does not renew (05 R88). -/
def State.leaseCheck (s : State) (f : Frame) (renews : Bool) (go : State → State) : State :=
  match s.loader.lease with
  | none => s.respond f .noLease []
  | some l => if l.owner = f.aux then go (if renews then s.renewLease else s) else s.respond f .notOwner l.report

/-- The outcome of an OPEN_LEASE that is answered OK (05 R87). -/
inductive LeaseOutcome
  | opened | renewed
  deriving DecidableEq, Repr

/-- The outcome's code (05 R87). -/
def LeaseOutcome.code : LeaseOutcome → Byte
  | .opened => 0
  | .renewed => 1

/-- The lease opens for a manager, with a cleared staging page (05 R87). -/
def State.openLease (s : State) (owner : Byte) : State :=
  { s with loader := { s.loader with lease := some (s.newLease owner), staging := .cleared } }

/-- OPEN_LEASE answered OK: the outcome and the duration just latched (05 R87). -/
def State.leaseGranted (s : State) (f : Frame) (o : LeaseOutcome) : State :=
  s.respond f .ok (o.code :: halfBytes (halfOfNat (s.loader.lease.elim 0 Lease.duration)))

/-- OPEN_LEASE's decision by lease and loader state (05 R87). -/
def openLeaseBody (f : Frame) (s : State) : State :=
  match s.loader.lease with
  | none =>
    if s.loader.state = .writing then s.respond f .busy (0xFF :: halfBytes 0)
    else (s.openLease f.aux).leaseGranted f .opened
  | some l =>
    if l.owner = f.aux then s.renewLease.leaseGranted f .renewed
    else s.respond f .busy l.report

/-- OPEN_LEASE (05 R87). -/
def execOpenLease (s : State) : Host.Outcome State Fault Refusal :=
  s.command (Frame.hasCode codeOpenLease) (lengthIs 0) openLeaseBody

/-- The end of a lease: CLOSED, the staging page cleared unless a write is in flight, the unmarked loose pages returned (05 R89, steps 1 to 3). -/
def State.endLease (s : State) : State :=
  { s with
    loader := { s.loader with
      lease := none
      staging := if s.loader.state = .writing then s.loader.staging else .cleared }
    store := s.store.returnLoose }

/-- CLOSE_LEASE after the lease checks: BUSY while WRITING, else the lease ends without a notice (05 R91). -/
def closeLeaseChecked (f : Frame) (s : State) : State :=
  if s.loader.state = .writing then s.respond f .busy [s.loader.state.code]
  else s.endLease.respond f .ok [byteOf s.store.returnCount]

/-- CLOSE_LEASE (05 R91). -/
def execCloseLease (s : State) : Host.Outcome State Fault Refusal :=
  s.command (Frame.hasCode codeCloseLease) (lengthIs 0) fun f s => s.leaseCheck f true (closeLeaseChecked f)

/-! ### The staging page (05 R92 to R96) -/

/-- One knot staged at a position: a position past the end goes to slot 15 and sets the saturation flag (05 R94). -/
def Staging.put (g : Staging) (position : Nat) (k : Knot) : Staging :=
  { g with
    slots := g.slots.set (min position 15) k (by omega)
    saturated := g.saturated || 15 < position }

/-- Knots staged at successive positions from `b` on (05 R94). -/
def Staging.putAll (g : Staging) (b : Nat) : List Knot → Staging
  | [] => g
  | k :: rest => (g.put b k).putAll (b + 1) rest

/-- A STAGE_KNOTS carried out: the knots at their positions, the cursor at b + n or 15 (05 R94). -/
def Staging.stage (g : Staging) (b : Nat) (knots : List Knot) : Staging :=
  { g.putAll b knots with cursor := min (b + knots.length) 15 }

/-- The first position of a STAGE_KNOTS: the start slot in AT mode, the cursor in CONTINUE mode; none where a field is out of range (05 R93, check 1). -/
def stageStart (cursor : Nat) (mode start : Byte) : Option Nat :=
  if mode = 0 then (if start.toNat ≤ 15 then some start.toNat else none)
  else if mode = 1 then some cursor
  else none

/-- STAGE_KNOTS after the lease checks (05 R93, R94). -/
def stageKnotsChecked (f : Frame) (s : State) : State :=
  match f.payload with
  | mode :: start :: rest =>
    match stageStart s.loader.staging.cursor mode start with
    | none => s.respond f .badArg []
    | some b =>
      if s.loader.state = .writing then s.respond f .busy [s.loader.state.code]
      else
        let knots := knotsOf rest
        let g := s.loader.staging.stage b knots
        ({ s with loader := { s.loader with staging := g } }).respond f .ok
          [byteOf g.cursor, byteOf (b + knots.length - 16), flagByte g.saturated]
  | _ => s.respond f .badLength []

/-- STAGE_KNOTS (05 R93). -/
def execStageKnots (s : State) : Host.Outcome State Fault Refusal :=
  s.command (Frame.hasCode codeStageKnots) stageKnotsLength fun f s => s.leaseCheck f true (stageKnotsChecked f)

/-- CLEAR_STAGING after the lease checks (05 R95). -/
def clearStagingChecked (f : Frame) (s : State) : State :=
  if s.loader.state = .writing then s.respond f .busy [s.loader.state.code]
  else ({ s with loader := { s.loader with staging := .cleared } }).respond f .ok []

/-- CLEAR_STAGING (05 R95). -/
def execClearStaging (s : State) : Host.Outcome State Fault Refusal :=
  s.command (Frame.hasCode codeClearStaging) (lengthIs 0) fun f s => s.leaseCheck f true (clearStagingChecked f)

/-- READ_STAGING's response payload (05 R96). -/
def Staging.report (g : Staging) (first count : Nat) : List Byte :=
  [byteOf first, byteOf count, byteOf g.cursor, flagByte g.saturated]
    ++ ((g.slots.toList.drop first).take count).flatMap Knot.bytes

/-- READ_STAGING after the lease checks (05 R96). -/
def readStagingChecked (f : Frame) (s : State) : State :=
  match f.payload with
  | [first, count] =>
    let a := first.toNat
    let n := count.toNat
    if a ≤ 15 ∧ 1 ≤ n ∧ n ≤ 11 ∧ a + n ≤ 16 then s.respond f .ok (s.loader.staging.report a n)
    else s.respond f .badArg []
  | _ => s.respond f .badLength []

/-- READ_STAGING (05 R96). -/
def execReadStaging (s : State) : Host.Outcome State Fault Refusal :=
  s.command (Frame.hasCode codeReadStaging) (lengthIs 2) fun f s => s.leaseCheck f true (readStagingChecked f)

/-! ### The page write (05 R97 to R103) -/

/-- WRITE_PAGE: empty, or one page number (05 R98). -/
def writePageLength (p : List Byte) : Bool := p.length ≤ 1

/-- The page a WRITE_PAGE takes: the free list's head, or the one named, when it is free (05 R98, check 3). -/
def CurveStore.pageToWrite (t : CurveStore) (payload : List Byte) : Option PageId :=
  match payload with
  | [] => t.free.head?
  | b :: _ => (pageOf b).filter fun p => t.free.contains p

/-- The page write starts: the page loose and marked, the loader WRITING with its record; no response, and the engine leaves the command (05 R99). -/
def State.startWrite (s : State) (f : Frame) (p : PageId) : State :=
  ({ s with
    store := s.store.takeForWrite p
    loader := { s.loader with state := .writing, write := some ⟨p, f.aux, f.seq, s.loader.staging.saturated, 0⟩ } }).leave

/-- WRITE_PAGE after the lease checks (05 R98, R99). -/
def writePageChecked (f : Frame) (s : State) : State :=
  if s.loader.state ≠ .idle then s.respond f .busy [s.loader.state.code]
  else if Config.looseSize ≤ s.store.loose.length then s.respond f .noRoom [1]
  else
    match s.store.pageToWrite f.payload with
    | some p => s.startWrite f p
    | none => if f.payload.isEmpty then s.respond f .noRoom [2] else s.respond f .badArg []

/-- WRITE_PAGE (05 R98). -/
def execWritePage (s : State) : Host.Outcome State Fault Refusal :=
  s.command (Frame.hasCode codeWritePage) writePageLength fun f s => s.leaseCheck f false (writePageChecked f)

/-- A page write's response formed, stored where its tag is in progress, and offered to the response queue (05 R101, R102, 07 R136). The entry is
answered from here on, also while the loader holds the response in POSTING; a repeat arriving then is dropped all the same (05 R103, log 27). -/
def State.answerWrite (s : State) (r : WriteRecord) (status : Status) : State :=
  let response := responseFrame s.mgmt.address r.tag r.manager status [byteOf r.page.val, flagByte r.saturated]
  ({ s with mgmt := s.mgmt.store response }).offerLoader response

/-- A page write completes with its lease OPEN: mark cleared, staging page cleared, lease renewed, OK (05 R101). -/
def State.completeOpen (s : State) (r : WriteRecord) : State :=
  ({ s with
    store := s.store.writeDone r.page
    loader := { s.loader with staging := .cleared } }).renewLease.answerWrite r .ok

/-- A page write completes with its lease CLOSED: the page returned, staging page cleared, LEASE_LOST (05 R102). -/
def State.completeLost (s : State) (r : WriteRecord) : State :=
  ({ s with
    store := s.store.returnWriting r.page
    loader := { s.loader with staging := .cleared } }).answerWrite r .leaseLost

/-- The completion of a page write whose slot 15 has been written (05 R101, R102). -/
def State.completeWrite (s : State) : State :=
  if s.pageWriteDone then
    match s.loader.write with
    | some r => if s.loader.lease.isSome then s.completeOpen r else s.completeLost r
    | none => s
  else s

/-! ### Defining a curve (05 R104 to R106) -/

/-- A definition that has passed checks 1 to 4 (05 R104). -/
structure Definition where
  curve : CurveId
  pages : List PageId
  knots : Nat
  deriving DecidableEq, Repr

/-- The page list of a DEFINE_CURVE: each entry a loose page with a clear mark, none twice; else the position of the first that is not (05 R104, check 3). -/
def loosePages (loose : List LoosePage) (seen : List PageId) : List Byte → Except Nat (List PageId)
  | [] => .ok []
  | b :: rest =>
    match (pageOf b).filter fun p => loose.contains ⟨p, false⟩ && !seen.contains p with
    | none => .error seen.length
    | some p =>
      match loosePages loose (seen ++ [p]) rest with
      | .ok pages => .ok (p :: pages)
      | .error i => .error i

/-- A knot count that fits a page count (05 R104, check 4). -/
def knotsFit (pages knots : Nat) : Bool := 2 ≤ knots && 16 * (pages - 1) + 1 ≤ knots && knots ≤ 16 * pages

/-- DEFINE_CURVE's checks 1 to 4 in order: the definition, or the refusal's status and payload (05 R104). -/
def State.checkDefinition (s : State) (payload : List Byte) : Except (Status × List Byte) Definition :=
  match payload with
  | id :: count :: rest =>
    match curveOf id with
    | none => .error (.badArg, [1, 0])
    | some c =>
      if (s.curve c).state ≠ .empty then .error (.inUse, [(s.curve c).state.code])
      else
        match loosePages s.store.loose [] (rest.take count.toNat) with
        | .error i => .error (.badArg, [2, byteOf i])
        | .ok pages =>
          let knots := (rest.getD count.toNat 0).toNat
          if knotsFit pages.length knots then .ok ⟨c, pages, knots⟩ else .error (.badArg, [3, 0])
  | _ => .error (.badLength, [])

/-- DEFINE_CURVE after the lease checks: refused, or its order check begins (05 R104, R105). -/
def defineCurveChecked (f : Frame) (s : State) : State :=
  match s.checkDefinition f.payload with
  | .error (status, payload) => s.respond f status payload
  | .ok d => s.startReadBack ⟨.orderCheck none, d.curve, (s.curve d.curve).generation, d.pages, d.knots, 0, d.knots, []⟩

/-- DEFINE_CURVE (05 R104). -/
def execDefineCurve (s : State) : Host.Outcome State Fault Refusal :=
  s.command (Frame.hasCode codeDefineCurve) defineCurveLength fun f s => s.leaseCheck f true (defineCurveChecked f)

/-- The definition claim: the pages leave the loose set for the descriptor, which is BUILT with its generation advanced (03 R49). -/
def CurveStore.define (t : CurveStore) (c : CurveId) (pages : List PageId) (knots : Nat) : CurveStore :=
  { t.modCurve c fun d => { d with state := .built, knots := knots, pages := pages, generation := d.generation + 1 } with
    loose := t.loose.filter fun p => !pages.contains p.page }

/-- The order check has passed: the curve is defined and answered (05 R106). -/
def State.defineCurve (s : State) (r : ReadBack) : State :=
  ({ s with store := s.store.define r.curve r.pages r.knots }).endReadBack .ok
    [byteOf r.curve.val, (s.curve r.curve).generation + 1, byteOf r.pages.length, byteOf r.knots]

/-- A read-back that has ended is answered: READ_KNOTS with its knots; DEFINE_CURVE refused at the first knot out of order, else defined (03 R57, 05 R105, R106). -/
def State.finishReadBack (s : State) : State :=
  match s.mgmt.readBack with
  | some r =>
    if r.done then
      match r.purpose with
      | .readKnots => s.endReadBack .ok r.report
      | .orderCheck (some k) => s.endReadBack .badArg [4, byteOf k]
      | .orderCheck none => s.defineCurve r
    else s
  | none => s

end Sys2Proof.Machine
end

