-- ==== Sys2Proof/Machine/Period.lean ====
section
/-! DEFINITION. The access period: what ends at its start, then its grant; and the rows that wait for accesses: CONVERSION_END, PAGE_WRITE_COMPLETION,
READ_KNOTS_DONE, DEFINE_CURVE_CHECK_DONE (04 R75, 05 R101, 03 R57, 05 R105). -/

namespace Sys2Proof.Machine

/-! ### One access period -/

/-- What ends at the start of an access period: each conversion whose last read was granted before it (04 R75), a read-back that has read its last knot
(03 R57, 05 R105), a page write whose slot 15 is written (05 R101). One grant a period leaves at most one of them due (log 29). -/
def State.endDue (s : State) : State := (((s.endConversion 0).endConversion 1).finishReadBack).completeWrite

/-- One access period: what is due ends, and the arbiter makes the period's grant (03 R58, 04 R75). -/
def State.accessPeriod (s : State) : State := s.endDue.grantPeriod

/-- Access periods pass until a condition holds, at most `n` of them (log 7). -/
def State.passUntil (done : State → Bool) : Nat → State → State
  | 0, s => s
  | n + 1, s => if done s then s else State.passUntil done n s.accessPeriod

/-! ### The rows that wait for accesses -/

/-- CONVERSION_END (04 R76) of one unit: the access periods its conversion still needs pass first (R75, log 7). A unit that is IDLE, or that does
not exist (log 22), leaves the part as it is. -/
def execConversionEnd (unit : Nat) (s : State) : Host.Outcome State Fault Refusal :=
  if h : unit < 2 then
    let u : UnitId := ⟨unit, h⟩
    if s.conditioner.units[u] = none then .next s
    else .next ((s.passUntil (fun s => s.unitDone u) Config.conversionPeriods).endConversion u)
  else .next s

/-- PAGE_WRITE_COMPLETION (05 R101): the access periods the write still needs pass, and it completes (log 7). -/
def execPageWriteCompletion (s : State) : Host.Outcome State Fault Refusal :=
  if s.loader.state = .writing then .next (s.passUntil State.pageWriteDone Config.pageWritePeriods).completeWrite
  else .next s

/-- The read-back in progress is READ_KNOTS's. -/
def State.readingKnots (s : State) : Bool := s.mgmt.readBack.elim false fun r => r.purpose == .readKnots

/-- The read-back in progress is DEFINE_CURVE's order check. -/
def State.checkingOrder (s : State) : Bool := s.mgmt.readBack.elim false fun r => r.purpose != .readKnots

/-- READ_KNOTS_DONE (03 R57): the access periods the read-back still needs pass, and it ends (log 7). -/
def execReadKnotsDone (s : State) : Host.Outcome State Fault Refusal :=
  if s.readingKnots then .next (s.passUntil State.readBackDone Config.readKnotsPeriods).finishReadBack else .next s

/-- The order check in progress carried to its end: the access periods it still needs pass, then it ends (05 R105, log 7). -/
def State.completeDefine (s : State) : State :=
  if s.checkingOrder then (s.passUntil State.readBackDone Config.orderCheckPeriods).finishReadBack else s

/-- DEFINE_CURVE_CHECK_DONE (05 R105). -/
def execDefineCurveCheckDone (s : State) : Host.Outcome State Fault Refusal := .next s.completeDefine

end Sys2Proof.Machine
end

