-- ==== Sys2Proof/Machine/Time.lean ====
section
/-! DEFINITION. The millisecond timebase: MILLISECOND_TICK, LEASE_EXPIRY, NOTICE_RETRY_EXPIRY (05 R86, R89, 08 R161, R162). -/

namespace Sys2Proof.Machine

/-! ### The lease timer (05 R86, R89) -/

/-- The next tick brings the lease timer's count to its duration (05 R86). -/
def State.leaseDue (s : State) : Bool := s.loader.lease.elim false fun l => l.duration ≤ l.count + 1

/-- The lease expiry event: the lease ends and is reported with the pages returned (05 R89). -/
def State.expireLease (s : State) : State :=
  match s.loader.lease with
  | some l => s.endLease.raise .leaseExpired l.owner [byteOf s.store.returnCount]
  | none => s

/-- The lease timer counts a tick; the one that brings it to its duration ends the lease (05 R86). -/
def State.countLease (s : State) : State :=
  if s.leaseDue then s.expireLease
  else { s with loader := { s.loader with lease := s.loader.lease.map fun l => { l with count := l.count + 1 } } }

/-- One tick at the lease timer (05 R86). A tick that would end the lease finds no order check in progress: one that is has ended before it, and a page write
that completed meanwhile has renewed the lease (05 R101, R105, log 9). -/
def State.tickLease (s : State) : State := (if s.leaseDue then s.completeDefine else s).countLease

/-! ### The rows -/

/-- One tick of the millisecond timebase: the lease timer, then the retry timer (05 R86, 08 R161, log 10). -/
def State.tick (s : State) : State := s.tickLease.tickRetry

/-- MILLISECOND_TICK (05 R86, 08 R161): a tick, with the expiries it brings about. -/
def execMillisecondTick (s : State) : Host.Outcome State Fault Refusal := .next s.tick

/-- LEASE_EXPIRY (05 R89): the tick that ends the lease (log 8); with none due it changes nothing. -/
def execLeaseExpiry (s : State) : Host.Outcome State Fault Refusal := if s.leaseDue then .next s.tick else .next s

/-- NOTICE_RETRY_EXPIRY (08 R162): the tick at which the retry timer expires (log 8); with none due it changes nothing. -/
def execNoticeRetryExpiry (s : State) : Host.Outcome State Fault Refusal := if s.retryDue then .next s.tick else .next s

end Sys2Proof.Machine
end

