-- ==== Sys2Proof/Machine/Dispatch.lean ====
section
/-! DEFINITION. The effect of each command on everything but the queue: one direct call for each row of spec/opcode_table.json. -/

namespace Sys2Proof.Machine

/-- What a command does (95). -/
def exec (i : Instr) (s : State) : Host.Outcome State Fault Refusal :=
  match i with
  | .resetnRelease => Sys2Proof.Machine.execResetnRelease s
  | .carrierDetect port => Sys2Proof.Machine.execCarrierDetect port s
  | .alignmentAchieved port => Sys2Proof.Machine.execAlignmentAchieved port s
  | .carrierLoss port => Sys2Proof.Machine.execCarrierLoss port s
  | .frameArrival port run => Sys2Proof.Machine.execFrameArrival port run s
  | .dataClassifierTake => Sys2Proof.Machine.execDataClassifierTake s
  | .lookup => Sys2Proof.Machine.execLookup s
  | .conversionEnd unit => Sys2Proof.Machine.execConversionEnd unit s
  | .cqEntry => Sys2Proof.Machine.execCqEntry s
  | .fenceApply => Sys2Proof.Machine.execFenceApply s
  | .commandClassifierTake => Sys2Proof.Machine.execCommandClassifierTake s
  | .unknownCommand => Sys2Proof.Machine.execUnknownCommand s
  | .ping => Sys2Proof.Machine.execPing s
  | .getStatus => Sys2Proof.Machine.execGetStatus s
  | .setParam => Sys2Proof.Machine.execSetParam s
  | .resetNodeSoft => Sys2Proof.Machine.execResetNodeSoft s
  | .resetNodeFull => Sys2Proof.Machine.execResetNodeFull s
  | .mapChannel => Sys2Proof.Machine.execMapChannel s
  | .setChannel => Sys2Proof.Machine.execSetChannel s
  | .getChannel => Sys2Proof.Machine.execGetChannel s
  | .openLease => Sys2Proof.Machine.execOpenLease s
  | .stageKnots => Sys2Proof.Machine.execStageKnots s
  | .clearStaging => Sys2Proof.Machine.execClearStaging s
  | .readStaging => Sys2Proof.Machine.execReadStaging s
  | .writePage => Sys2Proof.Machine.execWritePage s
  | .pageWriteCompletion => Sys2Proof.Machine.execPageWriteCompletion s
  | .defineCurve => Sys2Proof.Machine.execDefineCurve s
  | .defineCurveCheckDone => Sys2Proof.Machine.execDefineCurveCheckDone s
  | .closeLease => Sys2Proof.Machine.execCloseLease s
  | .leaseExpiry => Sys2Proof.Machine.execLeaseExpiry s
  | .getCurve => Sys2Proof.Machine.execGetCurve s
  | .readKnots => Sys2Proof.Machine.execReadKnots s
  | .readKnotsDone => Sys2Proof.Machine.execReadKnotsDone s
  | .deleteCurve => Sys2Proof.Machine.execDeleteCurve s
  | .bindChannels => Sys2Proof.Machine.execBindChannels s
  | .prepareBind => Sys2Proof.Machine.execPrepareBind s
  | .applyBind => Sys2Proof.Machine.execApplyBind s
  | .applyBindBroadcast => Sys2Proof.Machine.execApplyBindBroadcast s
  | .cancelBind => Sys2Proof.Machine.execCancelBind s
  | .cancelBindBroadcast => Sys2Proof.Machine.execCancelBindBroadcast s
  | .ackNotices => Sys2Proof.Machine.execAckNotices s
  | .resumeNotices => Sys2Proof.Machine.execResumeNotices s
  | .readCounters => Sys2Proof.Machine.execReadCounters s
  | .noticeRetryExpiry => Sys2Proof.Machine.execNoticeRetryExpiry s
  | .dPortTaking => Sys2Proof.Machine.execDPortTaking s
  | .dPortDiscardTaking => Sys2Proof.Machine.execDPortDiscardTaking s
  | .frameSent port => Sys2Proof.Machine.execFrameSent port s
  | .upQueueTake => Sys2Proof.Machine.execUpQueueTake s
  | .upQueueDiscard => Sys2Proof.Machine.execUpQueueDiscard s
  | .postedResponsePlaced => Sys2Proof.Machine.execPostedResponsePlaced s
  | .millisecondTick => Sys2Proof.Machine.execMillisecondTick s

end Sys2Proof.Machine
end

