-- ==== Sys2Proof/Safety.lean ====
section
/-! DEFINITION. What counts as a safe run, and the conditions the manual says always hold of the part: what claims about every step are stated in. -/

namespace Sys2Proof.Machine

/-! ### Runs -/

/-- The outcome is a next state, and one that satisfies `P`. -/
def NextIs (o : Host.Outcome State Fault Refusal) (P : State → Prop) : Prop :=
  match o with
  | .next t => P t
  | .fault _ => False
  | .refused _ => False

/-- A run of `n` steps that neither faults nor is refused. -/
def SafeRun (n : Nat) (s : State) : Prop := NextIs (Sys2Proof.core.run n s) fun _ => True

/-- Whatever commands wait in the part, and however many: it is started from reset with them. -/
def State.resetWith (commands : List Instr) : State := { State.reset with pending := commands }

/-! ### Commands in hand -/

/-- The engine holds `f`, addressed to this node and new to its manager's reply cache entry (07 R135, R138). -/
def State.Takes (s : State) (f : Frame) : Prop :=
  s.mgmt.inHand = some f ∧ f.addressed = true ∧
  (∀ r, s.mgmt.entry f.aux ≠ .answered f.seq r) ∧ s.mgmt.entry f.aux ≠ .inProgress f.seq

/-- The part after `f` is answered with nothing else changed: its cache entry taken, its response formed, stored and offered (07 R135 to R137). -/
def State.answered (s : State) (f : Frame) (status : Status) (payload : List Byte) : State :=
  (s.begun f).respond f status payload

/-- The engine holds `f`, new, from the owner of the OPEN lease `l` (05 R88). -/
def State.Holds (s : State) (f : Frame) (l : Lease) : Prop := s.Takes f ∧ s.loader.lease = some l ∧ l.owner = f.aux

/-- The loader commands that renew the lease, with their codes (05 R88). -/
def renewingCommands : List (Instr × Byte) :=
  [(.stageKnots, codeStageKnots), (.clearStaging, codeClearStaging), (.readStaging, codeReadStaging),
   (.defineCurve, codeDefineCurve), (.closeLease, codeCloseLease)]

/-- The commands with their codes and the payload lengths their rules allow; SET_CHANNEL's and DEFINE_CURVE's depend on payload bytes as well (07 R135). -/
def lengthRules : List (Instr × Byte × (List Byte → Bool)) :=
  [(.ping, codePing, fun p => p.length == 0), (.getStatus, codeGetStatus, fun p => p.length == 1),
   (.setParam, codeSetParam, fun p => p.length == 3), (.mapChannel, codeMapChannel, fun p => p.length == 2),
   (.setChannel, codeSetChannel, fun p =>
     (p.length == 4 && !((p.getD 3 0).getLsbD 2)) || (p.length == 10 && (p.getD 3 0).getLsbD 2)),
   (.getChannel, codeGetChannel, fun p => p.length == 1), (.openLease, codeOpenLease, fun p => p.length == 0),
   (.stageKnots, codeStageKnots, fun p => (List.range 11).any fun i => p.length == 2 + 4 * (i + 1)),
   (.clearStaging, codeClearStaging, fun p => p.length == 0), (.readStaging, codeReadStaging, fun p => p.length == 2),
   (.writePage, codeWritePage, fun p => p.length == 0 || p.length == 1),
   (.defineCurve, codeDefineCurve, fun p => 4 ≤ p.length && p.length ≤ 7 && p.length == 3 + (p.getD 1 0).toNat),
   (.closeLease, codeCloseLease, fun p => p.length == 0), (.getCurve, codeGetCurve, fun p => p.length == 1),
   (.readKnots, codeReadKnots, fun p => p.length == 3), (.deleteCurve, codeDeleteCurve, fun p => p.length == 1),
   (.bindChannels, codeBindChannels, fun p => (List.range 8).any fun i => p.length == 3 * (i + 1)),
   (.prepareBind, codePrepareBind, fun p => (List.range 8).any fun i => p.length == 1 + 3 * (i + 1)),
   (.applyBind, codeApplyBind, fun p => p.length == 1), (.cancelBind, codeCancelBind, fun p => p.length == 1),
   (.ackNotices, codeAckNotices, fun p => p.length == 1), (.resumeNotices, codeResumeNotices, fun p => p.length == 0),
   (.readCounters, codeReadCounters, fun p => p.length == 3)]

/-! ### What a command can reach -/

/-- The blocks of the part (00 Table 1). -/
inductive Block
  | uPort | dPort | table | store | conditioner | loader | bind | mgmt | notices | merger | counters
  deriving DecidableEq, Repr

/-- Two states hold the same in a block. -/
def State.agrees (s t : State) : Block → Prop
  | .uPort => t.uPort = s.uPort
  | .dPort => t.dPort = s.dPort
  | .table => t.table = s.table
  | .store => t.store = s.store
  | .conditioner => t.conditioner = s.conditioner
  | .loader => t.loader = s.loader
  | .bind => t.bind = s.bind
  | .mgmt => t.mgmt = s.mgmt
  | .notices => t.notices = s.notices
  | .merger => t.merger = s.merger
  | .counters => t.counters = s.counters

/-- The block of a port. -/
def portBlock : Port → Block
  | .uPort => .uPort
  | .dPort => .dPort

/-- Every block. -/
def allBlocks : List Block :=
  [.uPort, .dPort, .table, .store, .conditioner, .loader, .bind, .mgmt, .notices, .merger, .counters]

/-- The blocks a command may write, by the rules that govern it (95). Access periods pass inside the completions and the ticks (log 7, 9), so
those may write whatever a grant, a conversion end, the end of a read-back and the completion of a page write do. -/
def mayWrite : Instr → List Block
  | .resetnRelease | .resetNodeSoft | .resetNodeFull => allBlocks
  | .carrierDetect p | .frameSent p => [portBlock p]
  | .alignmentAchieved p | .carrierLoss p => [portBlock p, .notices, .counters]
  | .frameArrival p _ => [portBlock p, .counters]
  | .dataClassifierTake => [.uPort, .merger, .counters]
  | .lookup => [.uPort, .table, .store, .conditioner, .notices, .counters]
  | .conversionEnd _ | .pageWriteCompletion | .defineCurveCheckDone | .readKnotsDone | .leaseExpiry | .noticeRetryExpiry | .millisecondTick =>
    [.table, .store, .conditioner, .loader, .mgmt, .notices, .merger, .counters]
  | .cqEntry => [.table, .store, .conditioner, .mgmt, .notices, .merger, .counters]
  | .fenceApply | .mapChannel | .setChannel => [.table, .mgmt, .counters]
  | .commandClassifierTake => [.dPort, .mgmt, .merger, .counters]
  | .unknownCommand | .ping | .getChannel | .getCurve | .readKnots | .readCounters => [.mgmt, .counters]
  | .getStatus | .ackNotices | .resumeNotices => [.mgmt, .notices, .counters]
  | .setParam => [.uPort, .mgmt, .counters]
  | .openLease | .stageKnots | .clearStaging | .readStaging | .defineCurve => [.loader, .mgmt, .counters]
  | .writePage | .closeLease => [.store, .loader, .mgmt, .counters]
  | .deleteCurve => [.store, .mgmt, .notices, .counters]
  | .bindChannels => [.table, .store, .mgmt, .notices, .counters]
  | .prepareBind | .cancelBind | .cancelBindBroadcast => [.store, .bind, .mgmt, .counters]
  | .applyBind | .applyBindBroadcast => [.table, .store, .bind, .mgmt, .notices, .counters]
  | .dPortTaking => [.uPort, .dPort, .table, .store, .conditioner, .loader, .mgmt, .notices, .merger, .counters]
  | .dPortDiscardTaking => [.uPort, .table, .store, .conditioner, .loader, .mgmt, .notices, .merger, .counters]
  | .upQueueTake => [.uPort, .merger]
  | .upQueueDiscard => [.merger, .counters]
  | .postedResponsePlaced => [.loader, .mgmt]

/-! ### Ports and queues (01 R13, R15, 03 R45, 07 R133, R142, 09 R170 to R172) -/

/-- A port's buffer is within its size and its frames keep the length rule of their kind; while the port is not UP it is empty and the transmitter IDLE
(01 R11, R13, R15). -/
def LinkPort.Kept (x : LinkPort) (size : Nat) : Prop :=
  x.buffer.length ≤ size ∧ (x.link ≠ .up → x.buffer = [] ∧ x.tx = .idle) ∧
  ∀ f ∈ x.buffer, kindLengthOk f.kind f.aux f.payload.length = true

/-- An occupied work slot holds the 1..8 samples of one SAMPLE frame (01 R4, 04 R69). -/
def Conditioner.Fed (c : Conditioner) : Prop := ∀ i w, c.slots[(i : SlotId)] = some w → 1 ≤ w.samples.length ∧ w.samples.length ≤ 8

/-- The merger's queues are within their sizes (09 R170 to R172). -/
def Merger.Kept (m : Merger) : Prop :=
  m.cq.length ≤ Config.cqSize ∧ m.fq.length ≤ Config.fqSize ∧ m.uq.length ≤ Config.uqSize

/-! ### The management engine (07 R128, R133, R134, R142, R143) -/

/-- The holders of the responses that wait, in order. -/
def Management.holders (m : Management) : List Holder := m.waiting.map HeldResponse.holder

/-- The engine's queues are within their sizes; it is IDLE exactly while it has no current command, and then no command waits; a response waits only
while the response queue is full; each holder holds at most one response, and the engine holds one exactly in POSTING (07 R133, R134, R142, R143). -/
def Management.Kept (m : Management) : Prop :=
  m.address.toNat ≤ 62 ∧
  m.commandQueue.length ≤ Config.commandQueueSize ∧
  m.responseQueue.length ≤ Config.responseQueueSize ∧
  (m.state = .idle ↔ m.current = none) ∧
  (m.state = .idle → m.commandQueue = []) ∧
  (m.waiting ≠ [] → m.responseQueue.length = Config.responseQueueSize) ∧
  m.holders.Nodup ∧
  (Holder.engine ∈ m.holders ↔ m.state = .posting) ∧
  (m.readBack.isSome → m.state = .executing)

/-- The engine and the loader as one: the loader is POSTING exactly while a response of its own waits, and it has a write record in WRITING and POSTING alone (05 R97, R103). -/
def State.LoaderKept (s : State) : Prop :=
  (Holder.loader ∈ s.mgmt.holders ↔ s.loader.state = .posting) ∧
  (s.loader.write = none ↔ s.loader.state = .idle)

/-! ### The notice unit (08 R153, R156, R157, R161, R162) -/

/-- The window's sequences are consecutive and end just before the sequence counter (08 R156, R157). -/
def NoticeUnit.Consecutive (u : NoticeUnit) : Prop :=
  u.window.map WindowEntry.seq = (List.range u.window.length).map fun i => u.nextSeq - byteOf (u.window.length - i)

/-- The SENT entries are at the head of the window, and transmissions do not rise from head to tail, and fall from a SENT entry to a QUEUED one (08 R156). -/
def NoticeUnit.Ordered (u : NoticeUnit) : Prop :=
  u.window.Pairwise fun a b => (b.sent = true → a.sent = true) ∧ b.transmissions ≤ a.transmissions ∧
    (a.sent = true → b.sent = false → b.transmissions < a.transmissions)

/-- The counts of the window and held entries are in their ranges; a SENT entry has been transmitted, and a QUEUED one has transmissions left (08 Table 8-2, R162). -/
def NoticeUnit.InRange (u : NoticeUnit) : Prop :=
  (∀ e ∈ u.window, if e.sent then 1 ≤ e.transmissions ∧ e.transmissions ≤ 4 else e.transmissions ≤ 3) ∧
  (∀ e ∈ u.window, 1 ≤ e.notice.coalesce ∧ e.notice.coalesce ≤ Config.maxCoalesce) ∧
  (∀ n ∈ u.held, 1 ≤ n.coalesce ∧ n.coalesce ≤ Config.maxCoalesce)

/-- The sizes of the window and the held list; a notice is held only while the window is full; no two held entries match (08 R153, R156). -/
def NoticeUnit.Sized (u : NoticeUnit) : Prop :=
  u.window.length ≤ Config.windowSize ∧ u.held.length ≤ Config.heldSize ∧
  (u.held ≠ [] → u.window.length = Config.windowSize) ∧
  u.held.Pairwise fun a b => a.matches b = false

/-- The retry timer runs exactly while the unit is RUNNING with a SENT entry (08 R161). -/
def NoticeUnit.Timed (u : NoticeUnit) : Prop :=
  u.timer.isSome = (u.state == .running && u.window.any WindowEntry.sent)

/-- What chapter 08 says always holds of the notice unit (08 R153, R156, R157, R161, R162). -/
def NoticeUnit.Kept (u : NoticeUnit) : Prop := u.Sized ∧ u.Consecutive ∧ u.Ordered ∧ u.InRange ∧ u.Timed

/-! ### The ports, the queues and the engine as one -/

/-- The ports, the work slots' samples, the merger's queues, and the engine and the loader with theirs are as their rules always have them. -/
def State.QueuesKept (s : State) : Prop :=
  s.uPort.Kept Config.uBufferSize ∧ s.dPort.Kept Config.dBufferSize ∧ s.conditioner.Fed ∧ s.merger.Kept ∧ s.mgmt.Kept ∧ s.LoaderKept

/-! ### The channel table (02 R24, R26) -/

/-- Map and back-references agree: the map entry of channel c holds context k exactly when the back-reference of k is c (02 R24). -/
def ChannelTable.Linked (t : ChannelTable) : Prop :=
  ∀ (channel : Byte) (k : ContextId), t.lookup channel = some k ↔ t.contexts[k].channel = some channel

/-- Every context in mode COND has a bound curve (02 R26). -/
def ChannelTable.CondBound (t : ChannelTable) : Prop :=
  ∀ k : ContextId, t.contexts[k].mode = .cond → t.contexts[k].curve.isSome = true

/-- No pair of the pending set would take the curve from a context in mode COND (06 R117). -/
def State.PendingKept (s : State) : Prop :=
  ∀ b, s.bind = some b → ∀ p ∈ b.pairs, p.curve = none → ∀ k, s.table.lookup p.channel = some k → (s.context k).mode ≠ .cond

/-- The checks that a fenced command passed still hold while it waits (02 R38). -/
def State.FenceKept (s : State) : Prop :=
  s.mgmt.state = .fenceWait → ∀ f, s.mgmt.current = some f →
    (f.code = codeMapChannel → ∀ channel target t, f.payload = [channel, target] → mapTarget target = some t →
      s.channelPending channel = false ∧ ∀ k, t = some k → ∀ c, (s.context k).channel = some c → c = channel) ∧
    (f.code ≠ codeMapChannel → ∀ p, settingsOf f.payload = some p → p.mode = .cond →
      (s.context p.context).curve.isSome = true ∧ (s.context p.context).channel.any s.channelPendingNone = false)

/-- What chapter 02 always has: map and back-references agree, COND contexts have a curve, and what waits cannot break either. -/
def State.ChannelsKept (s : State) : Prop := s.table.Linked ∧ s.table.CondBound ∧ s.PendingKept ∧ s.FenceKept

/-! ### The pages (03 R43, R45) -/

/-- Every page the store holds, place by place: free list, loose set, page lists (03 R43). -/
def CurveStore.held (t : CurveStore) : List PageId :=
  t.free ++ t.loose.map LoosePage.page ++ t.curves.toList.flatMap Curve.pages

/-- Each of the 128 pages is in exactly one place (03 R43). -/
def CurveStore.Partitioned (t : CurveStore) : Prop := t.held.Nodup ∧ t.held.length = 128

/-- The page of a write in flight is loose and marked, and no other page is marked (03 R45, 05 R97). -/
def State.MarkedByWrite (s : State) : Prop :=
  (s.store.loose.filter LoosePage.writing).map LoosePage.page =
    if s.loader.state = .writing then (s.loader.write.map WriteRecord.page).toList else []

/-- The arbiter has granted at most three conversion claims in a row while another waited (03 R59). -/
def StoreArbiter.Kept (a : StoreArbiter) : Prop := a.conversionRun ≤ 3

/-- The increasing x of consecutive knots. -/
def increasing : List Knot → Prop
  | a :: b :: rest => a.x.toInt < b.x.toInt ∧ increasing (b :: rest)
  | _ => True

/-- A read-back is a current command's; while an order check runs its curve stays EMPTY, and its pages loose, unmarked, each named once; the knots read so far are
those its pages hold, and of increasing x unless one was found out of order (05 R104, R105). -/
def State.OrderCheckKept (s : State) : Prop :=
  ∀ r, s.mgmt.readBack = some r → s.mgmt.current.isSome = true ∧
    ∀ failed, r.purpose = .orderCheck failed →
      (s.curve r.curve).state = .empty ∧ r.pages.Nodup ∧ (∀ p ∈ r.pages, ⟨p, false⟩ ∈ s.store.loose) ∧
      knotsFit r.pages.length r.knots = true ∧ r.pages.length ≤ 4 ∧ r.first = 0 ∧ r.count = r.knots ∧
      (∀ (i : Nat) (k : Knot), r.got[i]? = some k → s.store.knotAt r.pages i = some k) ∧ (failed = none → increasing r.got)

/-- A curve that is not EMPTY has 1..4 pages and a knot count that fits them, and its knots have strictly increasing x (03 R47, 05 R104, R105). -/
def State.KnotsKept (s : State) : Prop :=
  ∀ c, (s.curve c).state ≠ .empty →
    knotsFit (s.curve c).pages.length (s.curve c).knots = true ∧ (s.curve c).pages.length ≤ 4 ∧
    ∀ i, i + 1 < (s.curve c).knots → ∃ a b, s.store.knotAt (s.curve c).pages i = some a ∧
      s.store.knotAt (s.curve c).pages (i + 1) = some b ∧ a.x.toInt < b.x.toInt

/-- LEASE_TIME is in its range; an OPEN lease's timer has ticks left of a duration in that range; the staging cursor names a slot; the loose set holds at most
8 pages, and while the lease is CLOSED none but the page being written (07 Table 7-3, 05 R86, R92, R107, 03 R45). -/
def State.LeaseKept (s : State) : Prop :=
  (10 ≤ s.mgmt.params.leaseTime.toNat ∧ s.mgmt.params.leaseTime.toNat ≤ 2550) ∧
  (∀ l, s.loader.lease = some l → l.count < l.duration ∧ l.duration ≤ 2550) ∧
  s.loader.staging.cursor ≤ 15 ∧
  s.store.loose.length ≤ Config.looseSize ∧
  (s.loader.lease = none → ∀ p ∈ s.store.loose, p.writing = true)

/-- What chapters 03 and 05 always have of the pages: each in one place, none of them an EMPTY curve's, which has no knots, what is under way cannot break it, every other
curve's knots as a definition leaves them, and the lease, the staging page and the loose set within their bounds. -/
def State.PagesKept (s : State) : Prop :=
  s.store.Partitioned ∧ (∀ c, (s.curve c).state = .empty → (s.curve c).pages = [] ∧ (s.curve c).knots = 0) ∧ s.MarkedByWrite ∧ s.OrderCheckKept ∧
    s.KnotsKept ∧ s.store.arbiter.Kept ∧ s.LeaseKept

/-! ### The counts (02 R29, 03 R48) -/

/-- A descriptor's counts are the numbers held elsewhere in the part (03 R48). -/
def State.Counted (s : State) (c : CurveId) : Prop :=
  (s.curve c).refs = s.table.contexts.toList.countP (fun k => k.curve == some c) ∧
  (s.curve c).pins = s.conditioner.slots.toList.countP (fun w => w.any fun w => w.curve == c) ∧
  (s.curve c).reservations = s.bind.elim 0 fun b => naming b.pairs c

/-- A descriptor's counts fit its state (03 R48). -/
def Curve.CountsFit (d : Curve) : Prop :=
  match d.state with
  | .empty => d.refs = 0 ∧ d.pins = 0 ∧ d.reservations = 0
  | .built => d.refs = 0
  | .live => 1 ≤ d.refs
  | .retiring => d.refs = 0 ∧ d.reservations = 0 ∧ 1 ≤ d.pins

/-- Each context's in-flight count is the number of slots that hold its frames (02 R29). -/
def State.InFlightCounted (s : State) : Prop :=
  ∀ k : ContextId, (s.context k).inFlight = s.conditioner.slots.toList.countP fun w => w.any fun w => w.context == k

/-! ### The conditioning engine (04 R63 to R65, R74) -/

/-- The age order names each occupied slot once and no other (04 R64). -/
def Conditioner.AgeKept (c : Conditioner) : Prop := c.age.Nodup ∧ ∀ i : SlotId, i ∈ c.age ↔ c.slots[i].isSome = true

/-- The ready order names each READY slot once and no other (04 R64). -/
def Conditioner.ReadyKept (c : Conditioner) : Prop :=
  c.ready.Nodup ∧ ∀ i : SlotId, i ∈ c.ready ↔ ∃ w o q, c.slots[i] = some w ∧ w.phase = .ready o q

/-- A slot is CONVERTING on a unit exactly when that unit is BUSY with it (04 R63, R65). -/
def Conditioner.Paired (c : Conditioner) : Prop :=
  ∀ (u : UnitId) (i : SlotId), (∃ w, c.slots[i] = some w ∧ w.phase = .converting u) ↔ ∃ b, c.units[u] = some b ∧ b.slot = i

/-- The accumulators, of every context and of every BUSY unit for the context whose frame it converts, hold fewer values than the context's N (04 R74). -/
def State.AveragesKept (s : State) : Prop :=
  (∀ k : ContextId, (s.context k).acc.count < (s.context k).decimation) ∧
  ∀ u b w, s.busySlot u = some (b, w) → b.work.acc.count < (s.context w.context).decimation

/-- What chapter 04 always has of the slots, the orders, the units and the accumulators. -/
def State.ConditionerKept (s : State) : Prop :=
  s.conditioner.AgeKept ∧ s.conditioner.ReadyKept ∧ s.conditioner.Paired ∧ s.AveragesKept

/-- What chapters 02 to 04 always have of the counts, with the conditioning engine and the channels kept, at most 8 pending pairs of distinct channels, and
an order check's curve EMPTY. -/
def State.CountsKept (s : State) : Prop :=
  s.ChannelsKept ∧ (∀ b, s.bind = some b → (b.pairs.map Pair.channel).Nodup ∧ b.pairs.length ≤ 8) ∧ (∀ c, s.Counted c) ∧ (∀ c, (s.curve c).CountsFit) ∧
    s.InFlightCounted ∧ s.ConditionerKept ∧
    (∀ r, s.mgmt.readBack = some r → s.mgmt.current.isSome = true ∧
      ∀ failed, r.purpose = .orderCheck failed → (s.curve r.curve).state = .empty)

end Sys2Proof.Machine
end

