-- ==== Sys2Proof/Certificates/Slice0/Obligations.lean ====
section
/-! DEFINITION. The statements about the model, each a proposition; OBLIGATIONS.json says what each one claims and rests on. -/

open Sys2Proof Sys2Proof.Machine

/-! ### A step -/

/-- A step takes the command at the front of the queue and carries it out on the part with the queue's rest; with no command waiting
a step is one access period of the store port, which is the model's choice (log 6). -/
def Obligations.StepCarriesOutTheFrontCommand : Prop :=
  (∀ (c : Instr) (s : State), step { s with pending := c :: s.pending } = exec c s) ∧
  (∀ s : State, s.pending = [] → step s = .next s.accessPeriod)

/-- No command is refused; LOOKUP alone can fault; a command leaves the queue as it is, and `fresh` too, but that a command classifier taking may advance it by one. -/
def Obligations.ExecOutcomes : Prop :=
  ∀ (c : Instr) (s : State),
    match exec c s with
    | .next t =>
      t.pending = s.pending ∧ (t.fresh = s.fresh ∨ (c = .commandClassifierTake ∧ t.fresh = s.fresh + 1))
    | .fault r => c = .lookup ∧ r = .condWithoutCurve
    | .refused _ => False

/-- A command leaves every block alone that the rules governing it do not let it write. -/
def Obligations.CommandsWriteOnlyTheirBlocks : Prop :=
  ∀ (c : Instr) (s t : State), exec c s = .next t → ∀ b : Block, b ∉ mayWrite c → s.agrees t b

/-- Outside the two full resets, no command changes a slot of a page other than the page of the write in flight. -/
def Obligations.OnlyThePageBeingWrittenChanges : Prop :=
  ∀ (c : Instr) (s t : State), c ≠ .resetnRelease → c ≠ .resetNodeFull → exec c s = .next t →
    ∀ p : PageId, (s.loader.state = .writing → ∀ r ∈ s.loader.write, r.page ≠ p) →
      ∀ i : Fin 16, t.store.pages[p][i] = s.store.pages[p][i]

/-- What the part holds at the release of RESETn, block by block. -/
def Obligations.PowerOnState : Prop :=
  let s := State.reset
  (∀ p : Port, (s.port p).link = .down ∧ (s.port p).buffer = [] ∧ (s.port p).tx = .idle) ∧
  (∀ channel : Byte, s.table.lookup channel = none) ∧
  (∀ k : ContextId,
    (s.context k).channel = none ∧ (s.context k).mode = .off ∧ (s.context k).curve = none ∧
    (s.context k).decimation = 1 ∧ (s.context k).limits = none ∧ (s.context k).limitNotices = true ∧
    (s.context k).seqGapNotices = true ∧ (s.context k).expected = none ∧ (s.context k).acc = ⟨0, 0, false, false⟩ ∧
    (s.context k).outSeq = 0 ∧ (s.context k).inFlight = 0 ∧ (s.context k).fenced = false) ∧
  (∀ (p : PageId) (i : Fin 16), s.store.pages[p][i] = ⟨0, 0⟩) ∧
  s.store.free = List.finRange 128 ∧ s.store.loose = [] ∧
  (∀ c : CurveId, s.curve c = ⟨.empty, 0, [], 0, 0, 0, 0⟩) ∧
  s.store.arbiter = ⟨none, none, 0⟩ ∧ s.claims = ⟨false, false, false, false⟩ ∧
  (∀ i : SlotId, s.conditioner.slots[i] = none) ∧ s.conditioner.age = [] ∧ s.conditioner.ready = [] ∧
  (∀ u : UnitId, s.conditioner.units[u] = none) ∧
  s.loader.lease = none ∧ (∀ i : Fin 16, s.loader.staging.slots[i] = ⟨0, 0⟩) ∧ s.loader.staging.cursor = 0 ∧
  s.loader.staging.saturated = false ∧ s.loader.state = .idle ∧ s.loader.write = none ∧
  s.bind = none ∧
  s.mgmt.address = 0 ∧ s.mgmt.params = ⟨200, 20, .forward, 0x003F⟩ ∧ s.mgmt.commandQueue = [] ∧
  s.mgmt.state = .idle ∧ s.mgmt.current = none ∧ s.mgmt.waiting = [] ∧ (∀ m : Fin 4, s.mgmt.cache[m] = .empty) ∧
  s.mgmt.responseQueue = [] ∧
  s.notices = ⟨.running, [⟨⟨.nodeStart, 0, [1], 1⟩, 0, false, 0⟩], [], 1, none, false⟩ ∧
  s.merger = ⟨[], [], [], .cq⟩ ∧
  (∀ x : Scope, ∀ v ∈ s.counters.read x, v = 0)

/-! ### Frames on the link (chapter 01) -/

/-- One of the eight steps of the CRC register, as 01 R2 words it. -/
def crcRegisterStep (r : Half) : Half := if r.getLsbD 15 then (r <<< 1) ^^^ 0x1021 else r <<< 1

/-- The CRC: the register's start, its bytes, its eight steps, its check value; sent high byte first; the receiver compares it with its own. -/
def Obligations.CrcRule : Prop :=
  (∀ bytes : List Byte,
    crc bytes = bytes.foldl (fun (r : Half) (b : Byte) => crcRegisterStep^[8] (r ^^^ (b ++ (0 : Byte)))) 0xFFFF) ∧
  crc [0x31, 0x32, 0x33, 0x34, 0x35, 0x36, 0x37, 0x38, 0x39] = 0x29B1 ∧
  (∀ f : Frame, f.wire = f.body ++ [(crc f.body).extractLsb' 8 8, (crc f.body).extractLsb' 0 8]) ∧
  (∀ body high low, runLengthOk (body ++ [high, low]).length ((body.getD 1 0).toNat) = true →
    (receive (body ++ [high, low]) = .error .crcErr ↔ halfOf high low ≠ crc body))

/-- What a transmitter sends of a frame that keeps its kind's length rule is received as that frame; and a run that passes the receive checks is exactly what a
transmitter would send of the frame received. -/
def Obligations.FramesAndTheirBytesAgree : Prop :=
  (∀ f : Frame, f.payload.length ≤ 48 → kindLengthOk f.kind f.aux f.payload.length = true → receive f.wire = .ok f) ∧
  (∀ (run : List Byte) (f : Frame), receive run = .ok f →
      run = f.wire ∧ f.payload.length ≤ 48 ∧ kindLengthOk f.kind f.aux f.payload.length = true)

/-- FRAME_ARRIVAL: nothing in DOWN and ALIGN; in UP the first check that fails is counted, then direction, then a full buffer; else the frame joins the tail. -/
def Obligations.FrameArrivalResult : Prop :=
  ∀ (p : Port) (run : List Byte) (s : State),
    ((s.port p).link ≠ .up → exec (.frameArrival p run) s = .next s) ∧
    ((s.port p).link = .up →
      (∀ e, receive run = .error e → exec (.frameArrival p run) s = .next (s.countPort p fun c => c.countError e)) ∧
      (∀ f, receive run = .ok f →
        ((p = .uPort ↔ f.kind = .cmd ∨ f.kind = .enum) →
          exec (.frameArrival p run) s = .next (s.countPort p fun c => { c with direction := c.direction + 1 })) ∧
        (¬ (p = .uPort ↔ f.kind = .cmd ∨ f.kind = .enum) →
          (bufferSize p ≤ (s.port p).buffer.length →
            exec (.frameArrival p run) s = .next (s.countPort p fun c => { c with overrun := c.overrun + 1 })) ∧
          ((s.port p).buffer.length < bufferSize p →
            exec (.frameArrival p run) s =
              .next (s.setPort p { s.port p with buffer := (s.port p).buffer ++ [f] }))))) ∧
    bufferSize .uPort = 8 ∧ bufferSize .dPort = 4 ∧
    (∀ c : PortCounters,
      c.countError .lengthErr = { c with lengthErr := c.lengthErr + 1 } ∧
      c.countError .crcErr = { c with crcErr := c.crcErr + 1 } ∧
      c.countError .kindErr = { c with kindErr := c.kindErr + 1 })

/-- The receive checks of a run of B bytes with length field n, in their order; a run too short for a header; the six kind codes. -/
def Obligations.ReceiveCheckOrder : Prop :=
  (∀ run : List Byte, run.length < 8 → receive run = .error .lengthErr) ∧
  (FrameKind.ofCode 1 = some .sample ∧ FrameKind.ofCode 2 = some .csample ∧ FrameKind.ofCode 3 = some .cmd ∧
    FrameKind.ofCode 4 = some .resp ∧ FrameKind.ofCode 5 = some .notice ∧ FrameKind.ofCode 6 = some .enum ∧
    (∀ k : Byte, k.toNat < 1 ∨ 6 < k.toNat → FrameKind.ofCode k = none)) ∧
  ∀ (k n a q x c : Byte) (rest : List Byte),
    let run := k :: n :: a :: q :: x :: c :: rest
    let bad := 56 < run.length ∨ run.length < 8 ∨ 48 < n.toNat ∨ run.length ≠ 8 + n.toNat
    let covered := run.take (6 + n.toNat)
    let crcBad := halfBytes (crc covered) ≠ run.drop (6 + n.toNat)
    (bad → receive run = .error .lengthErr) ∧
    (¬ bad → crcBad → receive run = .error .crcErr) ∧
    (¬ bad → ¬ crcBad → (k.toNat < 1 ∨ 6 < k.toNat) → receive run = .error .kindErr) ∧
    (¬ bad → ¬ crcBad → ∀ kind, FrameKind.ofCode k = some kind →
      ((kind = .sample ∧ ((x.toNat < 1 ∨ 8 < x.toNat) ∨ n.toNat ≠ 2 + 2 * x.toNat)) ∨
       (kind = .csample ∧ ((x.toNat < 1 ∨ 8 < x.toNat) ∨ n.toNat ≠ 2 + 3 * x.toNat)) ∨
       (kind = .notice ∧ n.toNat < 2) ∨ (kind = .enum ∧ n.toNat ≠ 0) → receive run = .error .lengthErr) ∧
      (¬ ((kind = .sample ∧ ((x.toNat < 1 ∨ 8 < x.toNat) ∨ n.toNat ≠ 2 + 2 * x.toNat)) ∨
       (kind = .csample ∧ ((x.toNat < 1 ∨ 8 < x.toNat) ∨ n.toNat ≠ 2 + 3 * x.toNat)) ∨
       (kind = .notice ∧ n.toNat < 2) ∨ (kind = .enum ∧ n.toNat ≠ 0)) →
        receive run = .ok ⟨kind, a, q, x, c, rest.take n.toNat⟩))

/-- The link states: every event in every state, with the LINK_CHANGE raises, the flush and the abandoned frame; FRAME_SENT; RESETN_RELEASE. -/
def Obligations.LinkEventResults : Prop :=
  ∀ (p : Port) (s : State),
    ((s.port p).link = .down →
      exec (.carrierDetect p) s = .next (s.setPort p { s.port p with link := .align }) ∧
      exec (.alignmentAchieved p) s = .next s ∧ exec (.carrierLoss p) s = .next s) ∧
    ((s.port p).link = .align →
      exec (.carrierDetect p) s = .next s ∧
      exec (.alignmentAchieved p) s =
        .next ((s.setPort p { s.port p with link := .up }).raise .linkChange (portSubject p) [2]) ∧
      exec (.carrierLoss p) s = .next (s.setPort p { s.port p with link := .down })) ∧
    ((s.port p).link = .up →
      exec (.carrierDetect p) s = .next s ∧ exec (.alignmentAchieved p) s = .next s ∧
      exec (.carrierLoss p) s =
        .next (((s.setPort p ⟨.down, [], .idle⟩).countPort p fun c =>
          { c with
            linkFlush := c.linkFlush + BitVec.ofNat 32 (s.port p).buffer.length
            outDiscard := c.outDiscard + (if (s.port p).tx = .idle then 0 else 1) }).raise
              .linkChange (portSubject p) [0])) ∧
    portSubject .uPort = 0 ∧ portSubject .dPort = 1 ∧
    exec (.frameSent p) s = .next (s.setPort p { s.port p with tx := .idle }) ∧
    exec .resetnRelease s = .next { State.reset with fresh := s.fresh, pending := s.pending }

/-! ### The classifiers (chapter 01, 07 R129, R130) -/

/-- DATA_CLASSIFIER_TAKE on a head frame, case by case. -/
def Obligations.DataClassifierResult : Prop :=
  ∀ (s : State) (f : Frame) (rest : List Frame), s.uPort.buffer = f :: rest →
    let taken : State := { s with uPort := { s.uPort with buffer := rest } }
    let forwarded (t : State) : State := { t with merger := { t.merger with fq := t.merger.fq ++ [f] } }
    let result := exec .dataClassifierTake s
    (f.kind ≠ .sample →
      result = .next (if s.merger.fq.length < 8 then forwarded taken else s)) ∧
    (f.kind = .sample →
      (s.table.lookup f.addr = none →
        (s.mgmt.params.unmappedPolicy = .forward →
          result = .next (if s.merger.fq.length < 8 then
            forwarded (taken.countNode fun c => { c with unmappedFwd := c.unmappedFwd + 1 }) else s)) ∧
        (s.mgmt.params.unmappedPolicy = .drop →
          result = .next (taken.countNode fun c => { c with unmappedDrop := c.unmappedDrop + 1 }))) ∧
      (∀ k, s.table.lookup f.addr = some k →
        ((s.context k).fenced = true → result = .next s) ∧
        ((s.context k).fenced = false →
          ((s.context k).mode = .off →
            result = .next (taken.countContext k fun c => { c with offDrop := c.offDrop + 1 })) ∧
          ((s.context k).mode = .pass →
            result = .next (if s.merger.fq.length < 8 then
              forwarded (taken.countContext k fun c => { c with framesIn := c.framesIn + 1 }) else s)) ∧
          ((s.context k).mode = .cond → result = .next s))))

/-- COMMAND_CLASSIFIER_TAKE on a CMD head frame, case by case; that a repeat is dropped also while its response is held is the model's choice between sentences of
the spec (log 27); of a target of 64..255 at a node with an address it says only that the frame is forwarded or dropped, by a free value: the model's choice (log 12). -/
def Obligations.CommandClassifierResult : Prop :=
  ∀ (s : State) (f : Frame) (rest : List Frame), s.dPort.buffer = f :: rest → f.kind = .cmd →
    let taken : State := { s with dPort := { s.dPort with buffer := rest } }
    let up (t : State) : State := { t with merger := { t.merger with uq := t.merger.uq ++ [f] } }
    let joined (t : State) : State := { t with mgmt := t.mgmt.join f }
    let dropped (t : State) : State := t.countNode fun c => { c with cmdDropped := c.cmdDropped + 1 }
    let repeats : Prop := s.mgmt.entry f.aux = .inProgress f.seq ∨
      ((∃ r, s.mgmt.entry f.aux = .answered f.seq r) ∧ ∃ h ∈ s.mgmt.waiting, h.frame.aux = f.aux ∧ h.frame.seq = f.seq)
    let result := exec .commandClassifierTake s
    (3 < f.aux.toNat → result = .next (taken.countNode fun c => { c with badManager := c.badManager + 1 })) ∧
    (f.aux.toNat ≤ 3 →
      (f.addr = 63 →
        (4 ≤ s.merger.uq.length → result = .next s) ∧
        (s.merger.uq.length < 4 →
          ((f.code = 0x42 ∨ f.code = 0x43) →
            result = .next (if s.mgmt.commandQueue.length < 4 then joined (up taken) else dropped (up taken))) ∧
          (f.code ≠ 0x42 → f.code ≠ 0x43 →
            result = .next ((up taken).countNode fun c => { c with bcastIgnored := c.bcastIgnored + 1 })))) ∧
      (f.addr ≠ 63 → f.addr = s.mgmt.address → s.mgmt.address ≠ 0 →
        (4 ≤ s.mgmt.commandQueue.length → result = .next (dropped taken)) ∧
        (s.mgmt.commandQueue.length < 4 →
          (repeats → result = .next (taken.countNode fun c => { c with dupInProgress := c.dupInProgress + 1 })) ∧
          (¬ repeats → result = .next (joined taken)))) ∧
      (f.addr ≠ 63 → (s.mgmt.address = 0 ∨ (f.addr ≠ s.mgmt.address ∧ f.addr.toNat ≤ 62)) →
        result = .next (if s.merger.uq.length < 4 then up taken else s)) ∧
      (64 ≤ f.addr.toNat → s.mgmt.address ≠ 0 → f.addr ≠ s.mgmt.address →
        result = .next { taken with fresh := s.fresh + 1 } ∨
        result = .next (if s.merger.uq.length < 4 then { up taken with fresh := s.fresh + 1 } else s)))

/-- The enumeration event: own address, field sent upstream, reply cache; for a next address of 64..255 the first two are free values (log 11). -/
def Obligations.EnumerationResult : Prop :=
  ∀ (s : State) (f : Frame) (rest : List Frame), s.dPort.buffer = f :: rest → f.kind = .enum →
    (4 ≤ s.merger.uq.length → exec .commandClassifierTake s = .next s) ∧
    (s.merger.uq.length < 4 → ∃ own sent : Byte,
      (f.addr = 0 → own = 0 ∧ sent = 0) ∧
      (1 ≤ f.addr.toNat → f.addr.toNat ≤ 61 → own = f.addr ∧ sent = f.addr + 1) ∧
      (f.addr = 62 → own = 62 ∧ sent = 63) ∧
      (f.addr = 63 → own = 0 ∧ sent = 63) ∧
      own.toNat ≤ 62 ∧
      exec .commandClassifierTake s = .next
        { s with
          dPort := { s.dPort with buffer := rest }
          mgmt := { s.mgmt with
            address := own
            cache := if own = s.mgmt.address then s.mgmt.cache else Vector.replicate 4 .empty }
          merger := { s.merger with uq := s.merger.uq ++ [{ f with addr := sent }] }
          fresh := if 63 < f.addr.toNat then s.fresh + 1 else s.fresh })

/-! ### The conditioning engine (chapter 04) -/

/-- The sequence check, row by row of 04 Table 4-3; and the timestamp and the samples of a checked SAMPLE frame, high byte first, in payload order (01 Table 1-4). -/
def Obligations.SequenceCheckTable : Prop :=
  (∀ q : Byte, sequenceCheck none q = .admitted 0) ∧
  (∀ e q : Byte,
    ((q - e).toNat = 0 → sequenceCheck (some e) q = .admitted 0) ∧
    (1 ≤ (q - e).toNat → (q - e).toNat ≤ 127 → sequenceCheck (some e) q = .admitted (q - e).toNat) ∧
    (128 ≤ (q - e).toNat → sequenceCheck (some e) q = .late)) ∧
  (∀ f : Frame, kindLengthOk .sample f.aux f.payload.length = true →
    f.samples.length = f.aux.toNat ∧ f.timestamp = f.payload.getD 0 0 ++ f.payload.getD 1 0 ∧
    ∀ i, i < f.aux.toNat → f.samples[i]? = some (f.payload.getD (2 + 2 * i) 0 ++ f.payload.getD (3 + 2 * i) 0))

/-- LOOKUP: waiting, late, admitted with its gap counted and raised, and the one stop (a COND context without a curve, which 02 R26 excludes). An admitted frame: its
slot, the age order, the expected sequence, the pin, the in-flight count, the two counters; nothing else. -/
def Obligations.LookupResult : Prop :=
  (∀ s : State,
      (s.uPort.buffer = [] → exec .lookup s = .next s) ∧
      (∀ (f : Frame) (rest : List Frame), s.uPort.buffer = f :: rest →
        (s.decide f ≠ .offered → exec .lookup s = .next s) ∧
        (s.decide f = .offered → (∀ i : SlotId, s.conditioner.slots[i] ≠ none) → exec .lookup s = .next s) ∧
        (∀ (k : ContextId) (i : SlotId), f.kind = .sample → s.table.lookup f.addr = some k →
          (s.context k).mode = .cond → (s.context k).fenced = false →
          s.conditioner.slots[i] = none → (∀ j : SlotId, j < i → s.conditioner.slots[j] ≠ none) →
          let taken : State := { s with uPort := { s.uPort with buffer := rest } }
          (sequenceCheck (s.context k).expected f.seq = .late →
            exec .lookup s = .next (taken.countContext k fun c => { c with late := c.late + 1 })) ∧
          (∀ gap, sequenceCheck (s.context k).expected f.seq = .admitted gap →
            ((s.context k).curve = none → exec .lookup s = .fault .condWithoutCurve) ∧
            (∀ curve, (s.context k).curve = some curve →
              let counted : State := taken.countContext k fun c => { c with seqMissing := c.seqMissing + BitVec.ofNat 32 gap }
              let gapped : State :=
                if gap = 0 then taken
                else if (s.context k).seqGapNotices then counted.raise .seqGap f.addr [BitVec.ofNat 8 gap] else counted
              exec .lookup s = .next ((gapped.occupy k i curve f).startConversions)))))) ∧
  (∀ (s : State) (k : ContextId) (i : SlotId) (curve : CurveId) (f : Frame),
      s.occupy k i curve f =
        { s with
          table := { s.table with
            contexts := s.table.contexts.set k
              { s.context k with expected := some (f.seq + 1), inFlight := (s.context k).inFlight + 1 } }
          store := { s.store with
            curves := s.store.curves.set curve
              { s.curve curve with pins := (s.curve curve).pins + 1 } }
          conditioner := { s.conditioner with
            slots := s.conditioner.slots.set i (some ⟨.queued, k, f.addr, curve, f.timestamp, f.samples⟩)
            age := s.conditioner.age ++ [i] }
          counters := { s.counters with
            contexts := s.counters.contexts.set k
              { s.counters.contexts[k] with
                framesIn := s.counters.contexts[k].framesIn + 1
                samplesIn := s.counters.contexts[k].samplesIn + BitVec.ofNat 32 f.samples.length } } })

/-- Conversion start: the oldest QUEUED slot with no older QUEUED or CONVERTING slot of its context; unit 0 first; the working record from the context; a start
changes that slot and that unit and nothing else; the event is two such starts, and none is left to start while a unit is IDLE. -/
def Obligations.ConversionStart : Prop :=
  (∀ (c : Conditioner) (i : SlotId), c.eligible [] c.age = some i →
    ∃ older younger w, c.age = older ++ i :: younger ∧ c.slots[i] = some w ∧ w.phase = .queued ∧
      (∀ j ∈ older, ∀ v, c.slots[j] = some v → v.context = w.context → ∃ o q, v.phase = .ready o q) ∧
      (∀ j ∈ older, ∀ v, c.slots[j] = some v → v.phase = .queued →
        ∃ j' ∈ older, ∃ v' u, c.slots[j'] = some v' ∧ v'.context = v.context ∧ v'.phase = .converting u)) ∧
  (∀ c : Conditioner, c.eligible [] c.age = none →
    ∀ i ∈ c.age, ∀ w, c.slots[i] = some w → w.phase = .queued →
      ∃ j ∈ c.age, ∃ v u, c.slots[j] = some v ∧ v.context = w.context ∧ v.phase = .converting u) ∧
  (∀ (s : State) (u : UnitId) (i : SlotId) (w : WorkSlot), s.conditioner.slots[i] = some w →
    let started : State := { s with conditioner := { s.conditioner with
      slots := s.conditioner.slots.set i (some { w with phase := .converting u })
      units := s.conditioner.units.set u (some
        ⟨i, ⟨none, none, none, (s.context w.context).acc, (s.context w.context).limits, 0, [], [], 0, 0⟩⟩) } }
    s.startOn u i = started ∧
    (s.conditioner.idleUnit = some u → s.conditioner.eligible [] s.conditioner.age = some i → s.startOne = started)) ∧
  (∀ s : State,
    (s.conditioner.idleUnit = none ∨ s.conditioner.eligible [] s.conditioner.age = none → s.startOne = s) ∧
    s.startConversions = s.startOne.startOne) ∧
  (∀ c : Conditioner, (c.units[(0 : UnitId)] = none → c.idleUnit = some 0) ∧
    (c.units[(0 : UnitId)] ≠ none → c.units[(1 : UnitId)] = none → c.idleUnit = some 1) ∧
    (c.units[(0 : UnitId)] ≠ none → c.units[(1 : UnitId)] ≠ none → c.idleUnit = none)) ∧
  (∀ s : State, s.startConversions.conditioner.idleUnit = none ∨
    s.startConversions.conditioner.eligible [] s.startConversions.conditioner.age = none)

/-- A value on a segment is the exact quotient, truncated toward zero, added to the first y; it lies between the two y. The search of a raw sample through a curve of
2..64 knots of increasing x ends within six reads, at the value 04 R72 gives. -/
def Obligations.ConvertedValue : Prop :=
  (∀ (a b : Knot) (r : Half), a.x.toInt < r.toInt → r.toInt < b.x.toInt →
      (interpolate a b r).toInt =
        a.y.toInt + ((r.toInt - a.x.toInt) * (b.y.toInt - a.y.toInt)).tdiv (b.x.toInt - a.x.toInt) ∧
      min a.y.toInt b.y.toInt ≤ (interpolate a b r).toInt ∧ (interpolate a b r).toInt ≤ max a.y.toInt b.y.toInt) ∧
  (∀ (knot : Nat → Knot) (n : Nat) (r : Half), 2 ≤ n → n ≤ 64 →
      (∀ i, i + 1 < n → (knot i).x.toInt < (knot (i + 1)).x.toInt) →
      let result := searchRun knot r 6 (searchStart (knot 0) (knot (n - 1)) n r)
      (r.toInt < (knot 0).x.toInt → result = some (.low, (knot 0).y)) ∧
      ((knot (n - 1)).x.toInt < r.toInt → result = some (.high, (knot (n - 1)).y)) ∧
      (∀ i, i < n → r.toInt = (knot i).x.toInt → result = some (.none, (knot i).y)) ∧
      (∀ i, i + 1 < n → (knot i).x.toInt < r.toInt → r.toInt < (knot (i + 1)).x.toInt →
        result = some (.none, interpolate (knot i) (knot (i + 1)) r)))

/-- The limit check of one value: the rows of 04 Table 4-5, the state kept where none applies, each transition appended, and NORMAL in the flag byte without a record. -/
def Obligations.LimitCheckTable : Prop :=
  (∀ (b : LimitRecord) (v : Half), b.ok = true →
    let x := v.toInt
    let low := b.low.toInt
    let high := b.high.toInt
    let h : Int := b.hysteresis.toNat
    (x > high → limitAfter b .normal v = .above) ∧
    (x < low → limitAfter b .normal v = .below) ∧
    (¬ x > high → ¬ x < low → limitAfter b .normal v = .normal) ∧
    (x < low → limitAfter b .above v = .below) ∧
    (x ≤ high - h → x ≥ low → limitAfter b .above v = .normal) ∧
    (¬ x < low → ¬ x ≤ high - h → limitAfter b .above v = .above) ∧
    (x > high → limitAfter b .below v = .above) ∧
    (x ≥ low + h → x ≤ high → limitAfter b .below v = .normal) ∧
    (¬ x > high → ¬ x ≥ low + h → limitAfter b .below v = .below)) ∧
  (∀ (w : Working) (v : Half),
    (w.limits = none → w.check v = w) ∧
    (∀ l, w.limits = some l →
      (limitAfter l.bounds l.state v = l.state → w.check v = w) ∧
      (limitAfter l.bounds l.state v ≠ l.state →
        w.check v = { w with
          limits := some ⟨l.bounds, limitAfter l.bounds l.state v⟩
          transitions := w.transitions ++ [⟨limitAfter l.bounds l.state v, v⟩] }))) ∧
  (∀ (w : Working) (n : Nat) (clamp : Clamp) (v : Half),
    (w.take n clamp v).limits = (w.check v).limits ∧ (w.take n clamp v).transitions = (w.check v).transitions) ∧
  (∀ low high : Bool, (sampleFlags low high none).toNat / 4 = 0)

/-- The values a unit takes one after another, with how each was clamped. -/
def takeAll (n : Nat) (w : Working) (values : List (Clamp × Half)) : Working :=
  values.foldl (fun w x => w.take n x.1 x.2) w

/-- Decimation: c values taken at an accumulator count a give (a + c) div N outputs and leave (a + c) mod N; an output is the sum divided by N, truncated,
with the carried clamps and the limit state after the last check, in the codes of 01 Table 1-6; the accumulator is then empty; an average of up to 16 values fits 16 bits. -/
def Obligations.DecimationRule : Prop :=
  (∀ (n : Nat) (w : Working) (values : List (Clamp × Half)), w.acc.count < n →
    (takeAll n w values).outputs.length = w.outputs.length + (w.acc.count + values.length) / n ∧
    (takeAll n w values).acc.count = (w.acc.count + values.length) % n ∧
    (takeAll n w values).next = w.next + values.length) ∧
  (∀ (n : Nat) (w : Working) (clamp : Clamp) (v : Half),
    let x := w.take n clamp v
    let sum := w.acc.sum + v.toInt
    let low := w.acc.clampLow || clamp == .low
    let high := w.acc.clampHigh || clamp == .high
    (w.acc.count + 1 = n →
      x.acc = ⟨0, 0, false, false⟩ ∧
      x.outputs = w.outputs ++ [⟨BitVec.ofInt 16 (sum.tdiv n), sampleFlags low high x.limits⟩]) ∧
    (w.acc.count + 1 ≠ n → x.acc = ⟨sum, w.acc.count + 1, low, high⟩ ∧ x.outputs = w.outputs) ∧
    x.clampedLow = w.clampedLow + (if clamp = .low then 1 else 0) ∧
    x.clampedHigh = w.clampedHigh + (if clamp = .high then 1 else 0)) ∧
  (∀ (low high : Bool) (limits : Option Limits),
    (sampleFlags low high limits).getLsbD 0 = low ∧ (sampleFlags low high limits).getLsbD 1 = high ∧
    (sampleFlags low high limits).toNat / 4 = ((limits.elim LimitState.normal Limits.state).code).toNat) ∧
  (∀ (n : Nat) (sum : Int), 1 ≤ n → n ≤ 16 → -32768 * (n : Int) ≤ sum → sum ≤ 32767 * (n : Int) →
    (BitVec.ofInt 16 (sum.tdiv n)).toInt = sum.tdiv n ∧ -(2 ^ 20 : Int) ≤ sum ∧ sum < 2 ^ 20) ∧
  (LimitState.code .normal = 0 ∧ LimitState.code .below = 1 ∧ LimitState.code .above = 2)

/-- CONVERSION_END: a unit that is IDLE or does not exist is left; a BUSY one lets at most 151 access periods pass, and when its work is done commits, becomes IDLE,
settles its slot and lets conversions start. Access periods that pass under whatever row, or under none, do the same: a conversion whose last read was granted ends at
the start of the next period, before that period's grant (04 R75; that the grant follows is the model's choice, log 29). -/
def Obligations.ConversionEndResult : Prop :=
  ∀ s : State,
    (∀ n, 2 ≤ n → exec (.conversionEnd n) s = .next s) ∧
    (∀ u : UnitId, s.conditioner.units[u] = none → exec (.conversionEnd u.val) s = .next s) ∧
    (∀ u : UnitId, s.conditioner.units[u] ≠ none →
      exec (.conversionEnd u.val) s = .next ((s.passUntil (fun t => t.unitDone u) 151).endConversion u)) ∧
    (∀ (u : UnitId) (b : BusyUnit) (w : WorkSlot), s.busySlot u = some (b, w) → s.unitDone u = true →
      exec (.conversionEnd u.val) s =
        .next ((((s.commit w b.work).idleUnit u).settleSlot b.slot w b.work.outputs).startConversions) ∧
      ((u = 1 → s.unitDone 0 = false) →
        s.accessPeriod = ((((s.commit w b.work).idleUnit u).settleSlot b.slot w b.work.outputs).startConversions).accessPeriod)) ∧
    (∀ (done : State → Bool) (n : Nat),
      s.passUntil done 0 = s ∧ s.passUntil done (n + 1) = if done s then s else s.accessPeriod.passUntil done n)

/-- The commit at a conversion end: accumulator and limit state, the three counters, and a LIMIT raise for each transition in order where the context's flag is on. A
slot's fate: released without outputs; else READY with the context's output sequence, which advances, OUTPUTS counted, at the ready order's tail. A value's two bytes,
high byte first. -/
def Obligations.ConversionEffects : Prop :=
  (∀ (s : State) (w : WorkSlot) (r : Working) (l : List Transition), r.transitions = l →
      let k := w.context
      let t := s.commit w r
      let raised (x : State) : State := l.foldl (fun x t => x.raise .limit w.channel (t.state.code :: halfBytes t.value)) x
      let committed : State :=
        { s with
          table := { s.table with
            contexts := s.table.contexts.set k
              { s.context k with
                acc := r.acc
                limits := (s.context k).limits.map fun x => { x with state := r.limits.elim x.state Limits.state } } }
          counters := { s.counters with
            contexts := s.counters.contexts.set k
              { s.counters.contexts[k] with
                clampLow := s.counters.contexts[k].clampLow + BitVec.ofNat 32 r.clampedLow
                clampHigh := s.counters.contexts[k].clampHigh + BitVec.ofNat 32 r.clampedHigh
                limitEvents := s.counters.contexts[k].limitEvents + BitVec.ofNat 32 l.length } } }
      ((s.context k).limitNotices = true → t = raised committed) ∧ ((s.context k).limitNotices = false → t = committed)) ∧
  (∀ (s : State) (i : SlotId) (w : WorkSlot),
      s.settleSlot i w [] = s.releaseSlot i ∧
      (∀ o outputs,
        let k := w.context
        let made : State :=
          { s with
            table := { s.table with
              contexts := s.table.contexts.set k
                { s.context k with outSeq := (s.context k).outSeq + 1 } }
            conditioner := { s.conditioner with
              slots := s.conditioner.slots.set i (some { w with phase := .ready (o :: outputs) (s.context k).outSeq })
              ready := s.conditioner.ready ++ [i] }
            counters := { s.counters with
              contexts := s.counters.contexts.set k
                { s.counters.contexts[k] with outputs := s.counters.contexts[k].outputs + 1 } } }
        (s.conditioner.ready ≠ [] → s.settleSlot i w (o :: outputs) = made) ∧
        (s.conditioner.ready = [] → s.settleSlot i w (o :: outputs) = made.enterCq)) ∧
      (∀ o q, ({ w with phase := .ready o q } : WorkSlot).built = some
        ⟨.csample, w.channel, q, BitVec.ofNat 8 o.length, 0,
          halfBytes w.timestamp ++ o.flatMap fun x => halfBytes x.value ++ [x.flags]⟩)) ∧
  (∀ v : Half, halfBytes v = [v.extractLsb' 8 8, v.extractLsb' 0 8])

/-- CQ_ENTRY: the head of the ready order enters the conditioned queue's tail and is released, when the queue has space; else nothing. A slot release: the slot FREE
and out of both orders, the pin and the in-flight count one less, a RETIRING curve's last pin empties it with its pages back; in the same event a fenced command in
FENCE_WAIT whose context's count it brings to 0 is applied, and with none such the release is those claims alone (02 R37, log 4). -/
def Obligations.CqEntryAndSlotRelease : Prop :=
  (∀ s : State,
      (∀ (i : SlotId) (rest : List SlotId) (w : WorkSlot) (f : Frame), s.conditioner.ready = i :: rest →
        s.conditioner.slots[i] = some w → w.built = some f →
        (s.merger.cq.length < 4 → exec .cqEntry s = .next
          (({ s with merger := { s.merger with cq := s.merger.cq ++ [⟨f, w.context⟩] } } : State).releaseSlot i)) ∧
        (4 ≤ s.merger.cq.length → exec .cqEntry s = .next s)) ∧
      (s.conditioner.ready = [] → exec .cqEntry s = .next s)) ∧
  (∀ (s : State) (i : SlotId) (w : WorkSlot), s.conditioner.slots[i] = some w →
      let t := s.releaseSlot i
      let d := s.curve w.curve
      t.conditioner = { s.conditioner with
        slots := s.conditioner.slots.set i none, age := s.conditioner.age.erase i, ready := s.conditioner.ready.erase i } ∧
      (t.context w.context).inFlight = (s.context w.context).inFlight - 1 ∧
      (∀ k : ContextId, k ≠ w.context → (t.context k).inFlight = (s.context k).inFlight) ∧
      (t.curve w.curve).pins = d.pins - 1 ∧
      (∀ c : CurveId, c ≠ w.curve → t.curve c = s.curve c) ∧
      (d.state = .retiring → d.pins ≤ 1 →
        (t.curve w.curve).state = .empty ∧ (t.curve w.curve).pages = [] ∧ (t.curve w.curve).knots = 0 ∧
        t.store.free = s.store.free ++ d.pages ∧
        t.notices = (s.raise .curveFreed (BitVec.ofNat 8 w.curve.val) [BitVec.ofNat 8 d.pages.length]).notices) ∧
      (¬ (d.state = .retiring ∧ d.pins ≤ 1) →
        t.curve w.curve = { d with pins := d.pins - 1 } ∧ t.store.free = s.store.free ∧ t.notices = s.notices) ∧
      let freed : State := { s with conditioner := t.conditioner }
      let claimed : State := (freed.unpin w.curve).modContext w.context fun c => { c with inFlight := c.inFlight - 1 }
      (s.mgmt.state ≠ .fenceWait ∨ (∀ k : ContextId, (claimed.context k).fenced = true → (claimed.context k).inFlight ≠ 0) → t = claimed) ∧
      (∀ f, s.mgmt.state = .fenceWait → s.mgmt.current = some f → (s.context w.context).fenced = true →
        (s.context w.context).inFlight ≤ 1 →
        let opened := claimed.setFence w.context false
        (∀ channel target x, f.code = 0x10 → f.payload = [channel, target] → s.table.lookup channel = some w.context →
          mapTarget target = some x → t = opened.finishMap f channel x) ∧
        (∀ p, f.code = 0x11 → settingsOf f.payload = some p → p.context = w.context → t = opened.finishSettings f p))) ∧
  (∀ (s : State) (c : CurveId),
      let less := s.modCurve c fun d => { d with pins := d.pins - 1 }
      ((s.curve c).state = .retiring ∧ (s.curve c).pins ≤ 1 → s.unpin c = less.reclaim c) ∧
      (¬ ((s.curve c).state = .retiring ∧ (s.curve c).pins ≤ 1) → s.unpin c = less)) ∧
  (∀ (s : State) (k : ContextId) (g : Context → Context),
      s.modContext k g = { s with table := { s.table with contexts := s.table.contexts.set k (g (s.context k)) } })

/-- FENCE_APPLY: the fenced command in FENCE_WAIT whose context has no frame in flight is applied and its fence cleared; else nothing. -/
def Obligations.FenceApplyResult : Prop :=
  ∀ s : State,
    (s.mgmt.state ≠ .fenceWait → exec .fenceApply s = .next s) ∧
    (∀ (f : Frame) (k : ContextId), s.mgmt.state = .fenceWait → s.mgmt.current = some f →
      (s.context k).fenced = true →
      (∀ channel target old, f.code = 0x10 → f.payload = [channel, target] → s.table.lookup channel = some k →
        mapTarget target = some old →
        ((s.context k).inFlight ≠ 0 → exec .fenceApply s = .next s) ∧
        ((s.context k).inFlight = 0 → exec .fenceApply s = .next ((s.setFence k false).finishMap f channel old))) ∧
      (∀ p, f.code = 0x11 → settingsOf f.payload = some p → p.context = k →
        ((s.context k).inFlight ≠ 0 → exec .fenceApply s = .next s) ∧
        ((s.context k).inFlight = 0 → exec .fenceApply s = .next ((s.setFence k false).finishSettings f p))))

/-! ### The store access port (chapter 03) -/

/-- The arbiter's choice in one access period; and a period in which nothing ends is that choice among the claims waiting, its access made. -/
def Obligations.ArbiterChoice : Prop :=
  (∀ s : State, s.unitDone 0 = false → s.unitDone 1 = false → s.readBackDone = false → s.pageWriteDone = false →
    let g := s.store.arbiter.choose s.claims
    let t := s.access g
    s.accessPeriod = { t with store := { t.store with arbiter := s.store.arbiter.after s.claims g } }) ∧
  ∀ (a : StoreArbiter) (c : Claims),
    let other : Grant :=
      if c.readBack && c.pageWrite then .other (if a.lastOther = some .readBack then .pageWrite else .readBack)
      else .other (if c.readBack then .readBack else .pageWrite)
    let unit : Grant :=
      if c.unit0 && c.unit1 then .unit (if a.lastUnit = some 0 then 1 else 0) else .unit (if c.unit0 then 0 else 1)
    ((c.readBack || c.pageWrite) = true → 3 ≤ a.conversionRun → a.choose c = some other) ∧
    (¬ ((c.readBack || c.pageWrite) = true ∧ 3 ≤ a.conversionRun) → (c.unit0 || c.unit1) = true → a.choose c = some unit) ∧
    ((c.readBack || c.pageWrite) = true → (c.unit0 || c.unit1) = false → a.choose c = some other) ∧
    (c = ⟨false, false, false, false⟩ → a.choose c = none ∧ (a.after c none).conversionRun = 0) ∧
    (∀ x, (a.after c (some (.other x))).conversionRun = 0 ∧ (a.after c (some (.other x))).lastOther = some x) ∧
    (∀ u, (a.after c (some (.unit u))).lastUnit = some u ∧
      ((c.readBack || c.pageWrite) = true → (a.after c (some (.unit u))).conversionRun = a.conversionRun + 1) ∧
      ((c.readBack || c.pageWrite) = false → (a.after c (some (.unit u))).conversionRun = 0))

/-- The arbiter through a sequence of periods with the claims given. -/
def arbiterAt (a : StoreArbiter) (claims : Nat → Claims) : Nat → StoreArbiter
  | 0 => a
  | n + 1 => (arbiterAt a claims n).after (claims n) ((arbiterAt a claims n).choose (claims n))

/-- The grant of a period in such a sequence. -/
def grantAt (a : StoreArbiter) (claims : Nat → Claims) (n : Nat) : Option Grant := (arbiterAt a claims n).choose (claims n)

/-- Whatever the others do: a page write or a read-back that keeps waiting is granted in any 8 consecutive periods, a conversion unit in any 3. -/
def Obligations.EveryClaimantIsServed : Prop :=
  ∀ (a : StoreArbiter) (claims : Nat → Claims), a.conversionRun ≤ 3 →
    ∀ n,
      ((∀ i, i < 8 → (claims (n + i)).pageWrite = true) → ∃ i, i < 8 ∧ grantAt a claims (n + i) = some (.other .pageWrite)) ∧
      ((∀ i, i < 8 → (claims (n + i)).readBack = true) → ∃ i, i < 8 ∧ grantAt a claims (n + i) = some (.other .readBack)) ∧
      ((∀ i, i < 3 → (claims (n + i)).unit0 = true) → ∃ i, i < 3 ∧ grantAt a claims (n + i) = some (.unit 0)) ∧
      ((∀ i, i < 3 → (claims (n + i)).unit1 = true) → ∃ i, i < 3 ∧ grantAt a claims (n + i) = some (.unit 1))

/-- PAGE_WRITE_COMPLETION: a write in flight ends within 128 access periods with the staging page's knots in the rest of its page and no other page changed, and then
completes by the lease; a loader that is not WRITING is left as it is. A write whose slot 15 is written completes at the start of the next access period as well, when
nothing else ends there (log 29). -/
def Obligations.PageWriteCompletes : Prop :=
  ∀ s : State,
    (s.loader.state ≠ .writing → exec .pageWriteCompletion s = .next s) ∧
    (∀ r : WriteRecord, s.loader.state = .writing → s.loader.write = some r → r.nextSlot ≤ 16 →
      s.store.arbiter.conversionRun ≤ 3 →
      let t := s.passUntil State.pageWriteDone 128
      let ended : WriteRecord := { r with nextSlot := 16 }
      t.loader = { s.loader with write := some ended } ∧
      (∀ i : Fin 16, r.nextSlot ≤ i.val → t.store.pages[r.page][i] = s.loader.staging.slots[i]) ∧
      (∀ i : Fin 16, i.val < r.nextSlot → t.store.pages[r.page][i] = s.store.pages[r.page][i]) ∧
      (∀ p : PageId, p ≠ r.page → t.store.pages[p] = s.store.pages[p]) ∧
      ((∀ u : UnitId, s.conditioner.units[u] = none) → s.mgmt.readBack = none →
        t.store.free = s.store.free ∧ t.store.loose = s.store.loose ∧ t.store.curves = s.store.curves ∧ t.mgmt = s.mgmt) ∧
      (s.loader.lease.isSome = true → exec .pageWriteCompletion s = .next (t.completeOpen ended)) ∧
      (s.loader.lease = none → exec .pageWriteCompletion s = .next (t.completeLost ended))) ∧
    (∀ r : WriteRecord, s.loader.state = .writing → s.loader.write = some r → 16 ≤ r.nextSlot →
      s.unitDone 0 = false → s.unitDone 1 = false → s.readBackDone = false →
      (s.loader.lease.isSome = true → s.accessPeriod = (s.completeOpen r).accessPeriod) ∧
      (s.loader.lease = none → s.accessPeriod = (s.completeLost r).accessPeriod))

/-- The completion's effect and answer: with the lease OPEN the mark is cleared, the lease renewed, OK; with it CLOSED the page goes back, LEASE_LOST; the response
joins the response queue and the loader is IDLE, or the loader holds it in POSTING. -/
def Obligations.PageWriteAnswer : Prop :=
  ∀ (t : State) (r : WriteRecord),
    let response (st : Status) : Frame :=
      ⟨.resp, t.mgmt.address, r.tag, r.manager, st.code, [BitVec.ofNat 8 r.page.val, if r.saturated then 1 else 0]⟩
    let openLoader : Loader := { t.loader with
      staging := ⟨Vector.replicate 16 ⟨0, 0⟩, 0, false⟩
      lease := t.loader.lease.map fun l => ⟨l.owner, t.mgmt.params.leaseTime.toNat, 0⟩ }
    let openStore : CurveStore := { t.store with
      loose := t.store.loose.map fun q => if q.page = r.page then ⟨q.page, false⟩ else q }
    let lostLoader : Loader := { t.loader with staging := ⟨Vector.replicate 16 ⟨0, 0⟩, 0, false⟩ }
    let lostStore : CurveStore := { t.store with
      free := t.store.free ++ (t.store.loose.filter fun q => q.page = r.page).map LoosePage.page
      loose := t.store.loose.filter fun q => q.page ≠ r.page }
    let stored (st : Status) : Management := t.mgmt.store (response st)
    (t.mgmt.responseQueue.length < 4 →
      t.completeOpen r = { t with
        store := openStore
        loader := { openLoader with state := .idle, write := none }
        mgmt := { stored .ok with responseQueue := t.mgmt.responseQueue ++ [response .ok] } } ∧
      t.completeLost r = { t with
        store := lostStore
        loader := { lostLoader with state := .idle, write := none }
        mgmt := { stored .leaseLost with responseQueue := t.mgmt.responseQueue ++ [response .leaseLost] } }) ∧
    (4 ≤ t.mgmt.responseQueue.length →
      t.completeOpen r = { t with
        store := openStore
        loader := { openLoader with state := .posting }
        mgmt := { stored .ok with waiting := t.mgmt.waiting ++ [⟨.loader, response .ok⟩] } } ∧
      t.completeLost r = { t with
        store := lostStore
        loader := { lostLoader with state := .posting }
        mgmt := { stored .leaseLost with waiting := t.mgmt.waiting ++ [⟨.loader, response .leaseLost⟩] } })

/-- Where a curve's knots stand. A read-back of knots that its record's pages hold, none of them the page of the write in flight, ends within 8 access periods a knot: READ_KNOTS is answered
with the knots, DEFINE_CURVE is refused at the first knot out of order or defined. One that has ended is answered so at the start of the next access period as well, when no
conversion ends there (log 29). -/
def Obligations.ReadBackCompletes : Prop :=
  (∀ (t : CurveStore) (pages : List PageId) (i : Nat) (j : Fin 16),
    t.knotAt pages (16 * i + j.val) = (pages[i]?).map fun p => t.pages[p][j]) ∧
  (∀ (s : State) (r : ReadBack) (f : Frame), s.mgmt.readBack = some r → s.mgmt.current = some f → s.unitDone 0 = false → s.unitDone 1 = false →
    (r.purpose = .readKnots → r.count ≤ r.got.length → s.accessPeriod =
      (s.endReadBack .ok ([BitVec.ofNat 8 r.curve.val, r.generation, BitVec.ofNat 8 r.first, BitVec.ofNat 8 r.count] ++
        r.got.flatMap fun k => [k.x.extractLsb' 8 8, k.x.extractLsb' 0 8, k.y.extractLsb' 8 8, k.y.extractLsb' 0 8])).accessPeriod) ∧
    (∀ k, r.purpose = .orderCheck (some k) → s.accessPeriod = (s.endReadBack .badArg [4, BitVec.ofNat 8 k]).accessPeriod) ∧
    (r.purpose = .orderCheck none → r.count ≤ r.got.length → s.accessPeriod = (s.defineCurve r).accessPeriod)) ∧
  ∀ (s : State) (r : ReadBack), s.mgmt.readBack = some r → s.mgmt.state = .executing → r.got = [] → s.store.arbiter.conversionRun ≤ 3 →
    r.first + r.count ≤ 16 * r.pages.length → (∀ p ∈ s.pageWriteClaim, p.1.page ∉ r.pages) →
    let knots : List Knot := (List.range r.count).filterMap fun i => s.store.knotAt r.pages (r.first + i)
    (r.purpose = .readKnots → r.count ≤ 11 →
      let t := s.passUntil State.readBackDone 88
      t.mgmt.readBack = some { r with got := knots } ∧ t.mgmt.current = s.mgmt.current ∧
      (s.loader.state ≠ .writing → t.mgmt = { s.mgmt with readBack := some { r with got := knots } }) ∧
      exec .readKnotsDone s = .next (t.endReadBack .ok
        ([BitVec.ofNat 8 r.curve.val, r.generation, BitVec.ofNat 8 r.first, BitVec.ofNat 8 r.count] ++
          knots.flatMap fun k => [k.x.extractLsb' 8 8, k.x.extractLsb' 0 8, k.y.extractLsb' 8 8, k.y.extractLsb' 0 8]))) ∧
    (r.purpose = .orderCheck none → r.count ≤ 64 →
      let t := s.passUntil State.readBackDone 512
      (increasing knots → exec .defineCurveCheckDone s = .next
        (t.defineCurve { r with got := knots })) ∧
      (∀ k, 0 < k → k < r.count → increasing (knots.take k) → ¬ increasing (knots.take (k + 1)) →
        exec .defineCurveCheckDone s = .next (t.endReadBack .badArg [4, BitVec.ofNat 8 k])))

/-! ### The common path of a command (chapter 07) -/

/-- What a repeat of a command comes to on its row: answered from the cache, or dropped, and counted (07 R138). -/
def answersRepeat (c : Instr) (s : State) (f : Frame) : Prop :=
  (∀ r, s.mgmt.entry f.aux = .answered f.seq r →
    exec c s = .next { s.countNode fun n => { n with retransmitAnswered := n.retransmitAnswered + 1 } with
      mgmt := s.mgmt.offer r }) ∧
  (s.mgmt.entry f.aux = .inProgress f.seq →
    exec c s = .next (s.countNode fun n => { n with dupInProgress := n.dupInProgress + 1 }).leave)

/-- The rows of the addressed commands, each with the frames it is the row of and the length rule of their command: one row for each code of `lengthRules`, and
UNKNOWN_COMMAND and the two RESET_NODE rows, which share their refusals (log 20). -/
def addressedRows : List (Instr × (Frame → Bool) × (List Byte → Bool)) :=
  (.unknownCommand, fun f => !knownCodes.contains f.code, fun _ => true) ::
  (.resetNodeSoft, fun f => f.code == 0x04 && f.payload != [2], fun p => p.length == 1) ::
  (.resetNodeFull, fun f => f.code == 0x04 && f.payload != [1], fun p => p.length == 1) ::
  lengthRules.map fun row => (row.1, fun f => f.code == row.2.1, row.2.2)

/-- Every row of an addressed command: with no command in hand, a broadcast copy or another row's command it changes nothing (the model's choice, log 2); a repeat is
answered from the cache or dropped; a new command that breaks its length rule is answered BAD_LENGTH. -/
def Obligations.CommonChecks : Prop :=
  ∀ row ∈ addressedRows, ∀ s : State,
    (s.mgmt.inHand = none → exec row.1 s = .next s) ∧
    (∀ f, s.mgmt.inHand = some f →
      ((f.addressed && row.2.1 f) = false → exec row.1 s = .next s) ∧
      (f.addressed = true → row.2.1 f = true → answersRepeat row.1 s f) ∧
      (s.Takes f → row.2.1 f = true → row.2.2 f.payload = false → exec row.1 s = .next (s.answered f .badLength [])))

/-- The engine leaves a command: IDLE, or EXECUTING with the next head; it offers a response: placed, or held in POSTING; a frame that joins the command queue of an IDLE
engine is current at once. A command answered: the response's header, the reply cache where the tag is in progress and nowhere else, the offer; and nothing else of the
part. The statuses' codes (01 Table 1-7). -/
def Obligations.EngineAndResponses : Prop :=
  (∀ m : Management,
      (m.commandQueue = [] → m.leave = { m with state := .idle, current := none, readBack := none }) ∧
      (∀ g rest, m.commandQueue = g :: rest →
        m.leave = { m with state := .executing, current := some g, readBack := none, commandQueue := rest }) ∧
      (∀ r, m.responseQueue.length < 4 → m.offer r = { m with responseQueue := m.responseQueue ++ [r] }.leave) ∧
      (∀ r, 4 ≤ m.responseQueue.length →
        m.offer r = { m with state := .posting, waiting := m.waiting ++ [⟨.engine, r⟩] }) ∧
      (∀ f, m.state ≠ .idle → m.join f = { m with commandQueue := m.commandQueue ++ [f] }) ∧
      (∀ f, m.state = .idle → m.commandQueue = [] →
        m.join f = { m with state := .executing, current := some f, readBack := none })) ∧
  (∀ (s : State) (f : Frame) (st : Status) (p : List Byte),
      let r : Frame := ⟨.resp, s.mgmt.address, f.seq, f.aux, st.code, p⟩
      let stored : Management := { s.mgmt with cache := s.mgmt.cache.set (managerIndex f.aux) (.answered f.seq r) }
      (s.mgmt.entry f.aux = .inProgress f.seq → s.respond f st p = { s with mgmt := stored.offer r }) ∧
      (s.mgmt.entry f.aux ≠ .inProgress f.seq → s.respond f st p = { s with mgmt := s.mgmt.offer r }) ∧
      s.answered f st p = { s with mgmt := stored.offer r } ∧
      (s.begun f).mgmt.entry f.aux = .inProgress f.seq ∧
      s.begun f = { s with mgmt := { s.mgmt with cache := s.mgmt.cache.set (managerIndex f.aux) (.inProgress f.seq) } } ∧
      (f.aux.toNat ≤ 3 → (managerIndex f.aux).val = f.aux.toNat)) ∧
  ([Status.ok, .unknown, .badLength, .badArg, .badState, .busy, .noRoom, .inUse, .reserved, .noLease, .notOwner, .leaseLost].map Status.code =
    [0x00, 0x01, 0x02, 0x03, 0x04, 0x05, 0x06, 0x07, 0x08, 0x09, 0x0A, 0x0B])

/-! ### The node commands (chapter 07) -/

/-- PING: its answer, its length rule, and that nothing else of the part changes. -/
def Obligations.PingRule : Prop :=
  ∀ (s : State) (f : Frame), s.Takes f → f.code = 0x01 →
    (f.payload = [] → exec .ping s = .next (s.answered f .ok [s.mgmt.address, 0x0C, 0x40, 1])) ∧
    (f.payload ≠ [] → exec .ping s = .next (s.answered f .badLength [])) ∧
    (∀ st p, ∃ m, s.answered f st p = { s with mgmt := m } ∧ m.address = s.mgmt.address ∧ m.params = s.mgmt.params ∧
      m.cache = s.mgmt.cache.set (managerIndex f.aux)
        (.answered f.seq ⟨.resp, s.mgmt.address, f.seq, f.aux, st.code, p⟩))

/-- The descriptors in a state, counted as GET_STATUS reports them. -/
def curvesCounted (s : State) (x : CurveState) : Byte :=
  BitVec.ofNat 8 ((List.finRange 48).countP fun c => (s.curve c).state == x)

/-- UNKNOWN_COMMAND and GET_STATUS: the command codes there are, the state codes reported, what each answers, byte by byte, and the NOTICE_LOST flag cleared after it is read. -/
def Obligations.NodeReports : Prop :=
  (knownCodes = [0x01, 0x02, 0x03, 0x04, 0x10, 0x11, 0x12, 0x20, 0x21, 0x22, 0x23, 0x24, 0x25, 0x26, 0x30, 0x31, 0x32,
    0x40, 0x41, 0x42, 0x43, 0x50, 0x51, 0x60]) ∧
  (NoticeState.code .running = 0 ∧ NoticeState.code .stalled = 1) ∧
  (LoaderState.code .idle = 0 ∧ LoaderState.code .writing = 1 ∧ LoaderState.code .posting = 2) ∧
  (LinkState.code .down = 0 ∧ LinkState.code .align = 1 ∧ LinkState.code .up = 2) ∧
  (flagByte false = 0 ∧ flagByte true = 1) ∧
  ∀ (s : State) (f : Frame), s.Takes f →
    (f.code ∉ knownCodes → exec .unknownCommand s = .next (s.answered f .unknown [f.code])) ∧
    (f.code = 0x02 → ∀ option : Byte, f.payload = [option] →
      (1 < option.toNat → exec .getStatus s = .next (s.answered f .badArg [])) ∧
      (option.toNat ≤ 1 →
        let lease (g : Lease → Byte) (closed : Byte) : Byte := s.loader.lease.elim closed g
        let report : List Byte :=
          [s.mgmt.address, lease (fun _ => 1) 0, lease Lease.owner 0xFF,
           lease (fun l => (BitVec.ofNat 16 (l.duration - l.count)).extractLsb' 8 8) 0,
           lease (fun l => (BitVec.ofNat 16 (l.duration - l.count)).extractLsb' 0 8) 0,
           s.loader.state.code, BitVec.ofNat 8 s.loader.staging.cursor, flagByte s.loader.staging.saturated,
           BitVec.ofNat 8 s.store.free.length, BitVec.ofNat 8 s.store.loose.length,
           curvesCounted s .empty, curvesCounted s .built, curvesCounted s .live, curvesCounted s .retiring,
           s.bind.elim 0 PendingBind.tag,
           BitVec.ofNat 8 ((List.finRange 4).countP fun i => s.conditioner.slots[i] != none),
           s.notices.state.code, BitVec.ofNat 8 s.notices.window.length, BitVec.ofNat 8 s.notices.held.length,
           flagByte s.notices.lost, s.uPort.link.code, s.dPort.link.code]
        (option = 0 → exec .getStatus s = .next (s.answered f .ok report)) ∧
        (option = 1 → exec .getStatus s =
          .next ({ s with notices := { s.notices with lost := false } }.answered f .ok report))))

/-- SET_PARAM: the range of each parameter, what is written, the answer with both values, and the head frame that a change to DROP lets go. -/
def Obligations.SetParamResult : Prop :=
  ∀ (s : State) (f : Frame) (id hi lo : Byte), s.Takes f → f.code = 0x03 → f.payload = [id, hi, lo] →
    let v : Half := hi ++ lo
    let q := s.mgmt.params
    let refused (n : Byte) : Prop := exec .setParam s = .next (s.answered f .badArg [n])
    let written (t : State) (old : Half) (q : Params) : Prop :=
      exec .setParam s = .next (({ t with mgmt := { (s.begun f).mgmt with params := q } } : State).respond f .ok
        [id, old.extractLsb' 8 8, old.extractLsb' 0 8, hi, lo])
    let waits : Prop := 8 ≤ s.merger.fq.length ∧ q.unmappedPolicy = .forward ∧
      ∃ g, s.uPort.buffer.head? = some g ∧ g.kind = .sample ∧ s.table.lookup g.addr = none
    let dropped : State := { s with uPort := { s.uPort with buffer := s.uPort.buffer.tail } }.countNode fun c =>
      { c with unmappedDrop := c.unmappedDrop + 1 }
    let policy (x : UnmappedPolicy) : Half := match x with | .forward => 0 | .drop => 1
    (id = 0 ∨ 4 < id.toNat → refused 1) ∧
    (id = 1 →
      (10 ≤ v.toNat ∧ v.toNat ≤ 2550 ∧ v.toNat % 10 = 0 → written s q.leaseTime { q with leaseTime := v }) ∧
      (¬ (10 ≤ v.toNat ∧ v.toNat ≤ 2550 ∧ v.toNat % 10 = 0) → refused 2)) ∧
    (id = 2 →
      (5 ≤ v.toNat ∧ v.toNat ≤ 255 → written s q.noticeRetry { q with noticeRetry := v }) ∧
      (¬ (5 ≤ v.toNat ∧ v.toNat ≤ 255) → refused 2)) ∧
    (id = 3 →
      (v = 0 → written s (policy q.unmappedPolicy) { q with unmappedPolicy := .forward }) ∧
      (v = 1 → ¬ waits → written s (policy q.unmappedPolicy) { q with unmappedPolicy := .drop }) ∧
      (v = 1 → waits → written dropped 0 { q with unmappedPolicy := .drop }) ∧
      (1 < v.toNat → refused 2)) ∧
    (id = 4 →
      (v.toNat < 64 → written s q.noticeMask { q with noticeMask := v }) ∧
      (64 ≤ v.toNat → refused 2))

/-- RESET_NODE: the level refused, and block by block what each level leaves. -/
def Obligations.ResetNodeResults : Prop :=
  ∀ (s : State) (f : Frame), s.Takes f → f.code = 0x04 →
    let r (level : Byte) : Frame := ⟨.resp, s.mgmt.address, f.seq, f.aux, 0, [level]⟩
    let cache (level : Byte) : Vector CacheEntry 4 :=
      (Vector.replicate 4 CacheEntry.empty).set (managerIndex f.aux) (.answered f.seq (r level))
    (∀ level : Byte, f.payload = [level] → level ≠ 1 → level ≠ 2 →
      exec .resetNodeSoft s = .next (s.answered f .badArg []) ∧
      exec .resetNodeFull s = .next (s.answered f .badArg [])) ∧
    (f.payload = [2] → exec .resetNodeFull s = .next
      { State.reset with
        uPort := { s.uPort with buffer := [] }
        dPort := { s.dPort with buffer := [] }
        mgmt := ⟨s.mgmt.address, .default, [], .idle, none, none, [], cache 2, [r 2]⟩
        notices := ⟨.running, [⟨⟨.nodeStart, 0, [2], 1⟩, 0, false, 0⟩], [], 1, none, false⟩
        fresh := s.fresh
        pending := s.pending }) ∧
    (f.payload = [1] → ∃ t, exec .resetNodeSoft s = .next t ∧
      t.uPort = { s.uPort with buffer := [] } ∧ t.dPort = { s.dPort with buffer := [] } ∧
      t.table.map = s.table.map ∧
      (∀ k : ContextId, t.context k =
        { s.context k with
          expected := none
          acc := ⟨0, 0, false, false⟩
          limits := (s.context k).limits.map fun l => ⟨l.bounds, .normal⟩
          outSeq := (s.unsent k).headD (s.context k).outSeq
          inFlight := 0
          fenced := false }) ∧
      t.store.pages = s.store.pages ∧ t.store.loose = s.store.loose ∧ t.store.arbiter = s.store.arbiter ∧
      t.store.free = s.store.free ++
        (List.finRange 48).flatMap (fun c => if (s.curve c).state = .retiring then (s.curve c).pages else []) ∧
      (∀ c : CurveId, t.curve c =
        if (s.curve c).state = .retiring then
          { s.curve c with state := .empty, knots := 0, pages := [], pins := 0 }
        else { s.curve c with pins := 0 }) ∧
      t.conditioner = ⟨Vector.replicate 4 none, [], [], Vector.replicate 2 none⟩ ∧
      t.loader = (if s.loader.state = .posting then { s.loader with state := .idle, write := none } else s.loader) ∧
      t.bind = s.bind ∧
      t.mgmt = ⟨s.mgmt.address, s.mgmt.params, [], .idle, none, none, [], cache 1,
        r 1 :: (s.mgmt.waiting.filter fun h => h.holder = .loader).map HeldResponse.frame⟩ ∧
      t.notices = { s.notices with state := .running, window := [], held := [], timer := none } ∧
      t.merger = ⟨[], [], [], .cq⟩ ∧ t.counters = s.counters ∧ t.fresh = s.fresh ∧ t.pending = s.pending) ∧
    (∀ (k : ContextId), s.unsent k =
      (s.merger.cq.filter fun e => e.context = k).map (fun e => e.frame.seq) ++
        s.conditioner.ready.filterMap fun i => match s.conditioner.slots[i] with
          | some ⟨.ready _ q, k', _, _, _, _⟩ => if k' = k then some q else none
          | _ => none)

/-! ### The channel commands (chapter 02) -/

/-- A fenced command whose checks have passed: it waits in FENCE_WAIT on a context with frames in flight. -/
def fencedOn (s : State) (f : Frame) (k : ContextId) : State :=
  { s with
    table := { s.table with
      contexts := s.table.contexts.set k
        { s.context k with fenced := true } }
    mgmt := { (s.begun f).mgmt with state := .fenceWait } }

/-- MAP_CHANNEL: its checks in order, the fence, and the map, back-references, live state and count it leaves. -/
def Obligations.MapChannelResult : Prop :=
  (∀ (s : State) (f : Frame) (channel target : Byte), s.Takes f → f.code = 0x10 → f.payload = [channel, target] →
    let old := s.table.lookup channel
    let reserved (c : Byte) : Prop := ∃ b, s.bind = some b ∧ ∃ p ∈ b.pairs, p.channel = c
    (64 ≤ target.toNat → target ≠ 0xFF → exec .mapChannel s = .next (s.answered f .badArg [])) ∧
    (∀ t : Option ContextId, (target = 0xFF ∧ t = none) ∨ (∃ k : ContextId, t = some k ∧ target.toNat = k.val) →
      let held (c : Byte) : Prop := ∃ k, t = some k ∧ (s.context k).channel = some c
      (reserved channel ∨ (∃ c, held c ∧ reserved c) → exec .mapChannel s = .next (s.answered f .reserved [])) ∧
      (¬ (reserved channel ∨ ∃ c, held c ∧ reserved c) →
        (∀ c, held c → c ≠ channel → exec .mapChannel s = .next (s.answered f .inUse [c])) ∧
        ((∀ c, held c → c = channel) →
          (∀ o, old = some o → (s.context o).inFlight ≠ 0 → exec .mapChannel s = .next (fencedOn s f o)) ∧
          ((∀ o, old = some o → (s.context o).inFlight = 0) →
            exec .mapChannel s = .next (((s.begun f).applyMap channel t).respond f .ok
              [channel, old.elim 0xFF (fun o => BitVec.ofNat 8 o.val), target])))))) ∧
  (∀ (s : State) (channel : Byte) (t : Option ContextId),
    let x := s.applyMap channel t
    x = { s with table := x.table, counters := { s.counters with contexts := x.counters.contexts } } ∧
    x.table.lookup channel = t ∧
    (∀ c, c ≠ channel → x.table.lookup c = s.table.lookup c) ∧
    (∀ k : ContextId,
      (t = some k →
        x.context k = { s.context k with
          channel := some channel
          expected := none
          acc := ⟨0, 0, false, false⟩
          limits := (s.context k).limits.map fun l => ⟨l.bounds, .normal⟩
          outSeq := 0 } ∧
        x.counters.contexts[k] = { s.counters.contexts[k] with
          decimDiscard := s.counters.contexts[k].decimDiscard + BitVec.ofNat 32 (s.context k).acc.count }) ∧
      (t ≠ some k →
        x.context k =
          (if s.table.lookup channel = some k then { s.context k with channel := none } else s.context k) ∧
        x.counters.contexts[k] = s.counters.contexts[k])))

/-- A SET_CHANNEL payload spells a limit record, or none, in the bytes that bit 2 of its flags allows. -/
def spellsBounds (payload : List Byte) (flags : Byte) (bounds : Option LimitRecord) : Prop :=
  (∃ c m n, payload = [c, m, n, flags] ∧ flags.getLsbD 2 = false ∧ bounds = none) ∨
  (∃ c m n l1 l0 h1 h0 y1 y0, payload = [c, m, n, flags, l1, l0, h1, h0, y1, y0] ∧ flags.getLsbD 2 = true ∧
    bounds = some ⟨l1 ++ l0, h1 ++ h0, y1 ++ y0⟩)

/-- The modes' codes (02 Table 2-3); SET_CHANNEL: its checks in order, the fence, and the configuration, live state and count it leaves. -/
def Obligations.SetChannelResult : Prop :=
  (Mode.code .off = 0 ∧ Mode.code .pass = 1 ∧ Mode.code .cond = 2) ∧
  (∀ (s : State) (f : Frame) (context mode n flags : Byte) (rest : List Byte) (bounds : Option LimitRecord),
    s.Takes f → f.code = 0x11 → f.payload = context :: mode :: n :: flags :: rest →
    spellsBounds f.payload flags bounds →
    let bad : Prop := 64 ≤ context.toNat ∨ 3 ≤ mode.toNat ∨ n.toNat < 1 ∨ 16 < n.toNat ∨ 8 ≤ flags.toNat ∨
      ∃ b ∈ bounds, b.high.toInt < b.low.toInt ∨ 4095 < b.hysteresis.toNat
    (bad → exec .setChannel s = .next (s.answered f .badArg [])) ∧
    (¬ bad → ∃ p : ChannelSettings,
      p.context.val = context.toNat ∧ p.mode.code = mode ∧ p.decimation = n.toNat ∧
      p.limitNotices = flags.getLsbD 0 ∧ p.seqGapNotices = flags.getLsbD 1 ∧ p.bounds = bounds ∧
      let k := s.context p.context
      let reserved : Prop := ∃ c, k.channel = some c ∧ ∃ b, s.bind = some b ∧ ∃ q ∈ b.pairs, q.channel = c ∧ q.curve = none
      (mode = 2 → k.curve = none → exec .setChannel s = .next (s.answered f .badState [])) ∧
      (mode = 2 → k.curve ≠ none → reserved → exec .setChannel s = .next (s.answered f .reserved [])) ∧
      ((mode = 2 → k.curve ≠ none ∧ ¬ reserved) →
        (k.inFlight ≠ 0 → exec .setChannel s = .next (fencedOn s f p.context)) ∧
        (k.inFlight = 0 → exec .setChannel s = .next (((s.begun f).applySettings p).respond f .ok
          [context, BitVec.ofNat 8 (k.discardedBy p)]))))) ∧
  (∀ (s : State) (p : ChannelSettings),
    let k := s.context p.context
    let differs : Prop := k.limits.map Limits.bounds ≠ p.bounds
    let emptied : Prop := k.decimation ≠ p.decimation ∨ differs ∨ (k.mode = .cond ∧ p.mode ≠ .cond)
    ∃ x : Context, s.applySettings p =
      { s with
        table := { s.table with
          contexts := s.table.contexts.set p.context
            { x with mode := p.mode, decimation := p.decimation, limitNotices := p.limitNotices, seqGapNotices := p.seqGapNotices } }
        counters := { s.counters with
          contexts := s.counters.contexts.set p.context
            { s.counters.contexts[p.context] with
              decimDiscard := s.counters.contexts[p.context].decimDiscard + BitVec.ofNat 32 (k.discardedBy p) } } } ∧
      (emptied → x.acc = ⟨0, 0, false, false⟩ ∧ k.discardedBy p = k.acc.count) ∧
      (¬ emptied → x.acc = k.acc ∧ k.discardedBy p = 0) ∧
      (differs → x.limits = p.bounds.map fun b => ⟨b, .normal⟩) ∧ (¬ differs → x.limits = k.limits) ∧
      (k.mode ≠ .cond ∧ p.mode = .cond → x.expected = none) ∧
      (¬ (k.mode ≠ .cond ∧ p.mode = .cond) → x.expected = k.expected) ∧
      x.channel = k.channel ∧ x.curve = k.curve ∧ x.outSeq = k.outSeq ∧ x.inFlight = k.inFlight ∧ x.fenced = k.fenced)

/-- GET_CHANNEL: the answer, byte by byte. -/
def Obligations.GetChannelResult : Prop :=
  ∀ (s : State) (f : Frame) (context : Byte), s.Takes f → f.code = 0x12 → f.payload = [context] →
    (64 ≤ context.toNat → exec .getChannel s = .next (s.answered f .badArg [])) ∧
    (∀ k : ContextId, k.val = context.toNat →
      let x := s.context k
      let bit (b : Bool) (n : Nat) : Byte := if b then BitVec.ofNat 8 (2 ^ n) else 0
      let limit (g : LimitRecord → Half) : Half := x.limits.elim 0 fun l => g l.bounds
      let sum : BitVec 32 := BitVec.ofInt 32 x.acc.sum
      exec .getChannel s = .next (s.answered f .ok
        [context,
         bit (x.channel ≠ none) 0 + bit (x.curve ≠ none) 1 + bit (x.limits ≠ none) 2 + bit (x.expected ≠ none) 3 +
           bit x.limitNotices 4 + bit x.seqGapNotices 5,
         x.channel.getD 0, x.mode.code, x.curve.elim 0 (fun c => BitVec.ofNat 8 c.val), BitVec.ofNat 8 x.decimation,
         (limit LimitRecord.low).extractLsb' 8 8, (limit LimitRecord.low).extractLsb' 0 8,
         (limit LimitRecord.high).extractLsb' 8 8, (limit LimitRecord.high).extractLsb' 0 8,
         (limit LimitRecord.hysteresis).extractLsb' 8 8, (limit LimitRecord.hysteresis).extractLsb' 0 8,
         x.expected.getD 0, BitVec.ofNat 8 x.acc.count,
         sum.extractLsb' 24 8, sum.extractLsb' 16 8, sum.extractLsb' 8 8, sum.extractLsb' 0 8,
         bit x.acc.clampLow 0 + bit x.acc.clampHigh 1, x.limits.elim 0 (fun l => l.state.code), x.outSeq,
         BitVec.ofNat 8 x.inFlight]))

/-! ### The loader commands (chapter 05) -/

/-- The payload that names a lease's owner and its remaining time. -/
def leaseReport (l : Lease) : List Byte :=
  let left : Half := BitVec.ofNat 16 (l.duration - l.count)
  [l.owner, left.extractLsb' 8 8, left.extractLsb' 0 8]

/-- The lease checks: OPEN_LEASE's table of lease, loader and sender; every loader command answered NO_LEASE and NOT_OWNER; and that the owner's renew the lease whatever
follows. -/
def Obligations.LeaseChecks : Prop :=
  (∀ (s : State) (f : Frame), s.Takes f → f.code = 0x20 → f.payload = [] →
    let time : Half := s.mgmt.params.leaseTime
    let granted (outcome : Byte) (loader : Loader) : State :=
      ({ s.begun f with loader := loader } : State).respond f .ok [outcome, time.extractLsb' 8 8, time.extractLsb' 0 8]
    (s.loader.lease = none → s.loader.state ≠ .writing → exec .openLease s = .next (granted 0
      { s.loader with lease := some ⟨f.aux, time.toNat, 0⟩, staging := ⟨Vector.replicate 16 ⟨0, 0⟩, 0, false⟩ })) ∧
    (s.loader.lease = none → s.loader.state = .writing → exec .openLease s = .next (s.answered f .busy [0xFF, 0, 0])) ∧
    (∀ l, s.loader.lease = some l →
      (l.owner = f.aux → exec .openLease s = .next (granted 1 { s.loader with lease := some ⟨l.owner, time.toNat, 0⟩ })) ∧
      (l.owner ≠ f.aux → exec .openLease s = .next (s.answered f .busy (leaseReport l))))) ∧
  (∀ row ∈ lengthRules, row.2.1 ∈ [0x21, 0x22, 0x23, 0x24, 0x25, 0x26] →
    ∀ (s : State) (f : Frame), s.Takes f → f.code = row.2.1 → row.2.2 f.payload = true →
      (s.loader.lease = none → exec row.1 s = .next (s.answered f .noLease [])) ∧
      (∀ l, s.loader.lease = some l → l.owner ≠ f.aux → exec row.1 s = .next (s.answered f .notOwner (leaseReport l)))) ∧
  (∀ row ∈ renewingCommands, ∀ ok, (row.1, row.2, ok) ∈ lengthRules →
    ∀ (s : State) (f : Frame) (l : Lease), s.Takes f → f.code = row.2 → ok f.payload = true →
      s.loader.lease = some l → l.owner = f.aux →
      ∃ t, exec row.1 s = .next t ∧
        (t.loader.lease = some ⟨l.owner, s.mgmt.params.leaseTime.toNat, 0⟩ ∨
          (row.1 = .closeLease ∧ s.loader.state ≠ .writing ∧ t.loader.lease = none)))

/-- The part with a loader command begun and the lease renewed. -/
def renewed (s : State) (f : Frame) (l : Lease) : State :=
  { s.begun f with loader := { s.loader with lease := some ⟨l.owner, s.mgmt.params.leaseTime.toNat, 0⟩ } }

/-- A knot's four bytes on the link. -/
def knotBytes (k : Knot) : List Byte :=
  [k.x.extractLsb' 8 8, k.x.extractLsb' 0 8, k.y.extractLsb' 8 8, k.y.extractLsb' 0 8]

/-- STAGE_KNOTS, CLEAR_STAGING and READ_STAGING past the lease checks: own checks in order, the staging page left, the answers; and where staged knots land. -/
def Obligations.StagingCommands : Prop :=
  (∀ (s : State) (f : Frame) (l : Lease), s.Holds f l →
    let staged (g : Staging) : State := { renewed s f l with loader := { (renewed s f l).loader with staging := g } }
    (∀ (mode start : Byte) (knots : List Knot), f.code = 0x21 → f.payload = mode :: start :: knots.flatMap knotBytes →
      1 ≤ knots.length → knots.length ≤ 11 →
      let bad : Prop := 1 < mode.toNat ∨ (mode = 0 ∧ 15 < start.toNat)
      (bad → exec .stageKnots s = .next ((renewed s f l).respond f .badArg [])) ∧
      (¬ bad → s.loader.state = .writing → exec .stageKnots s = .next ((renewed s f l).respond f .busy [1])) ∧
      (¬ bad → s.loader.state ≠ .writing →
        let b := if mode = 0 then start.toNat else s.loader.staging.cursor
        let g := s.loader.staging.stage b knots
        exec .stageKnots s = .next ((staged g).respond f .ok
          [BitVec.ofNat 8 g.cursor, BitVec.ofNat 8 (b + knots.length - 16), flagByte g.saturated]))) ∧
    (f.code = 0x22 → f.payload = [] →
      (s.loader.state = .writing → exec .clearStaging s = .next ((renewed s f l).respond f .busy [1])) ∧
      (s.loader.state ≠ .writing → exec .clearStaging s =
        .next ((staged ⟨Vector.replicate 16 ⟨0, 0⟩, 0, false⟩).respond f .ok []))) ∧
    (∀ first count : Byte, f.code = 0x23 → f.payload = [first, count] →
      let bad : Prop := 15 < first.toNat ∨ count.toNat < 1 ∨ 11 < count.toNat ∨ 16 < first.toNat + count.toNat
      (bad → exec .readStaging s = .next ((renewed s f l).respond f .badArg [])) ∧
      (¬ bad → exec .readStaging s = .next ((renewed s f l).respond f .ok
        ([first, count, BitVec.ofNat 8 s.loader.staging.cursor, flagByte s.loader.staging.saturated] ++
          ((s.loader.staging.slots.toList.drop first.toNat).take count.toNat).flatMap knotBytes))))) ∧
  (∀ (g : Staging) (b : Nat) (knots : List Knot), b ≤ 15 →
    let x := g.stage b knots
    x.cursor = min (b + knots.length) 15 ∧
    (x.saturated = true ↔ g.saturated = true ∨ 16 < b + knots.length) ∧
    (∀ i : Fin 16, i.val < b ∨ b + knots.length ≤ i.val → x.slots[i] = g.slots[i]) ∧
    (∀ (i : Nat) (k : Knot), knots[i]? = some k →
      (∀ h : b + i < 15, x.slots[b + i] = k) ∧
      (15 ≤ b + i → i + 1 = knots.length → x.slots[15] = k)))

/-- WRITE_PAGE past the lease checks: its checks in order, the page taken, the write record, no response and no renewal. -/
def Obligations.WritePageResult : Prop :=
  ∀ (s : State) (f : Frame) (l : Lease), s.Holds f l → f.code = 0x24 → f.payload.length ≤ 1 →
    let refused (st : Status) (p : List Byte) : Prop := exec .writePage s = .next (s.answered f st p)
    let started (p : PageId) : Prop := exec .writePage s = .next
      { s with
        store := { s.store with free := s.store.free.erase p, loose := s.store.loose ++ [⟨p, true⟩] }
        loader := { s.loader with state := .writing, write := some ⟨p, f.aux, f.seq, s.loader.staging.saturated, 0⟩ }
        mgmt := (s.begun f).mgmt.leave }
    (s.loader.state ≠ .idle → refused .busy [s.loader.state.code]) ∧
    (s.loader.state = .idle →
      (8 ≤ s.store.loose.length → refused .noRoom [1]) ∧
      (s.store.loose.length < 8 →
        (f.payload = [] → s.store.free = [] → refused .noRoom [2]) ∧
        (∀ p rest, f.payload = [] → s.store.free = p :: rest → started p) ∧
        (∀ b : Byte, f.payload = [b] →
          (∀ p : PageId, p.val = b.toNat → p ∈ s.store.free → started p) ∧
          ((∀ p : PageId, p.val = b.toNat → p ∉ s.store.free) → refused .badArg []))))

/-- DEFINE_CURVE past the lease checks: its checks 1 to 4 in order, then its order check begun; and what the definition and a refused order check leave. -/
def Obligations.DefineCurveResult : Prop :=
  (∀ (s : State) (f : Frame) (l : Lease) (id count knots : Byte) (entries : List Byte), s.Holds f l → f.code = 0x25 →
    f.payload = id :: count :: (entries ++ [knots]) → entries.length = count.toNat → 1 ≤ count.toNat → count.toNat ≤ 4 →
    let refused (st : Status) (p : List Byte) : Prop := exec .defineCurve s = .next ((renewed s f l).respond f st p)
    let good (i : Nat) : Prop := ∃ p : PageId, entries[i]? = some (BitVec.ofNat 8 p.val) ∧ ⟨p, false⟩ ∈ s.store.loose ∧
      ∀ j, j < i → entries[j]? ≠ entries[i]?
    (48 ≤ id.toNat → refused .badArg [1, 0]) ∧
    (∀ c : CurveId, c.val = id.toNat →
      ((s.curve c).state ≠ .empty → refused .inUse [(s.curve c).state.code]) ∧
      ((s.curve c).state = .empty →
        (∀ i, i < count.toNat → (∀ j, j < i → good j) → ¬ good i → refused .badArg [2, BitVec.ofNat 8 i]) ∧
        ((∀ i, i < count.toNat → good i) →
          let fits : Prop := 2 ≤ knots.toNat ∧ 16 * (count.toNat - 1) + 1 ≤ knots.toNat ∧ knots.toNat ≤ 16 * count.toNat
          (¬ fits → refused .badArg [3, 0]) ∧
          (fits → ∃ pages : List PageId, pages.map (fun p => BitVec.ofNat 8 p.val) = entries ∧
            exec .defineCurve s = .next { renewed s f l with
              mgmt := { (s.begun f).mgmt with
                readBack := some ⟨.orderCheck none, c, (s.curve c).generation, pages, knots.toNat, 0, knots.toNat, []⟩ } }))))) ∧
  (∀ (s : State) (r : ReadBack) (f : Frame), s.mgmt.current = some f →
    let ended (t : State) : State := { t with mgmt := { t.mgmt with readBack := none } }
    (∀ st p, s.endReadBack st p = (ended s).respond f st p) ∧
    s.defineCurve r =
      (ended { s with store := { s.store with
        loose := s.store.loose.filter fun p => p.page ∉ r.pages
        curves := s.store.curves.set r.curve
          ⟨.built, r.knots, r.pages, (s.curve r.curve).generation + 1, (s.curve r.curve).refs, (s.curve r.curve).pins,
            (s.curve r.curve).reservations⟩ } }).respond f .ok
        [BitVec.ofNat 8 r.curve.val, (s.curve r.curve).generation + 1, BitVec.ofNat 8 r.pages.length, BitVec.ofNat 8 r.knots])

/-- The ends of a lease: CLOSE_LEASE past the lease checks; the tick that brings the timer to its duration; any other tick; LEASE_EXPIRY. -/
def Obligations.LeaseEnds : Prop :=
  (∀ (s : State) (f : Frame) (l : Lease), s.Holds f l → f.code = 0x26 → f.payload = [] →
    (s.loader.state = .writing → exec .closeLease s = .next ((renewed s f l).respond f .busy [1])) ∧
    (s.loader.state ≠ .writing → exec .closeLease s = .next ((renewed s f l).endLease.respond f .ok
      [BitVec.ofNat 8 (s.store.loose.countP fun p => !p.writing)]))) ∧
  (∀ s : State,
    s.endLease = { s with
      loader := { s.loader with
        lease := none
        staging := if s.loader.state = .writing then s.loader.staging else ⟨Vector.replicate 16 ⟨0, 0⟩, 0, false⟩ }
      store := { s.store with
        free := s.store.free ++ (s.store.loose.filter fun p => !p.writing).map LoosePage.page
        loose := s.store.loose.filter fun p => p.writing } }) ∧
  (∀ s : State, s.loader.lease = none → s.tickLease = s ∧ exec .leaseExpiry s = .next s) ∧
  (∀ (s : State) (l : Lease), s.loader.lease = some l →
    exec .millisecondTick s = .next s.tickLease.tickRetry ∧
    (l.count + 1 < l.duration →
      s.tickLease = { s with loader := { s.loader with lease := some ⟨l.owner, l.duration, l.count + 1⟩ } } ∧
      exec .leaseExpiry s = .next s) ∧
    (l.duration ≤ l.count + 1 →
      exec .leaseExpiry s = exec .millisecondTick s ∧
      let ended (t : State) : State :=
        t.endLease.raise .leaseExpired l.owner [BitVec.ofNat 8 (t.store.loose.countP fun p => !p.writing)]
      (s.checkingOrder = false → s.tickLease = ended s) ∧
      (s.checkingOrder = true → ∃ t k, exec .defineCurveCheckDone s = .next t ∧ t.loader.lease = some k ∧
        (k = l ∨ k = ⟨l.owner, s.mgmt.params.leaseTime.toNat, 0⟩) ∧ (s.loader.state ≠ .writing → k = l) ∧
        (k.duration ≤ k.count + 1 → s.tickLease = ended t) ∧
        (k.count + 1 < k.duration →
          s.tickLease = { t with loader := { t.loader with lease := some ⟨k.owner, k.duration, k.count + 1⟩ } }))))

/-! ### The curve commands (chapter 03) -/

/-- The four bytes of a page list, 0xFF past its end. -/
def pageEntries (pages : List PageId) : List Byte :=
  [0, 1, 2, 3].map fun i => (pages[i]?).elim 0xFF fun p => BitVec.ofNat 8 p.val

/-- GET_CURVE: its length rule, its check, and the answer byte by byte. -/
def Obligations.GetCurveResult : Prop :=
  ∀ (s : State) (f : Frame), s.Takes f → f.code = 0x30 →
    (f.payload.length ≠ 1 → exec .getCurve s = .next (s.answered f .badLength [])) ∧
    (∀ id : Byte, f.payload = [id] →
      (47 < id.toNat → exec .getCurve s = .next (s.answered f .badArg [])) ∧
      (∀ c : CurveId, c.val = id.toNat →
        let d := s.curve c
        exec .getCurve s = .next (s.answered f .ok
          ([id, d.state.code, d.generation, BitVec.ofNat 8 d.knots, BitVec.ofNat 8 d.pages.length] ++ pageEntries d.pages ++
            [BitVec.ofNat 8 d.refs, BitVec.ofNat 8 d.pins, BitVec.ofNat 8 d.reservations])))) ∧
    (CurveState.code .empty = 0 ∧ CurveState.code .built = 1 ∧ CurveState.code .live = 2 ∧ CurveState.code .retiring = 3)

/-- DELETE_CURVE and READ_KNOTS: their checks in order; the curve reclaimed or RETIRING; the read-back begun; READ_KNOTS_DONE without one. -/
def Obligations.CurveCommands : Prop :=
  (∀ (s : State) (f : Frame) (id : Byte), s.Takes f → f.code = 0x32 → f.payload = [id] →
    (47 < id.toNat → exec .deleteCurve s = .next (s.answered f .badArg [])) ∧
    (∀ c : CurveId, c.val = id.toNat →
      let d := s.curve c
      (d.state = .empty ∨ d.state = .retiring → exec .deleteCurve s = .next (s.answered f .badState [d.state.code])) ∧
      (d.state = .live → exec .deleteCurve s = .next (s.answered f .inUse [BitVec.ofNat 8 d.refs])) ∧
      (d.state = .built →
        (d.reservations ≠ 0 → exec .deleteCurve s = .next (s.answered f .reserved [BitVec.ofNat 8 d.reservations])) ∧
        (d.reservations = 0 → d.pins = 0 → exec .deleteCurve s = .next (((s.begun f).reclaim c).respond f .ok
          [id, 0, BitVec.ofNat 8 d.pages.length, 0])) ∧
        (d.reservations = 0 → d.pins ≠ 0 → exec .deleteCurve s = .next
          (((s.begun f).modCurve c fun d => { d with state := .retiring }).respond f .ok
            [id, 1, BitVec.ofNat 8 d.pages.length, BitVec.ofNat 8 d.pins]))))) ∧
  (∀ (s : State) (c : CurveId),
    s.reclaim c =
      ({ s with store := { s.store with
        free := s.store.free ++ (s.curve c).pages
        curves := s.store.curves.set c
          { s.curve c with state := .empty, knots := 0, pages := [] } } } : State).raise .curveFreed
        (BitVec.ofNat 8 c.val) [BitVec.ofNat 8 (s.curve c).pages.length]) ∧
  (∀ (s : State) (f : Frame) (id first count : Byte), s.Takes f → f.code = 0x31 → f.payload = [id, first, count] →
    (47 < id.toNat ∨ count.toNat < 1 ∨ 11 < count.toNat → exec .readKnots s = .next (s.answered f .badArg [])) ∧
    (∀ c : CurveId, c.val = id.toNat → 1 ≤ count.toNat → count.toNat ≤ 11 →
      let d := s.curve c
      (d.state = .empty → exec .readKnots s = .next (s.answered f .badState [])) ∧
      (d.state ≠ .empty → d.knots < first.toNat + count.toNat → exec .readKnots s = .next (s.answered f .badArg [])) ∧
      (d.state ≠ .empty → first.toNat + count.toNat ≤ d.knots → exec .readKnots s = .next
        { s.begun f with mgmt := { (s.begun f).mgmt with
          readBack := some ⟨.readKnots, c, d.generation, d.pages, d.knots, first.toNat, count.toNat, []⟩ } }))) ∧
  (∀ s : State, (∀ r, s.mgmt.readBack = some r → r.purpose ≠ .readKnots) → exec .readKnotsDone s = .next s) ∧
  (∀ s : State, (∀ r, s.mgmt.readBack = some r → r.purpose = .readKnots) → exec .defineCurveCheckDone s = .next s)

/-! ### The bind unit (chapter 06) -/

/-- A pair, the pairs before it given, fails validation for a reason, the first that applies (06 Table 6-3). -/
def pairFails (s : State) (earlier : List RawPair) (p : RawPair) (reason : Byte) : Prop :=
  let one : Prop := (48 ≤ p.curve.toNat ∧ p.curve ≠ 0xFF) ∨ 2 ≤ p.flags.toNat
  let two : Prop := ∃ q ∈ earlier, q.channel = p.channel
  let three : Prop := s.table.lookup p.channel = none
  let four : Prop := ∃ c : CurveId, c.val = p.curve.toNat ∧ ((s.curve c).state = .empty ∨ (s.curve c).state = .retiring)
  let five : Prop := p.curve = 0xFF ∧ ∃ k, s.table.lookup p.channel = some k ∧ (s.context k).mode = .cond
  (reason = 1 ∧ one) ∨ (reason = 2 ∧ ¬ one ∧ two) ∨ (reason = 3 ∧ ¬ one ∧ ¬ two ∧ three) ∨
    (reason = 4 ∧ ¬ one ∧ ¬ two ∧ ¬ three ∧ four) ∨ (reason = 5 ∧ ¬ one ∧ ¬ two ∧ ¬ three ∧ ¬ four ∧ five)

/-- A pair set is refused at index `i` for a reason: its first pair that fails (06 R112). -/
def setFails (s : State) (raws : List RawPair) (i : Nat) (reason : Byte) : Prop :=
  ∃ p, raws[i]? = some p ∧ pairFails s (raws.take i) p reason ∧
    ∀ j, j < i → ∀ q, raws[j]? = some q → ∀ r, ¬ pairFails s (raws.take j) q r

/-- A pair set that passes (06 R112). -/
def setPasses (s : State) (raws : List RawPair) : Prop :=
  ∀ j q, raws[j]? = some q → ∀ r, ¬ pairFails s (raws.take j) q r

/-- The bytes of pairs on the link (06 Table 6-2). -/
def rawBytes (raws : List RawPair) : List Byte := raws.flatMap fun p => [p.channel, p.curve, p.flags]

/-- BIND_CHANNELS and PREPARE_BIND: validation, the checks against the pending set, the pairs bound at once or held with their reservations, the answers. -/
def Obligations.BindAndPrepare : Prop :=
  (∀ (s : State) (f : Frame) (raws : List RawPair), s.Takes f → 1 ≤ raws.length → raws.length ≤ 8 →
    let pairs := raws.map RawPair.pair
    let pendingChannel (c : Byte) : Prop := ∃ b, s.bind = some b ∧ ∃ q ∈ b.pairs, q.channel = c
    (f.code = 0x40 → f.payload = rawBytes raws →
      (∀ i r, setFails s raws i r → exec .bindChannels s = .next (s.answered f .badArg [r, BitVec.ofNat 8 i])) ∧
      (setPasses s raws →
        (∀ i p, raws[i]? = some p → pendingChannel p.channel →
          (∀ j, j < i → ∀ q, raws[j]? = some q → ¬ pendingChannel q.channel) →
          exec .bindChannels s = .next (s.answered f .reserved [BitVec.ofNat 8 i])) ∧
        ((∀ p ∈ raws, ¬ pendingChannel p.channel) → exec .bindChannels s = .next (((s.begun f).bindNow pairs).respond f .ok
          [BitVec.ofNat 8 raws.length, BitVec.ofNat 8 (s.changes pairs).length])))) ∧
    (∀ tag : Byte, f.code = 0x41 → f.payload = tag :: rawBytes raws →
      (tag = 0 → exec .prepareBind s = .next (s.answered f .badArg [6, 0])) ∧
      (tag ≠ 0 →
        (∀ b, s.bind = some b → exec .prepareBind s = .next (s.answered f .busy [b.tag])) ∧
        (s.bind = none →
          (∀ i r, setFails s raws i r → exec .prepareBind s = .next (s.answered f .badArg [r, BitVec.ofNat 8 i])) ∧
          (setPasses s raws → exec .prepareBind s = .next
            (({ (s.begun f).reserve pairs with bind := some ⟨tag, pairs⟩ } : State).respond f .ok
              [tag, BitVec.ofNat 8 raws.length])))))) ∧
  (∀ p : RawPair, p.pair.channel = p.channel ∧ p.pair.release = p.flags.getLsbD 0 ∧ (p.curve = 0xFF → p.pair.curve = none) ∧
    (∀ c : CurveId, c.val = p.curve.toNat → p.pair.curve = some c))

/-- What a bind event does: its changes, one for each pair that changes its context's curve, in pair order and of distinct contexts; the bound curves of the changed contexts;
the reference claims taken together; the reservation claims, and nothing else with them; the release requests on the state left, each old curve once in the order of
its first pair. -/
def Obligations.BindEffects : Prop :=
  (∀ (s : State) (pairs : List Pair),
    (s.bindNow pairs = (s.applyChanges (s.changes pairs)).releaseAll (releasesOf (s.changes pairs))) ∧
    (∀ tag, s.applyPending ⟨tag, pairs⟩ =
      ({ (s.applyChanges (s.changes pairs)).unreserve pairs with bind := none } : State).releaseAll (releasesOf (s.changes pairs))) ∧
    (∀ tag, s.cancelPending ⟨tag, pairs⟩ = { s.unreserve pairs with bind := none }) ∧
    (s.changes [] = [] ∧ ∀ p,
      (s.table.lookup p.channel = none → s.changes (p :: pairs) = s.changes pairs) ∧
      (∀ k, s.table.lookup p.channel = some k →
        ((s.context k).curve = p.curve → s.changes (p :: pairs) = s.changes pairs) ∧
        ((s.context k).curve ≠ p.curve →
          s.changes (p :: pairs) = ⟨k, (s.context k).curve, p.curve, p.release⟩ :: s.changes pairs))) ∧
    (s.table.Linked → (pairs.map Pair.channel).Nodup → ((s.changes pairs).map Change.context).Nodup) ∧
    (let named (c : CurveId) : Nat := pairs.countP fun p => p.curve == some c
     s.reserve pairs = { s with store := { s.store with curves := Vector.ofFn fun c =>
       { s.curve c with reservations := (s.curve c).reservations + named c } } } ∧
     s.unreserve pairs = { s with store := { s.store with curves := Vector.ofFn fun c =>
       { s.curve c with reservations := (s.curve c).reservations - named c } } })) ∧
  (∀ (s : State) (changes : List Change), (changes.map Change.context).Nodup →
    let t := s.applyChanges changes
    t = { s with table := { s.table with contexts := t.table.contexts }, store := { s.store with curves := t.store.curves } } ∧
    (∀ x ∈ changes, t.context x.context = { s.context x.context with curve := x.new }) ∧
    (∀ k : ContextId, (∀ x ∈ changes, x.context ≠ k) → t.context k = s.context k) ∧
    (∀ c : CurveId,
      let gained := changes.countP fun x => x.new == some c
      let lost := changes.countP fun x => x.old == some c
      (gained = 0 → lost = 0 → t.curve c = s.curve c) ∧
      (0 < gained + lost → t.curve c = { s.curve c with
        refs := (s.curve c).refs + gained - lost
        state := if (s.curve c).refs + gained - lost = 0 then .built else .live }))) ∧
  (releasesOf [] = [] ∧ ∀ (changes : List Change) (x : Change),
    (∀ c, x.release = true → x.old = some c → c ∉ releasesOf changes → releasesOf (changes ++ [x]) = releasesOf changes ++ [c]) ∧
    (∀ c, x.release = true → x.old = some c → c ∈ releasesOf changes → releasesOf (changes ++ [x]) = releasesOf changes) ∧
    (x.release = false ∨ x.old = none → releasesOf (changes ++ [x]) = releasesOf changes)) ∧
  (∀ (changes : List Change), (releasesOf changes).Nodup ∧
    (∀ c, c ∈ releasesOf changes ↔ ∃ x ∈ changes, x.release = true ∧ x.old = some c)) ∧
  (∀ (s : State) (c : CurveId) (rest : List CurveId),
    let d := s.curve c
    s.releaseAll (c :: rest) = (s.releaseRequest c).releaseAll rest ∧ s.releaseAll [] = s ∧
    (d.state = .live → s.releaseRequest c = s) ∧
    (d.state = .built → 0 < d.reservations → s.releaseRequest c = s) ∧
    (d.state = .built → d.reservations = 0 → d.pins = 0 → s.releaseRequest c = s.reclaim c) ∧
    (d.state = .built → d.reservations = 0 → 0 < d.pins →
      s.releaseRequest c = s.modCurve c fun d => { d with state := .retiring }))

/-- APPLY_BIND and CANCEL_BIND, addressed and by broadcast: the set absent, its tag matching, its tag differing; a broadcast copy of a wrong length. -/
def Obligations.ApplyAndCancel : Prop :=
  (∀ (s : State) (f : Frame) (tag : Byte), s.Takes f → f.payload = [tag] →
    (f.code = 0x42 →
      (s.bind = none → exec .applyBind s = .next (s.answered f .badState [])) ∧
      (∀ b, s.bind = some b →
        (tag ≠ b.tag → exec .applyBind s = .next (s.answered f .badArg [b.tag])) ∧
        (tag = b.tag → exec .applyBind s = .next (((s.begun f).applyPending b).respond f .ok
          [tag, BitVec.ofNat 8 b.pairs.length, BitVec.ofNat 8 (s.changes b.pairs).length])))) ∧
    (f.code = 0x43 →
      (s.bind = none → exec .cancelBind s = .next (s.answered f .badState [])) ∧
      (∀ b, s.bind = some b →
        (tag ≠ 0 → tag ≠ b.tag → exec .cancelBind s = .next (s.answered f .badArg [b.tag])) ∧
        (tag = 0 ∨ tag = b.tag → exec .cancelBind s = .next (((s.begun f).cancelPending b).respond f .ok
          [b.tag, BitVec.ofNat 8 b.pairs.length]))))) ∧
  (∀ (s : State) (f : Frame), s.mgmt.inHand = some f → f.addressed = false →
    let missed : State := (s.countNode fun c => { c with applyMiss := c.applyMiss + 1 }).leave
    (f.code = 0x42 →
      (f.payload.length ≠ 1 ∨ s.bind = none → exec .applyBindBroadcast s = .next missed) ∧
      (∀ tag b, f.payload = [tag] → s.bind = some b →
        (tag ≠ b.tag → exec .applyBindBroadcast s = .next missed) ∧
        (tag = b.tag → exec .applyBindBroadcast s = .next (s.applyPending b).leave))) ∧
    (f.code = 0x43 →
      (f.payload.length ≠ 1 ∨ s.bind = none → exec .cancelBindBroadcast s = .next missed) ∧
      (∀ tag b, f.payload = [tag] → s.bind = some b →
        (tag ≠ 0 → tag ≠ b.tag → exec .cancelBindBroadcast s = .next missed) ∧
        (tag = 0 ∨ tag = b.tag → exec .cancelBindBroadcast s = .next (s.cancelPending b).leave)))) ∧
  (∀ s : State, (∀ f, s.mgmt.inHand = some f → f.addressed = true) →
    exec .applyBindBroadcast s = .next s ∧ exec .cancelBindBroadcast s = .next s)

/-! ### Notices (chapter 08) -/

/-- The notice kinds' codes (01 Table 1-8); a raise, row by row of 08 Table 8-4. -/
def Obligations.RaiseTable : Prop :=
  ([NoticeKind.nodeStart, .linkChange, .seqGap, .limit, .curveFreed, .leaseExpired].map NoticeKind.code = [1, 2, 3, 4, 5, 6]) ∧
  ∀ (s : State) (kind : NoticeKind) (subject : Byte) (fields : List Byte),
    let u := s.notices
    let same (h : Notice) : Prop := h.kind = kind ∧ h.subject = subject
    let enabled : Prop := s.mgmt.params.noticeMask.getLsbD (kind.code.toNat - 1) = true
    let result := s.raise kind subject fields
    (¬ enabled → result = s) ∧
    (enabled → u.window.length < 8 →
      result = { s with notices := { u with
        window := u.window ++ [⟨⟨kind, subject, fields, 1⟩, u.nextSeq, false, 0⟩]
        nextSeq := u.nextSeq + 1 } }) ∧
    (enabled → 8 ≤ u.window.length →
      ((∃ h ∈ u.held, same h) → ∃ held, result =
        { s with notices := { u with held := held } }.countNode (fun c => { c with noticeCoalesced := c.noticeCoalesced + 1 }) ∧
        held.length = u.held.length ∧
        (∀ (i : Nat) (h : Notice), u.held[i]? = some h →
          (same h → held[i]? = some ⟨kind, subject, fields, min (h.coalesce + 1) 255⟩) ∧
          (¬ same h → held[i]? = some h))) ∧
      ((∀ h ∈ u.held, ¬ same h) →
        (u.held.length < 16 → result = { s with notices := { u with held := u.held ++ [⟨kind, subject, fields, 1⟩] } }) ∧
        (16 ≤ u.held.length → result =
          { s with notices := { u with lost := true } }.countNode (fun c => { c with noticesLost := c.noticesLost + 1 }))))

/-- ACK_NOTICES: the sequence that no entry holds; the entries removed, the stall ended or the timer restarted or stopped, the places filled from the held list, ACKED.
RESUME_NOTICES: a stall ended; nothing else. -/
def Obligations.NoticeCommands : Prop :=
  ∀ (s : State) (f : Frame), s.Takes f →
    let u := s.notices
    let answered (v : NoticeUnit) (count : Nat) (p : List Byte) : State :=
      ({ s.begun f with notices := v } : State).countNode (fun c => { c with acked := c.acked + BitVec.ofNat 32 count }) |>.respond f .ok p
    (∀ q : Byte, f.code = 0x50 → f.payload = [q] →
      ((∀ e ∈ u.window, e.seq ≠ q) → exec .ackNotices s = .next (s.answered f .badArg
        [BitVec.ofNat 8 u.window.length, (u.window.head?).elim 0 WindowEntry.seq])) ∧
      (∀ before e rest, u.window = before ++ e :: rest → e.seq = q → (∀ x ∈ before, x.seq ≠ q) →
        let n := before.length + 1
        let kept : List WindowEntry :=
          if u.state = .stalled then rest.map fun x => ⟨x.notice, x.seq, false, 0⟩ else rest
        let timer : Option RetryTimer :=
          if u.state = .running ∧ ∃ x ∈ rest, x.sent = true then some ⟨s.mgmt.params.noticeRetry.toNat, 0⟩ else none
        let moved := u.held.take n
        let window := kept ++ moved.mapIdx fun i x => (⟨x, u.nextSeq + BitVec.ofNat 8 i, false, 0⟩ : WindowEntry)
        exec .ackNotices s = .next (answered
          ⟨.running, window, u.held.drop n, u.nextSeq + BitVec.ofNat 8 moved.length, timer, u.lost⟩ n
          [BitVec.ofNat 8 n, BitVec.ofNat 8 window.length, 0]))) ∧
    (f.code = 0x51 → f.payload = [] →
      (u.state = .stalled → exec .resumeNotices s = .next (({ s.begun f with notices := { u with
          state := .running
          window := u.window.map fun x => ⟨x.notice, x.seq, false, 0⟩
          timer := none } } : State).respond f .ok [1, BitVec.ofNat 8 (u.window.countP WindowEntry.sent)])) ∧
      (u.state = .running → exec .resumeNotices s = .next (s.answered f .ok [0, 0])))

/-- The notice unit's own events: the notice it gives, or that it offers none; the tick of the retry timer; the expiry with its go-back or stall; NOTICE_RETRY_EXPIRY. -/
def Obligations.NoticeTimer : Prop :=
  ∀ s : State,
    let u := s.notices
    let flows : Prop := s.dPort.link = .up ∧ s.mgmt.address ≠ 0
    (∀ before e rest, flows → u.state = .running → u.window = before ++ e :: rest →
      (∀ x ∈ before, x.sent = true) → e.sent = false →
      s.takeNotice = some
        (⟨.notice, s.mgmt.address, e.seq, e.notice.kind.code, 0, e.notice.subject :: BitVec.ofNat 8 e.notice.coalesce :: e.notice.fields⟩,
         { u with
           window := before ++ ⟨e.notice, e.seq, true, e.transmissions + 1⟩ :: rest
           timer := some (u.timer.getD ⟨s.mgmt.params.noticeRetry.toNat, 0⟩) })) ∧
    (¬ flows ∨ u.state = .stalled ∨ (∀ x ∈ u.window, x.sent = true) → s.takeNotice = none) ∧
    (u.timer = none ∨ ¬ flows → s.tickRetry = s ∧ exec .noticeRetryExpiry s = .next s) ∧
    (∀ r, u.timer = some r → flows →
      (r.count + 1 < r.duration →
        s.tickRetry = { s with notices := { u with timer := some ⟨r.duration, r.count + 1⟩ } } ∧
        exec .noticeRetryExpiry s = .next s) ∧
      (r.duration ≤ r.count + 1 →
        exec .noticeRetryExpiry s = exec .millisecondTick s ∧
        (∀ e rest, u.window = e :: rest →
          (e.transmissions < 4 → s.tickRetry = { s with notices := { u with
            window := u.window.map fun x => ⟨x.notice, x.seq, false, x.transmissions⟩, timer := none } }) ∧
          (4 ≤ e.transmissions → s.tickRetry = { s with notices := { u with state := .stalled, timer := none } })))) ∧
    exec .millisecondTick s = .next s.tickLease.tickRetry

/-! ### Counters (chapter 10) -/

/-- READ_COUNTERS: its checks in order, the snapshot in the answer's order, the clear, and no other counter changed; how counters count. -/
def Obligations.ReadCountersResult : Prop :=
  (∀ (s : State) (f : Frame) (scope context flags : Byte), s.Takes f → f.code = 0x60 → f.payload = [scope, context, flags] →
    let refused (r : Byte) : Prop := exec .readCounters s = .next (s.answered f .badArg [r])
    let four (v : Count) : List Byte := [v.extractLsb' 24 8, v.extractLsb' 16 8, v.extractLsb' 8 8, v.extractLsb' 0 8]
    let read (x : Scope) (id : Byte) (values : List Count) : Prop :=
      (1 < flags.toNat → refused 3) ∧
      (flags = 0 → exec .readCounters s = .next (s.answered f .ok ([scope, id, 0] ++ values.flatMap four))) ∧
      (flags = 1 → exec .readCounters s = .next
        ({ s with counters := s.counters.clear x }.answered f .ok ([scope, id, 1] ++ values.flatMap four)))
    let port (c : PortCounters) : List Count :=
      [c.lengthErr, c.crcErr, c.kindErr, c.direction, c.overrun, c.linkFlush, c.outDiscard]
    (3 < scope.toNat → refused 1) ∧
    (scope = 0 → read (.port .uPort) 0 (port s.counters.uPort)) ∧
    (scope = 1 → read (.port .dPort) 0 (port s.counters.dPort)) ∧
    (scope = 2 →
      let c := s.counters.node
      read .node 0 [c.unmappedFwd, c.unmappedDrop, c.badManager, c.cmdDropped, c.bcastIgnored, c.dupInProgress,
        c.retransmitAnswered, c.applyMiss, c.noticeCoalesced, c.noticesLost, c.acked]) ∧
    (scope = 3 →
      (63 < context.toNat → refused 2) ∧
      (∀ k : ContextId, k.val = context.toNat →
        let c := s.counters.contexts[k]
        read (.context k) context [c.framesIn, c.samplesIn, c.offDrop, c.late, c.seqMissing, c.clampLow, c.clampHigh,
          c.limitEvents, c.outputs, c.decimDiscard]))) ∧
  (∀ (c : Counters) (x y : Scope), (c.clear x).read y = if x = y then (c.read y).map fun _ => 0 else c.read y)

/-! ### Output (chapter 09) -/

/-- The sources in the order a pointer considers them (09 Table 9-2). -/
def sourceOrder : Source → List Source
  | .cq => [.cq, .fq, .rq, .nu]
  | .fq => [.fq, .rq, .nu, .cq]
  | .rq => [.rq, .nu, .cq, .fq]
  | .nu => [.nu, .cq, .fq, .rq]

/-- The source that follows one (09 R173). -/
def sourceAfter : Source → Source
  | .cq => .fq
  | .fq => .rq
  | .rq => .nu
  | .nu => .cq

/-- The pointer through a sequence of takings, given which sources have a frame to give at each. -/
def pointerAt (p : Source) (gives : Nat → Source → Bool) : Nat → Source
  | 0 => p
  | n + 1 => (((sourceOrder (pointerAt p gives n)).find? (gives n)).map sourceAfter).getD (pointerAt p gives n)

/-- A D-port taking with the frame's use: the source chosen, its frame gone, the pointer past it, the place made used; and with nothing to give, none is made. -/
def takingIs (s : State) (use : Frame → State → State) (result : State) : Prop :=
  let past (x : Source) (t : State) : State := { t with merger := { t.merger with pointer := sourceAfter x } }
  let waited : Bool := 8 ≤ s.merger.fq.length && (s.uPort.buffer.head?.map s.decide).any DataDecision.passes
  match (sourceOrder s.merger.pointer).find? s.gives with
  | none => result = s
  | some .cq => ∀ e rest, s.merger.cq = e :: rest →
    result = (past .cq (use e.frame { s with merger := { s.merger with cq := rest } })).enterCq
  | some .fq => ∀ f rest, s.merger.fq = f :: rest →
    let t := past .fq (use f { s with merger := { s.merger with fq := rest } })
    result = if waited then t.classifyData else t
  | some .rq => ∀ f rest, s.mgmt.responseQueue = f :: rest →
    result = (past .rq (use f { s with mgmt := { s.mgmt with responseQueue := rest } })).placePosted
  | some .nu => ∀ f v, s.takeNotice = some (f, v) → result = past .nu (use f { s with notices := v })

/-- D_PORT_TAKING and D_PORT_DISCARD_TAKING: when each is made and what it does; a source with a frame to give is served within four takings. -/
def Obligations.DPortTakings : Prop :=
  (∀ s : State,
    (s.gives .cq = !s.merger.cq.isEmpty ∧ s.gives .fq = !s.merger.fq.isEmpty ∧ s.gives .rq = !s.mgmt.responseQueue.isEmpty ∧
      (s.gives .nu = true ↔ s.takeNotice.isSome = true)) ∧
    (s.dPort.link = .up → s.dPort.tx = .idle → ∃ t, exec .dPortTaking s = .next t ∧
      takingIs s (fun f t => { t with dPort := { t.dPort with tx := .sending f.wire } }) t) ∧
    (¬ (s.dPort.link = .up ∧ s.dPort.tx = .idle) → exec .dPortTaking s = .next s) ∧
    (s.dPort.link ≠ .up → ∃ t, exec .dPortDiscardTaking s = .next t ∧
      takingIs s (fun _ t => t.countPort .dPort fun c => { c with outDiscard := c.outDiscard + 1 }) t) ∧
    (s.dPort.link = .up → exec .dPortDiscardTaking s = .next s)) ∧
  (∀ (p : Source) (gives : Nat → Source → Bool) (n : Nat) (x : Source), (∀ i, i < 4 → gives (n + i) x = true) →
    ∃ i, i < 4 ∧ (sourceOrder (pointerAt p gives (n + i))).find? (gives (n + i)) = some x)

/-- UP_QUEUE_TAKE, UP_QUEUE_DISCARD and POSTED_RESPONSE_PLACED: when each acts and what it leaves. -/
def Obligations.QueueCommands : Prop :=
  ∀ s : State,
    (∀ f rest, s.merger.uq = f :: rest →
      (s.uPort.link = .up → s.uPort.tx = .idle → exec .upQueueTake s = .next
        { s with merger := { s.merger with uq := rest }, uPort := { s.uPort with tx := .sending f.wire } }) ∧
      (¬ (s.uPort.link = .up ∧ s.uPort.tx = .idle) → exec .upQueueTake s = .next s) ∧
      (s.uPort.link ≠ .up → exec .upQueueDiscard s = .next
        ({ s with merger := { s.merger with uq := rest } }.countPort .uPort fun c => { c with outDiscard := c.outDiscard + 1 })) ∧
      (s.uPort.link = .up → exec .upQueueDiscard s = .next s)) ∧
    (s.merger.uq = [] → exec .upQueueTake s = .next s ∧ exec .upQueueDiscard s = .next s) ∧
    exec .postedResponsePlaced s = .next s.placePosted ∧
    (s.mgmt.waiting = [] ∨ 4 ≤ s.mgmt.responseQueue.length → s.placePosted = s) ∧
    (∀ r rest, s.mgmt.responseQueue.length < 4 →
      let placed : Management := { s.mgmt with waiting := rest, responseQueue := s.mgmt.responseQueue ++ [r] }
      (s.mgmt.waiting = ⟨.engine, r⟩ :: rest → s.placePosted = { s with mgmt := placed.leave }) ∧
      (s.mgmt.waiting = ⟨.loader, r⟩ :: rest →
        s.placePosted = { s with mgmt := placed, loader := { s.loader with state := .idle, write := none } }))

/-! ### What every step keeps -/

/-- A conversion through a curve the store holds, whose searches need at most m reads a sample, has every sample's value taken, in payload order, within 3 * (2 + m * c)
access periods, whatever the other claimants do and whatever else ends meanwhile (04 R75's bound without its last period). That CONVERSION_END, given at the conversion's
start, lets these periods pass and then ends it is the model's choice (log 7); so is that an end falls at the start of its period, before the grant, as these periods
have it for whatever else ends (log 29). -/
def Obligations.ConversionsConvert : Prop :=
  ∀ (s : State) (u : UnitId) (b : BusyUnit) (w : WorkSlot) (knot : Nat → Knot) (value : Half → Clamp × Half) (m : Nat),
    s.CountsKept → s.busySlot u = some (b, w) → b.work = Working.start (s.context w.context) →
    let d := s.curve w.curve
    let n := (s.context w.context).decimation
    2 ≤ d.knots → d.knots ≤ 64 → w.samples.length ≤ 8 → w.samples ≠ [] →
    (∀ i, i < d.knots → s.store.knotAt d.pages i = some (knot i)) →
    (∀ i, i + 1 < d.knots → (knot i).x.toInt < (knot (i + 1)).x.toInt) →
    m ≤ 6 → (∀ r, searchRun knot r m (searchStart (knot 0) (knot (d.knots - 1)) d.knots r) = some (value r)) →
    s.store.arbiter.conversionRun ≤ 3 → (∀ p ∈ s.pageWriteClaim, p.1.page ∉ d.pages) →
    let t := s.passUntil (fun t => t.unitDone u) (3 * (2 + m * w.samples.length))
    t.unitDone u = true ∧ exec (.conversionEnd u.val) s = .next (t.endConversion u) ∧
    ∃ work, t.busySlot u = some (⟨b.slot, work⟩, w) ∧
      { work with firstKnot := none, lastKnot := none } = takeAll n b.work (w.samples.map value)

/-- The ports, the merger's queues, the management engine and its queues keep their sizes and forms at every step (QueuesKept, in Safety). -/
def Obligations.StepKeepsQueues : Prop :=
  ∀ s t : State, s.QueuesKept → step s = .next t → t.QueuesKept

/-- The notice unit keeps its sizes, its consecutive sequences, its order, its ranges and its timer's condition at every step. -/
def Obligations.StepKeepsNotices : Prop :=
  ∀ s t : State, s.notices.Kept → step s = .next t → t.notices.Kept

/-- Each of the 128 pages is in exactly one place, every curve that is not EMPTY has knots of increasing x that fit its pages, and lease timer, staging cursor and loose
set are within their bounds, at every step, with the queues and the counts kept, as StepKeepsQueues and StepKeepsCounts say they are (PagesKept, in Safety). -/
def Obligations.StepKeepsPages : Prop :=
  ∀ s t : State, s.QueuesKept → s.CountsKept → s.PagesKept → step s = .next t → t.PagesKept

/-- Map and back-references agree and every COND context has a bound curve, at every step; and then no step stops (ChannelsKept, in Safety). -/
def Obligations.StepKeepsChannels : Prop :=
  ∀ s : State, s.ChannelsKept →
    (∀ t, step s = .next t → t.ChannelsKept) ∧ (∃ t, step s = .next t)

/-- The counts of every curve equal what the part holds, and fit its state, and the conditioning engine's slots, orders, units and accumulators agree, at every step
(CountsKept, in Safety). -/
def Obligations.StepKeepsCounts : Prop :=
  ∀ s t : State, s.CountsKept → step s = .next t → t.CountsKept

/-- The part after the release of RESETn keeps every condition of the five invariants, and so does one started from reset with any commands waiting. -/
def Obligations.ResetKeepsAll : Prop :=
  ∀ commands : List Instr,
    let s := State.resetWith commands
    s.QueuesKept ∧ s.notices.Kept ∧ s.PagesKept ∧ s.ChannelsKept ∧ s.CountsKept
end

