-- ==== Sys2Proof/Laws/State.lean ====
section
/-! SUPPORT. What each operation leaves alone: one lemma for each field that an operation on the state does not write. -/

namespace Sys2Proof.Machine

@[simp] theorem State.modContext_uPort (s : State) (k : ContextId) (f : Context → Context) : (s.modContext k f).uPort = s.uPort := rfl
@[simp] theorem State.modContext_dPort (s : State) (k : ContextId) (f : Context → Context) : (s.modContext k f).dPort = s.dPort := rfl
@[simp] theorem State.modContext_store (s : State) (k : ContextId) (f : Context → Context) : (s.modContext k f).store = s.store := rfl
@[simp] theorem State.modContext_conditioner (s : State) (k : ContextId) (f : Context → Context) : (s.modContext k f).conditioner = s.conditioner := rfl
@[simp] theorem State.modContext_loader (s : State) (k : ContextId) (f : Context → Context) : (s.modContext k f).loader = s.loader := rfl
@[simp] theorem State.modContext_bind (s : State) (k : ContextId) (f : Context → Context) : (s.modContext k f).bind = s.bind := rfl
@[simp] theorem State.modContext_mgmt (s : State) (k : ContextId) (f : Context → Context) : (s.modContext k f).mgmt = s.mgmt := rfl
@[simp] theorem State.modContext_notices (s : State) (k : ContextId) (f : Context → Context) : (s.modContext k f).notices = s.notices := rfl
@[simp] theorem State.modContext_merger (s : State) (k : ContextId) (f : Context → Context) : (s.modContext k f).merger = s.merger := rfl
@[simp] theorem State.modContext_counters (s : State) (k : ContextId) (f : Context → Context) : (s.modContext k f).counters = s.counters := rfl
@[simp] theorem State.modContext_fresh (s : State) (k : ContextId) (f : Context → Context) : (s.modContext k f).fresh = s.fresh := rfl
@[simp] theorem State.modContext_pending (s : State) (k : ContextId) (f : Context → Context) : (s.modContext k f).pending = s.pending := rfl

@[simp] theorem State.setFence_uPort (s : State) (k : ContextId) (b : Bool) : (s.setFence k b).uPort = s.uPort := rfl
@[simp] theorem State.setFence_dPort (s : State) (k : ContextId) (b : Bool) : (s.setFence k b).dPort = s.dPort := rfl
@[simp] theorem State.setFence_store (s : State) (k : ContextId) (b : Bool) : (s.setFence k b).store = s.store := rfl
@[simp] theorem State.setFence_conditioner (s : State) (k : ContextId) (b : Bool) : (s.setFence k b).conditioner = s.conditioner := rfl
@[simp] theorem State.setFence_loader (s : State) (k : ContextId) (b : Bool) : (s.setFence k b).loader = s.loader := rfl
@[simp] theorem State.setFence_bind (s : State) (k : ContextId) (b : Bool) : (s.setFence k b).bind = s.bind := rfl
@[simp] theorem State.setFence_mgmt (s : State) (k : ContextId) (b : Bool) : (s.setFence k b).mgmt = s.mgmt := rfl
@[simp] theorem State.setFence_notices (s : State) (k : ContextId) (b : Bool) : (s.setFence k b).notices = s.notices := rfl
@[simp] theorem State.setFence_merger (s : State) (k : ContextId) (b : Bool) : (s.setFence k b).merger = s.merger := rfl
@[simp] theorem State.setFence_counters (s : State) (k : ContextId) (b : Bool) : (s.setFence k b).counters = s.counters := rfl
@[simp] theorem State.setFence_fresh (s : State) (k : ContextId) (b : Bool) : (s.setFence k b).fresh = s.fresh := rfl
@[simp] theorem State.setFence_pending (s : State) (k : ContextId) (b : Bool) : (s.setFence k b).pending = s.pending := rfl

@[simp] theorem State.modCurve_uPort (s : State) (c : CurveId) (f : Curve → Curve) : (s.modCurve c f).uPort = s.uPort := rfl
@[simp] theorem State.modCurve_dPort (s : State) (c : CurveId) (f : Curve → Curve) : (s.modCurve c f).dPort = s.dPort := rfl
@[simp] theorem State.modCurve_table (s : State) (c : CurveId) (f : Curve → Curve) : (s.modCurve c f).table = s.table := rfl
@[simp] theorem State.modCurve_conditioner (s : State) (c : CurveId) (f : Curve → Curve) : (s.modCurve c f).conditioner = s.conditioner := rfl
@[simp] theorem State.modCurve_loader (s : State) (c : CurveId) (f : Curve → Curve) : (s.modCurve c f).loader = s.loader := rfl
@[simp] theorem State.modCurve_bind (s : State) (c : CurveId) (f : Curve → Curve) : (s.modCurve c f).bind = s.bind := rfl
@[simp] theorem State.modCurve_mgmt (s : State) (c : CurveId) (f : Curve → Curve) : (s.modCurve c f).mgmt = s.mgmt := rfl
@[simp] theorem State.modCurve_notices (s : State) (c : CurveId) (f : Curve → Curve) : (s.modCurve c f).notices = s.notices := rfl
@[simp] theorem State.modCurve_merger (s : State) (c : CurveId) (f : Curve → Curve) : (s.modCurve c f).merger = s.merger := rfl
@[simp] theorem State.modCurve_counters (s : State) (c : CurveId) (f : Curve → Curve) : (s.modCurve c f).counters = s.counters := rfl
@[simp] theorem State.modCurve_fresh (s : State) (c : CurveId) (f : Curve → Curve) : (s.modCurve c f).fresh = s.fresh := rfl
@[simp] theorem State.modCurve_pending (s : State) (c : CurveId) (f : Curve → Curve) : (s.modCurve c f).pending = s.pending := rfl

@[simp] theorem State.pin_uPort (s : State) (c : CurveId) : (s.pin c).uPort = s.uPort := rfl
@[simp] theorem State.pin_dPort (s : State) (c : CurveId) : (s.pin c).dPort = s.dPort := rfl
@[simp] theorem State.pin_table (s : State) (c : CurveId) : (s.pin c).table = s.table := rfl
@[simp] theorem State.pin_conditioner (s : State) (c : CurveId) : (s.pin c).conditioner = s.conditioner := rfl
@[simp] theorem State.pin_loader (s : State) (c : CurveId) : (s.pin c).loader = s.loader := rfl
@[simp] theorem State.pin_bind (s : State) (c : CurveId) : (s.pin c).bind = s.bind := rfl
@[simp] theorem State.pin_mgmt (s : State) (c : CurveId) : (s.pin c).mgmt = s.mgmt := rfl
@[simp] theorem State.pin_notices (s : State) (c : CurveId) : (s.pin c).notices = s.notices := rfl
@[simp] theorem State.pin_merger (s : State) (c : CurveId) : (s.pin c).merger = s.merger := rfl
@[simp] theorem State.pin_counters (s : State) (c : CurveId) : (s.pin c).counters = s.counters := rfl
@[simp] theorem State.pin_fresh (s : State) (c : CurveId) : (s.pin c).fresh = s.fresh := rfl
@[simp] theorem State.pin_pending (s : State) (c : CurveId) : (s.pin c).pending = s.pending := rfl

@[simp] theorem State.countNode_uPort (s : State) (f : NodeCounters → NodeCounters) : (s.countNode f).uPort = s.uPort := rfl
@[simp] theorem State.countNode_dPort (s : State) (f : NodeCounters → NodeCounters) : (s.countNode f).dPort = s.dPort := rfl
@[simp] theorem State.countNode_table (s : State) (f : NodeCounters → NodeCounters) : (s.countNode f).table = s.table := rfl
@[simp] theorem State.countNode_store (s : State) (f : NodeCounters → NodeCounters) : (s.countNode f).store = s.store := rfl
@[simp] theorem State.countNode_conditioner (s : State) (f : NodeCounters → NodeCounters) : (s.countNode f).conditioner = s.conditioner := rfl
@[simp] theorem State.countNode_loader (s : State) (f : NodeCounters → NodeCounters) : (s.countNode f).loader = s.loader := rfl
@[simp] theorem State.countNode_bind (s : State) (f : NodeCounters → NodeCounters) : (s.countNode f).bind = s.bind := rfl
@[simp] theorem State.countNode_mgmt (s : State) (f : NodeCounters → NodeCounters) : (s.countNode f).mgmt = s.mgmt := rfl
@[simp] theorem State.countNode_notices (s : State) (f : NodeCounters → NodeCounters) : (s.countNode f).notices = s.notices := rfl
@[simp] theorem State.countNode_merger (s : State) (f : NodeCounters → NodeCounters) : (s.countNode f).merger = s.merger := rfl
@[simp] theorem State.countNode_fresh (s : State) (f : NodeCounters → NodeCounters) : (s.countNode f).fresh = s.fresh := rfl
@[simp] theorem State.countNode_pending (s : State) (f : NodeCounters → NodeCounters) : (s.countNode f).pending = s.pending := rfl

@[simp] theorem State.countContext_uPort (s : State) (k : ContextId) (f : ContextCounters → ContextCounters) : (s.countContext k f).uPort = s.uPort := rfl
@[simp] theorem State.countContext_dPort (s : State) (k : ContextId) (f : ContextCounters → ContextCounters) : (s.countContext k f).dPort = s.dPort := rfl
@[simp] theorem State.countContext_table (s : State) (k : ContextId) (f : ContextCounters → ContextCounters) : (s.countContext k f).table = s.table := rfl
@[simp] theorem State.countContext_store (s : State) (k : ContextId) (f : ContextCounters → ContextCounters) : (s.countContext k f).store = s.store := rfl
@[simp] theorem State.countContext_conditioner (s : State) (k : ContextId) (f : ContextCounters → ContextCounters) : (s.countContext k f).conditioner = s.conditioner := rfl
@[simp] theorem State.countContext_loader (s : State) (k : ContextId) (f : ContextCounters → ContextCounters) : (s.countContext k f).loader = s.loader := rfl
@[simp] theorem State.countContext_bind (s : State) (k : ContextId) (f : ContextCounters → ContextCounters) : (s.countContext k f).bind = s.bind := rfl
@[simp] theorem State.countContext_mgmt (s : State) (k : ContextId) (f : ContextCounters → ContextCounters) : (s.countContext k f).mgmt = s.mgmt := rfl
@[simp] theorem State.countContext_notices (s : State) (k : ContextId) (f : ContextCounters → ContextCounters) : (s.countContext k f).notices = s.notices := rfl
@[simp] theorem State.countContext_merger (s : State) (k : ContextId) (f : ContextCounters → ContextCounters) : (s.countContext k f).merger = s.merger := rfl
@[simp] theorem State.countContext_fresh (s : State) (k : ContextId) (f : ContextCounters → ContextCounters) : (s.countContext k f).fresh = s.fresh := rfl
@[simp] theorem State.countContext_pending (s : State) (k : ContextId) (f : ContextCounters → ContextCounters) : (s.countContext k f).pending = s.pending := rfl

@[simp] theorem State.countDiscard_uPort (s : State) (k : ContextId) (n : Nat) : (s.countDiscard k n).uPort = s.uPort := rfl
@[simp] theorem State.countDiscard_dPort (s : State) (k : ContextId) (n : Nat) : (s.countDiscard k n).dPort = s.dPort := rfl
@[simp] theorem State.countDiscard_table (s : State) (k : ContextId) (n : Nat) : (s.countDiscard k n).table = s.table := rfl
@[simp] theorem State.countDiscard_store (s : State) (k : ContextId) (n : Nat) : (s.countDiscard k n).store = s.store := rfl
@[simp] theorem State.countDiscard_conditioner (s : State) (k : ContextId) (n : Nat) : (s.countDiscard k n).conditioner = s.conditioner := rfl
@[simp] theorem State.countDiscard_loader (s : State) (k : ContextId) (n : Nat) : (s.countDiscard k n).loader = s.loader := rfl
@[simp] theorem State.countDiscard_bind (s : State) (k : ContextId) (n : Nat) : (s.countDiscard k n).bind = s.bind := rfl
@[simp] theorem State.countDiscard_mgmt (s : State) (k : ContextId) (n : Nat) : (s.countDiscard k n).mgmt = s.mgmt := rfl
@[simp] theorem State.countDiscard_notices (s : State) (k : ContextId) (n : Nat) : (s.countDiscard k n).notices = s.notices := rfl
@[simp] theorem State.countDiscard_merger (s : State) (k : ContextId) (n : Nat) : (s.countDiscard k n).merger = s.merger := rfl
@[simp] theorem State.countDiscard_fresh (s : State) (k : ContextId) (n : Nat) : (s.countDiscard k n).fresh = s.fresh := rfl
@[simp] theorem State.countDiscard_pending (s : State) (k : ContextId) (n : Nat) : (s.countDiscard k n).pending = s.pending := rfl

@[simp] theorem State.countPort_uPort (s : State) (p : Port) (f : PortCounters → PortCounters) : (s.countPort p f).uPort = s.uPort := by cases p <;> rfl
@[simp] theorem State.countPort_dPort (s : State) (p : Port) (f : PortCounters → PortCounters) : (s.countPort p f).dPort = s.dPort := by cases p <;> rfl
@[simp] theorem State.countPort_table (s : State) (p : Port) (f : PortCounters → PortCounters) : (s.countPort p f).table = s.table := by cases p <;> rfl
@[simp] theorem State.countPort_store (s : State) (p : Port) (f : PortCounters → PortCounters) : (s.countPort p f).store = s.store := by cases p <;> rfl
@[simp] theorem State.countPort_conditioner (s : State) (p : Port) (f : PortCounters → PortCounters) : (s.countPort p f).conditioner = s.conditioner := by cases p <;> rfl
@[simp] theorem State.countPort_loader (s : State) (p : Port) (f : PortCounters → PortCounters) : (s.countPort p f).loader = s.loader := by cases p <;> rfl
@[simp] theorem State.countPort_bind (s : State) (p : Port) (f : PortCounters → PortCounters) : (s.countPort p f).bind = s.bind := by cases p <;> rfl
@[simp] theorem State.countPort_mgmt (s : State) (p : Port) (f : PortCounters → PortCounters) : (s.countPort p f).mgmt = s.mgmt := by cases p <;> rfl
@[simp] theorem State.countPort_notices (s : State) (p : Port) (f : PortCounters → PortCounters) : (s.countPort p f).notices = s.notices := by cases p <;> rfl
@[simp] theorem State.countPort_merger (s : State) (p : Port) (f : PortCounters → PortCounters) : (s.countPort p f).merger = s.merger := by cases p <;> rfl
@[simp] theorem State.countPort_fresh (s : State) (p : Port) (f : PortCounters → PortCounters) : (s.countPort p f).fresh = s.fresh := by cases p <;> rfl
@[simp] theorem State.countPort_pending (s : State) (p : Port) (f : PortCounters → PortCounters) : (s.countPort p f).pending = s.pending := by cases p <;> rfl

@[simp] theorem State.setPort_table (s : State) (p : Port) (x : LinkPort) : (s.setPort p x).table = s.table := by cases p <;> rfl
@[simp] theorem State.setPort_store (s : State) (p : Port) (x : LinkPort) : (s.setPort p x).store = s.store := by cases p <;> rfl
@[simp] theorem State.setPort_conditioner (s : State) (p : Port) (x : LinkPort) : (s.setPort p x).conditioner = s.conditioner := by cases p <;> rfl
@[simp] theorem State.setPort_loader (s : State) (p : Port) (x : LinkPort) : (s.setPort p x).loader = s.loader := by cases p <;> rfl
@[simp] theorem State.setPort_bind (s : State) (p : Port) (x : LinkPort) : (s.setPort p x).bind = s.bind := by cases p <;> rfl
@[simp] theorem State.setPort_mgmt (s : State) (p : Port) (x : LinkPort) : (s.setPort p x).mgmt = s.mgmt := by cases p <;> rfl
@[simp] theorem State.setPort_notices (s : State) (p : Port) (x : LinkPort) : (s.setPort p x).notices = s.notices := by cases p <;> rfl
@[simp] theorem State.setPort_merger (s : State) (p : Port) (x : LinkPort) : (s.setPort p x).merger = s.merger := by cases p <;> rfl
@[simp] theorem State.setPort_counters (s : State) (p : Port) (x : LinkPort) : (s.setPort p x).counters = s.counters := by cases p <;> rfl
@[simp] theorem State.setPort_fresh (s : State) (p : Port) (x : LinkPort) : (s.setPort p x).fresh = s.fresh := by cases p <;> rfl
@[simp] theorem State.setPort_pending (s : State) (p : Port) (x : LinkPort) : (s.setPort p x).pending = s.pending := by cases p <;> rfl

@[simp] theorem State.raise_uPort (s : State) (kind : NoticeKind) (subject : Byte) (fields : List Byte) : (s.raise kind subject fields).uPort = s.uPort := rfl
@[simp] theorem State.raise_dPort (s : State) (kind : NoticeKind) (subject : Byte) (fields : List Byte) : (s.raise kind subject fields).dPort = s.dPort := rfl
@[simp] theorem State.raise_table (s : State) (kind : NoticeKind) (subject : Byte) (fields : List Byte) : (s.raise kind subject fields).table = s.table := rfl
@[simp] theorem State.raise_store (s : State) (kind : NoticeKind) (subject : Byte) (fields : List Byte) : (s.raise kind subject fields).store = s.store := rfl
@[simp] theorem State.raise_conditioner (s : State) (kind : NoticeKind) (subject : Byte) (fields : List Byte) : (s.raise kind subject fields).conditioner = s.conditioner := rfl
@[simp] theorem State.raise_loader (s : State) (kind : NoticeKind) (subject : Byte) (fields : List Byte) : (s.raise kind subject fields).loader = s.loader := rfl
@[simp] theorem State.raise_bind (s : State) (kind : NoticeKind) (subject : Byte) (fields : List Byte) : (s.raise kind subject fields).bind = s.bind := rfl
@[simp] theorem State.raise_mgmt (s : State) (kind : NoticeKind) (subject : Byte) (fields : List Byte) : (s.raise kind subject fields).mgmt = s.mgmt := rfl
@[simp] theorem State.raise_merger (s : State) (kind : NoticeKind) (subject : Byte) (fields : List Byte) : (s.raise kind subject fields).merger = s.merger := rfl
@[simp] theorem State.raise_fresh (s : State) (kind : NoticeKind) (subject : Byte) (fields : List Byte) : (s.raise kind subject fields).fresh = s.fresh := rfl
@[simp] theorem State.raise_pending (s : State) (kind : NoticeKind) (subject : Byte) (fields : List Byte) : (s.raise kind subject fields).pending = s.pending := rfl

@[simp] theorem State.raiseLink_uPort (s : State) (p : Port) (l : LinkState) : (s.raiseLink p l).uPort = s.uPort := rfl
@[simp] theorem State.raiseLink_dPort (s : State) (p : Port) (l : LinkState) : (s.raiseLink p l).dPort = s.dPort := rfl
@[simp] theorem State.raiseLink_table (s : State) (p : Port) (l : LinkState) : (s.raiseLink p l).table = s.table := rfl
@[simp] theorem State.raiseLink_store (s : State) (p : Port) (l : LinkState) : (s.raiseLink p l).store = s.store := rfl
@[simp] theorem State.raiseLink_conditioner (s : State) (p : Port) (l : LinkState) : (s.raiseLink p l).conditioner = s.conditioner := rfl
@[simp] theorem State.raiseLink_loader (s : State) (p : Port) (l : LinkState) : (s.raiseLink p l).loader = s.loader := rfl
@[simp] theorem State.raiseLink_bind (s : State) (p : Port) (l : LinkState) : (s.raiseLink p l).bind = s.bind := rfl
@[simp] theorem State.raiseLink_mgmt (s : State) (p : Port) (l : LinkState) : (s.raiseLink p l).mgmt = s.mgmt := rfl
@[simp] theorem State.raiseLink_merger (s : State) (p : Port) (l : LinkState) : (s.raiseLink p l).merger = s.merger := rfl
@[simp] theorem State.raiseLink_fresh (s : State) (p : Port) (l : LinkState) : (s.raiseLink p l).fresh = s.fresh := rfl
@[simp] theorem State.raiseLink_pending (s : State) (p : Port) (l : LinkState) : (s.raiseLink p l).pending = s.pending := rfl

@[simp] theorem State.begun_uPort (s : State) (f : Frame) : (s.begun f).uPort = s.uPort := rfl
@[simp] theorem State.begun_dPort (s : State) (f : Frame) : (s.begun f).dPort = s.dPort := rfl
@[simp] theorem State.begun_table (s : State) (f : Frame) : (s.begun f).table = s.table := rfl
@[simp] theorem State.begun_store (s : State) (f : Frame) : (s.begun f).store = s.store := rfl
@[simp] theorem State.begun_conditioner (s : State) (f : Frame) : (s.begun f).conditioner = s.conditioner := rfl
@[simp] theorem State.begun_loader (s : State) (f : Frame) : (s.begun f).loader = s.loader := rfl
@[simp] theorem State.begun_bind (s : State) (f : Frame) : (s.begun f).bind = s.bind := rfl
@[simp] theorem State.begun_notices (s : State) (f : Frame) : (s.begun f).notices = s.notices := rfl
@[simp] theorem State.begun_merger (s : State) (f : Frame) : (s.begun f).merger = s.merger := rfl
@[simp] theorem State.begun_counters (s : State) (f : Frame) : (s.begun f).counters = s.counters := rfl
@[simp] theorem State.begun_fresh (s : State) (f : Frame) : (s.begun f).fresh = s.fresh := rfl
@[simp] theorem State.begun_pending (s : State) (f : Frame) : (s.begun f).pending = s.pending := rfl

@[simp] theorem State.respond_uPort (s : State) (f : Frame) (st : Status) (p : List Byte) : (s.respond f st p).uPort = s.uPort := rfl
@[simp] theorem State.respond_dPort (s : State) (f : Frame) (st : Status) (p : List Byte) : (s.respond f st p).dPort = s.dPort := rfl
@[simp] theorem State.respond_table (s : State) (f : Frame) (st : Status) (p : List Byte) : (s.respond f st p).table = s.table := rfl
@[simp] theorem State.respond_store (s : State) (f : Frame) (st : Status) (p : List Byte) : (s.respond f st p).store = s.store := rfl
@[simp] theorem State.respond_conditioner (s : State) (f : Frame) (st : Status) (p : List Byte) : (s.respond f st p).conditioner = s.conditioner := rfl
@[simp] theorem State.respond_loader (s : State) (f : Frame) (st : Status) (p : List Byte) : (s.respond f st p).loader = s.loader := rfl
@[simp] theorem State.respond_bind (s : State) (f : Frame) (st : Status) (p : List Byte) : (s.respond f st p).bind = s.bind := rfl
@[simp] theorem State.respond_notices (s : State) (f : Frame) (st : Status) (p : List Byte) : (s.respond f st p).notices = s.notices := rfl
@[simp] theorem State.respond_merger (s : State) (f : Frame) (st : Status) (p : List Byte) : (s.respond f st p).merger = s.merger := rfl
@[simp] theorem State.respond_counters (s : State) (f : Frame) (st : Status) (p : List Byte) : (s.respond f st p).counters = s.counters := rfl
@[simp] theorem State.respond_fresh (s : State) (f : Frame) (st : Status) (p : List Byte) : (s.respond f st p).fresh = s.fresh := rfl
@[simp] theorem State.respond_pending (s : State) (f : Frame) (st : Status) (p : List Byte) : (s.respond f st p).pending = s.pending := rfl

@[simp] theorem State.leave_uPort (s : State) : s.leave.uPort = s.uPort := rfl
@[simp] theorem State.leave_dPort (s : State) : s.leave.dPort = s.dPort := rfl
@[simp] theorem State.leave_table (s : State) : s.leave.table = s.table := rfl
@[simp] theorem State.leave_store (s : State) : s.leave.store = s.store := rfl
@[simp] theorem State.leave_conditioner (s : State) : s.leave.conditioner = s.conditioner := rfl
@[simp] theorem State.leave_loader (s : State) : s.leave.loader = s.loader := rfl
@[simp] theorem State.leave_bind (s : State) : s.leave.bind = s.bind := rfl
@[simp] theorem State.leave_notices (s : State) : s.leave.notices = s.notices := rfl
@[simp] theorem State.leave_merger (s : State) : s.leave.merger = s.merger := rfl
@[simp] theorem State.leave_counters (s : State) : s.leave.counters = s.counters := rfl
@[simp] theorem State.leave_fresh (s : State) : s.leave.fresh = s.fresh := rfl
@[simp] theorem State.leave_pending (s : State) : s.leave.pending = s.pending := rfl

@[simp] theorem State.reclaim_uPort (s : State) (c : CurveId) : (s.reclaim c).uPort = s.uPort := rfl
@[simp] theorem State.reclaim_dPort (s : State) (c : CurveId) : (s.reclaim c).dPort = s.dPort := rfl
@[simp] theorem State.reclaim_table (s : State) (c : CurveId) : (s.reclaim c).table = s.table := rfl
@[simp] theorem State.reclaim_conditioner (s : State) (c : CurveId) : (s.reclaim c).conditioner = s.conditioner := rfl
@[simp] theorem State.reclaim_loader (s : State) (c : CurveId) : (s.reclaim c).loader = s.loader := rfl
@[simp] theorem State.reclaim_bind (s : State) (c : CurveId) : (s.reclaim c).bind = s.bind := rfl
@[simp] theorem State.reclaim_mgmt (s : State) (c : CurveId) : (s.reclaim c).mgmt = s.mgmt := rfl
@[simp] theorem State.reclaim_merger (s : State) (c : CurveId) : (s.reclaim c).merger = s.merger := rfl
@[simp] theorem State.reclaim_fresh (s : State) (c : CurveId) : (s.reclaim c).fresh = s.fresh := rfl
@[simp] theorem State.reclaim_pending (s : State) (c : CurveId) : (s.reclaim c).pending = s.pending := rfl

@[simp] theorem State.unpin_uPort (s : State) (c : CurveId) : (s.unpin c).uPort = s.uPort := by unfold State.unpin; dsimp only; split <;> rfl
@[simp] theorem State.unpin_dPort (s : State) (c : CurveId) : (s.unpin c).dPort = s.dPort := by unfold State.unpin; dsimp only; split <;> rfl
@[simp] theorem State.unpin_table (s : State) (c : CurveId) : (s.unpin c).table = s.table := by unfold State.unpin; dsimp only; split <;> rfl
@[simp] theorem State.unpin_conditioner (s : State) (c : CurveId) : (s.unpin c).conditioner = s.conditioner := by unfold State.unpin; dsimp only; split <;> rfl
@[simp] theorem State.unpin_loader (s : State) (c : CurveId) : (s.unpin c).loader = s.loader := by unfold State.unpin; dsimp only; split <;> rfl
@[simp] theorem State.unpin_bind (s : State) (c : CurveId) : (s.unpin c).bind = s.bind := by unfold State.unpin; dsimp only; split <;> rfl
@[simp] theorem State.unpin_mgmt (s : State) (c : CurveId) : (s.unpin c).mgmt = s.mgmt := by unfold State.unpin; dsimp only; split <;> rfl
@[simp] theorem State.unpin_merger (s : State) (c : CurveId) : (s.unpin c).merger = s.merger := by unfold State.unpin; dsimp only; split <;> rfl
@[simp] theorem State.unpin_fresh (s : State) (c : CurveId) : (s.unpin c).fresh = s.fresh := by unfold State.unpin; dsimp only; split <;> rfl
@[simp] theorem State.unpin_pending (s : State) (c : CurveId) : (s.unpin c).pending = s.pending := by unfold State.unpin; dsimp only; split <;> rfl

@[simp] theorem State.releaseRequest_uPort (s : State) (c : CurveId) : (s.releaseRequest c).uPort = s.uPort := by unfold State.releaseRequest; dsimp only; split <;> [split <;> rfl; rfl]
@[simp] theorem State.releaseRequest_dPort (s : State) (c : CurveId) : (s.releaseRequest c).dPort = s.dPort := by unfold State.releaseRequest; dsimp only; split <;> [split <;> rfl; rfl]
@[simp] theorem State.releaseRequest_table (s : State) (c : CurveId) : (s.releaseRequest c).table = s.table := by unfold State.releaseRequest; dsimp only; split <;> [split <;> rfl; rfl]
@[simp] theorem State.releaseRequest_conditioner (s : State) (c : CurveId) : (s.releaseRequest c).conditioner = s.conditioner := by unfold State.releaseRequest; dsimp only; split <;> [split <;> rfl; rfl]
@[simp] theorem State.releaseRequest_loader (s : State) (c : CurveId) : (s.releaseRequest c).loader = s.loader := by unfold State.releaseRequest; dsimp only; split <;> [split <;> rfl; rfl]
@[simp] theorem State.releaseRequest_bind (s : State) (c : CurveId) : (s.releaseRequest c).bind = s.bind := by unfold State.releaseRequest; dsimp only; split <;> [split <;> rfl; rfl]
@[simp] theorem State.releaseRequest_mgmt (s : State) (c : CurveId) : (s.releaseRequest c).mgmt = s.mgmt := by unfold State.releaseRequest; dsimp only; split <;> [split <;> rfl; rfl]
@[simp] theorem State.releaseRequest_merger (s : State) (c : CurveId) : (s.releaseRequest c).merger = s.merger := by unfold State.releaseRequest; dsimp only; split <;> [split <;> rfl; rfl]
@[simp] theorem State.releaseRequest_fresh (s : State) (c : CurveId) : (s.releaseRequest c).fresh = s.fresh := by unfold State.releaseRequest; dsimp only; split <;> [split <;> rfl; rfl]
@[simp] theorem State.releaseRequest_pending (s : State) (c : CurveId) : (s.releaseRequest c).pending = s.pending := by unfold State.releaseRequest; dsimp only; split <;> [split <;> rfl; rfl]

@[simp] theorem State.offerLoader_uPort (s : State) (r : Frame) : (s.offerLoader r).uPort = s.uPort := by unfold State.offerLoader; split <;> rfl
@[simp] theorem State.offerLoader_dPort (s : State) (r : Frame) : (s.offerLoader r).dPort = s.dPort := by unfold State.offerLoader; split <;> rfl
@[simp] theorem State.offerLoader_table (s : State) (r : Frame) : (s.offerLoader r).table = s.table := by unfold State.offerLoader; split <;> rfl
@[simp] theorem State.offerLoader_store (s : State) (r : Frame) : (s.offerLoader r).store = s.store := by unfold State.offerLoader; split <;> rfl
@[simp] theorem State.offerLoader_conditioner (s : State) (r : Frame) : (s.offerLoader r).conditioner = s.conditioner := by unfold State.offerLoader; split <;> rfl
@[simp] theorem State.offerLoader_bind (s : State) (r : Frame) : (s.offerLoader r).bind = s.bind := by unfold State.offerLoader; split <;> rfl
@[simp] theorem State.offerLoader_notices (s : State) (r : Frame) : (s.offerLoader r).notices = s.notices := by unfold State.offerLoader; split <;> rfl
@[simp] theorem State.offerLoader_merger (s : State) (r : Frame) : (s.offerLoader r).merger = s.merger := by unfold State.offerLoader; split <;> rfl
@[simp] theorem State.offerLoader_counters (s : State) (r : Frame) : (s.offerLoader r).counters = s.counters := by unfold State.offerLoader; split <;> rfl
@[simp] theorem State.offerLoader_fresh (s : State) (r : Frame) : (s.offerLoader r).fresh = s.fresh := by unfold State.offerLoader; split <;> rfl
@[simp] theorem State.offerLoader_pending (s : State) (r : Frame) : (s.offerLoader r).pending = s.pending := by unfold State.offerLoader; split <;> rfl

@[simp] theorem State.placePosted_uPort (s : State) : s.placePosted.uPort = s.uPort := by unfold State.placePosted; split <;> [rfl; (dsimp only; split <;> [split <;> rfl; rfl])]
@[simp] theorem State.placePosted_dPort (s : State) : s.placePosted.dPort = s.dPort := by unfold State.placePosted; split <;> [rfl; (dsimp only; split <;> [split <;> rfl; rfl])]
@[simp] theorem State.placePosted_table (s : State) : s.placePosted.table = s.table := by unfold State.placePosted; split <;> [rfl; (dsimp only; split <;> [split <;> rfl; rfl])]
@[simp] theorem State.placePosted_store (s : State) : s.placePosted.store = s.store := by unfold State.placePosted; split <;> [rfl; (dsimp only; split <;> [split <;> rfl; rfl])]
@[simp] theorem State.placePosted_conditioner (s : State) : s.placePosted.conditioner = s.conditioner := by unfold State.placePosted; split <;> [rfl; (dsimp only; split <;> [split <;> rfl; rfl])]
@[simp] theorem State.placePosted_bind (s : State) : s.placePosted.bind = s.bind := by unfold State.placePosted; split <;> [rfl; (dsimp only; split <;> [split <;> rfl; rfl])]
@[simp] theorem State.placePosted_notices (s : State) : s.placePosted.notices = s.notices := by unfold State.placePosted; split <;> [rfl; (dsimp only; split <;> [split <;> rfl; rfl])]
@[simp] theorem State.placePosted_merger (s : State) : s.placePosted.merger = s.merger := by unfold State.placePosted; split <;> [rfl; (dsimp only; split <;> [split <;> rfl; rfl])]
@[simp] theorem State.placePosted_counters (s : State) : s.placePosted.counters = s.counters := by unfold State.placePosted; split <;> [rfl; (dsimp only; split <;> [split <;> rfl; rfl])]
@[simp] theorem State.placePosted_fresh (s : State) : s.placePosted.fresh = s.fresh := by unfold State.placePosted; split <;> [rfl; (dsimp only; split <;> [split <;> rfl; rfl])]
@[simp] theorem State.placePosted_pending (s : State) : s.placePosted.pending = s.pending := by unfold State.placePosted; split <;> [rfl; (dsimp only; split <;> [split <;> rfl; rfl])]

@[simp] theorem State.applySettings_uPort (s : State) (p : ChannelSettings) : (s.applySettings p).uPort = s.uPort := rfl
@[simp] theorem State.applySettings_dPort (s : State) (p : ChannelSettings) : (s.applySettings p).dPort = s.dPort := rfl
@[simp] theorem State.applySettings_store (s : State) (p : ChannelSettings) : (s.applySettings p).store = s.store := rfl
@[simp] theorem State.applySettings_conditioner (s : State) (p : ChannelSettings) : (s.applySettings p).conditioner = s.conditioner := rfl
@[simp] theorem State.applySettings_loader (s : State) (p : ChannelSettings) : (s.applySettings p).loader = s.loader := rfl
@[simp] theorem State.applySettings_bind (s : State) (p : ChannelSettings) : (s.applySettings p).bind = s.bind := rfl
@[simp] theorem State.applySettings_mgmt (s : State) (p : ChannelSettings) : (s.applySettings p).mgmt = s.mgmt := rfl
@[simp] theorem State.applySettings_notices (s : State) (p : ChannelSettings) : (s.applySettings p).notices = s.notices := rfl
@[simp] theorem State.applySettings_merger (s : State) (p : ChannelSettings) : (s.applySettings p).merger = s.merger := rfl
@[simp] theorem State.applySettings_fresh (s : State) (p : ChannelSettings) : (s.applySettings p).fresh = s.fresh := rfl
@[simp] theorem State.applySettings_pending (s : State) (p : ChannelSettings) : (s.applySettings p).pending = s.pending := rfl

@[simp] theorem State.applyMap_uPort (s : State) (channel : Byte) (target : Option ContextId) : (s.applyMap channel target).uPort = s.uPort := by unfold State.applyMap; cases s.table.lookup channel <;> cases target <;> rfl
@[simp] theorem State.applyMap_dPort (s : State) (channel : Byte) (target : Option ContextId) : (s.applyMap channel target).dPort = s.dPort := by unfold State.applyMap; cases s.table.lookup channel <;> cases target <;> rfl
@[simp] theorem State.applyMap_store (s : State) (channel : Byte) (target : Option ContextId) : (s.applyMap channel target).store = s.store := by unfold State.applyMap; cases s.table.lookup channel <;> cases target <;> rfl
@[simp] theorem State.applyMap_conditioner (s : State) (channel : Byte) (target : Option ContextId) : (s.applyMap channel target).conditioner = s.conditioner := by unfold State.applyMap; cases s.table.lookup channel <;> cases target <;> rfl
@[simp] theorem State.applyMap_loader (s : State) (channel : Byte) (target : Option ContextId) : (s.applyMap channel target).loader = s.loader := by unfold State.applyMap; cases s.table.lookup channel <;> cases target <;> rfl
@[simp] theorem State.applyMap_bind (s : State) (channel : Byte) (target : Option ContextId) : (s.applyMap channel target).bind = s.bind := by unfold State.applyMap; cases s.table.lookup channel <;> cases target <;> rfl
@[simp] theorem State.applyMap_mgmt (s : State) (channel : Byte) (target : Option ContextId) : (s.applyMap channel target).mgmt = s.mgmt := by unfold State.applyMap; cases s.table.lookup channel <;> cases target <;> rfl
@[simp] theorem State.applyMap_notices (s : State) (channel : Byte) (target : Option ContextId) : (s.applyMap channel target).notices = s.notices := by unfold State.applyMap; cases s.table.lookup channel <;> cases target <;> rfl
@[simp] theorem State.applyMap_merger (s : State) (channel : Byte) (target : Option ContextId) : (s.applyMap channel target).merger = s.merger := by unfold State.applyMap; cases s.table.lookup channel <;> cases target <;> rfl
@[simp] theorem State.applyMap_fresh (s : State) (channel : Byte) (target : Option ContextId) : (s.applyMap channel target).fresh = s.fresh := by unfold State.applyMap; cases s.table.lookup channel <;> cases target <;> rfl
@[simp] theorem State.applyMap_pending (s : State) (channel : Byte) (target : Option ContextId) : (s.applyMap channel target).pending = s.pending := by unfold State.applyMap; cases s.table.lookup channel <;> cases target <;> rfl

@[simp] theorem State.finishSettings_uPort (s : State) (f : Frame) (p : ChannelSettings) : (s.finishSettings f p).uPort = s.uPort := rfl
@[simp] theorem State.finishSettings_dPort (s : State) (f : Frame) (p : ChannelSettings) : (s.finishSettings f p).dPort = s.dPort := rfl
@[simp] theorem State.finishSettings_store (s : State) (f : Frame) (p : ChannelSettings) : (s.finishSettings f p).store = s.store := rfl
@[simp] theorem State.finishSettings_conditioner (s : State) (f : Frame) (p : ChannelSettings) : (s.finishSettings f p).conditioner = s.conditioner := rfl
@[simp] theorem State.finishSettings_loader (s : State) (f : Frame) (p : ChannelSettings) : (s.finishSettings f p).loader = s.loader := rfl
@[simp] theorem State.finishSettings_bind (s : State) (f : Frame) (p : ChannelSettings) : (s.finishSettings f p).bind = s.bind := rfl
@[simp] theorem State.finishSettings_notices (s : State) (f : Frame) (p : ChannelSettings) : (s.finishSettings f p).notices = s.notices := rfl
@[simp] theorem State.finishSettings_merger (s : State) (f : Frame) (p : ChannelSettings) : (s.finishSettings f p).merger = s.merger := rfl
@[simp] theorem State.finishSettings_fresh (s : State) (f : Frame) (p : ChannelSettings) : (s.finishSettings f p).fresh = s.fresh := rfl
@[simp] theorem State.finishSettings_pending (s : State) (f : Frame) (p : ChannelSettings) : (s.finishSettings f p).pending = s.pending := rfl

@[simp] theorem State.finishMap_uPort (s : State) (f : Frame) (channel : Byte) (target : Option ContextId) : (s.finishMap f channel target).uPort = s.uPort := by simp [State.finishMap]
@[simp] theorem State.finishMap_dPort (s : State) (f : Frame) (channel : Byte) (target : Option ContextId) : (s.finishMap f channel target).dPort = s.dPort := by simp [State.finishMap]
@[simp] theorem State.finishMap_store (s : State) (f : Frame) (channel : Byte) (target : Option ContextId) : (s.finishMap f channel target).store = s.store := by simp [State.finishMap]
@[simp] theorem State.finishMap_conditioner (s : State) (f : Frame) (channel : Byte) (target : Option ContextId) : (s.finishMap f channel target).conditioner = s.conditioner := by simp [State.finishMap]
@[simp] theorem State.finishMap_loader (s : State) (f : Frame) (channel : Byte) (target : Option ContextId) : (s.finishMap f channel target).loader = s.loader := by simp [State.finishMap]
@[simp] theorem State.finishMap_bind (s : State) (f : Frame) (channel : Byte) (target : Option ContextId) : (s.finishMap f channel target).bind = s.bind := by simp [State.finishMap]
@[simp] theorem State.finishMap_notices (s : State) (f : Frame) (channel : Byte) (target : Option ContextId) : (s.finishMap f channel target).notices = s.notices := by simp [State.finishMap]
@[simp] theorem State.finishMap_merger (s : State) (f : Frame) (channel : Byte) (target : Option ContextId) : (s.finishMap f channel target).merger = s.merger := by simp [State.finishMap]
@[simp] theorem State.finishMap_fresh (s : State) (f : Frame) (channel : Byte) (target : Option ContextId) : (s.finishMap f channel target).fresh = s.fresh := by simp [State.finishMap]
@[simp] theorem State.finishMap_pending (s : State) (f : Frame) (channel : Byte) (target : Option ContextId) : (s.finishMap f channel target).pending = s.pending := by simp [State.finishMap]

@[simp] theorem State.finishFenced_uPort (s : State) (f : Frame) : (s.finishFenced f).uPort = s.uPort := by unfold State.finishFenced; split <;> [split <;> [split <;> simp; simp]; split <;> simp]
@[simp] theorem State.finishFenced_dPort (s : State) (f : Frame) : (s.finishFenced f).dPort = s.dPort := by unfold State.finishFenced; split <;> [split <;> [split <;> simp; simp]; split <;> simp]
@[simp] theorem State.finishFenced_store (s : State) (f : Frame) : (s.finishFenced f).store = s.store := by unfold State.finishFenced; split <;> [split <;> [split <;> simp; simp]; split <;> simp]
@[simp] theorem State.finishFenced_conditioner (s : State) (f : Frame) : (s.finishFenced f).conditioner = s.conditioner := by unfold State.finishFenced; split <;> [split <;> [split <;> simp; simp]; split <;> simp]
@[simp] theorem State.finishFenced_loader (s : State) (f : Frame) : (s.finishFenced f).loader = s.loader := by unfold State.finishFenced; split <;> [split <;> [split <;> simp; simp]; split <;> simp]
@[simp] theorem State.finishFenced_bind (s : State) (f : Frame) : (s.finishFenced f).bind = s.bind := by unfold State.finishFenced; split <;> [split <;> [split <;> simp; simp]; split <;> simp]
@[simp] theorem State.finishFenced_notices (s : State) (f : Frame) : (s.finishFenced f).notices = s.notices := by unfold State.finishFenced; split <;> [split <;> [split <;> simp; simp]; split <;> simp]
@[simp] theorem State.finishFenced_merger (s : State) (f : Frame) : (s.finishFenced f).merger = s.merger := by unfold State.finishFenced; split <;> [split <;> [split <;> simp; simp]; split <;> simp]
@[simp] theorem State.finishFenced_fresh (s : State) (f : Frame) : (s.finishFenced f).fresh = s.fresh := by unfold State.finishFenced; split <;> [split <;> [split <;> simp; simp]; split <;> simp]
@[simp] theorem State.finishFenced_pending (s : State) (f : Frame) : (s.finishFenced f).pending = s.pending := by unfold State.finishFenced; split <;> [split <;> [split <;> simp; simp]; split <;> simp]

@[simp] theorem State.settleFence_uPort (s : State) : s.settleFence.uPort = s.uPort := by unfold State.settleFence; split <;> simp
@[simp] theorem State.settleFence_dPort (s : State) : s.settleFence.dPort = s.dPort := by unfold State.settleFence; split <;> simp
@[simp] theorem State.settleFence_store (s : State) : s.settleFence.store = s.store := by unfold State.settleFence; split <;> simp
@[simp] theorem State.settleFence_conditioner (s : State) : s.settleFence.conditioner = s.conditioner := by unfold State.settleFence; split <;> simp
@[simp] theorem State.settleFence_loader (s : State) : s.settleFence.loader = s.loader := by unfold State.settleFence; split <;> simp
@[simp] theorem State.settleFence_bind (s : State) : s.settleFence.bind = s.bind := by unfold State.settleFence; split <;> simp
@[simp] theorem State.settleFence_notices (s : State) : s.settleFence.notices = s.notices := by unfold State.settleFence; split <;> simp
@[simp] theorem State.settleFence_merger (s : State) : s.settleFence.merger = s.merger := by unfold State.settleFence; split <;> simp
@[simp] theorem State.settleFence_fresh (s : State) : s.settleFence.fresh = s.fresh := by unfold State.settleFence; split <;> simp
@[simp] theorem State.settleFence_pending (s : State) : s.settleFence.pending = s.pending := by unfold State.settleFence; split <;> simp

@[simp] theorem State.releaseSlot_uPort (s : State) (i : SlotId) : (s.releaseSlot i).uPort = s.uPort := by unfold State.releaseSlot; split <;> simp
@[simp] theorem State.releaseSlot_dPort (s : State) (i : SlotId) : (s.releaseSlot i).dPort = s.dPort := by unfold State.releaseSlot; split <;> simp
@[simp] theorem State.releaseSlot_loader (s : State) (i : SlotId) : (s.releaseSlot i).loader = s.loader := by unfold State.releaseSlot; split <;> simp
@[simp] theorem State.releaseSlot_bind (s : State) (i : SlotId) : (s.releaseSlot i).bind = s.bind := by unfold State.releaseSlot; split <;> simp
@[simp] theorem State.releaseSlot_merger (s : State) (i : SlotId) : (s.releaseSlot i).merger = s.merger := by unfold State.releaseSlot; split <;> simp
@[simp] theorem State.releaseSlot_fresh (s : State) (i : SlotId) : (s.releaseSlot i).fresh = s.fresh := by unfold State.releaseSlot; split <;> simp
@[simp] theorem State.releaseSlot_pending (s : State) (i : SlotId) : (s.releaseSlot i).pending = s.pending := by unfold State.releaseSlot; split <;> simp

@[simp] theorem State.enterCq_uPort (s : State) : s.enterCq.uPort = s.uPort := by unfold State.enterCq; split <;> [split <;> simp; simp]
@[simp] theorem State.enterCq_dPort (s : State) : s.enterCq.dPort = s.dPort := by unfold State.enterCq; split <;> [split <;> simp; simp]
@[simp] theorem State.enterCq_loader (s : State) : s.enterCq.loader = s.loader := by unfold State.enterCq; split <;> [split <;> simp; simp]
@[simp] theorem State.enterCq_bind (s : State) : s.enterCq.bind = s.bind := by unfold State.enterCq; split <;> [split <;> simp; simp]
@[simp] theorem State.enterCq_fresh (s : State) : s.enterCq.fresh = s.fresh := by unfold State.enterCq; split <;> [split <;> simp; simp]
@[simp] theorem State.enterCq_pending (s : State) : s.enterCq.pending = s.pending := by unfold State.enterCq; split <;> [split <;> simp; simp]

@[simp] theorem State.startOn_uPort (s : State) (u : UnitId) (i : SlotId) : (s.startOn u i).uPort = s.uPort := by unfold State.startOn; split <;> rfl
@[simp] theorem State.startOn_dPort (s : State) (u : UnitId) (i : SlotId) : (s.startOn u i).dPort = s.dPort := by unfold State.startOn; split <;> rfl
@[simp] theorem State.startOn_table (s : State) (u : UnitId) (i : SlotId) : (s.startOn u i).table = s.table := by unfold State.startOn; split <;> rfl
@[simp] theorem State.startOn_store (s : State) (u : UnitId) (i : SlotId) : (s.startOn u i).store = s.store := by unfold State.startOn; split <;> rfl
@[simp] theorem State.startOn_loader (s : State) (u : UnitId) (i : SlotId) : (s.startOn u i).loader = s.loader := by unfold State.startOn; split <;> rfl
@[simp] theorem State.startOn_bind (s : State) (u : UnitId) (i : SlotId) : (s.startOn u i).bind = s.bind := by unfold State.startOn; split <;> rfl
@[simp] theorem State.startOn_mgmt (s : State) (u : UnitId) (i : SlotId) : (s.startOn u i).mgmt = s.mgmt := by unfold State.startOn; split <;> rfl
@[simp] theorem State.startOn_notices (s : State) (u : UnitId) (i : SlotId) : (s.startOn u i).notices = s.notices := by unfold State.startOn; split <;> rfl
@[simp] theorem State.startOn_merger (s : State) (u : UnitId) (i : SlotId) : (s.startOn u i).merger = s.merger := by unfold State.startOn; split <;> rfl
@[simp] theorem State.startOn_counters (s : State) (u : UnitId) (i : SlotId) : (s.startOn u i).counters = s.counters := by unfold State.startOn; split <;> rfl
@[simp] theorem State.startOn_fresh (s : State) (u : UnitId) (i : SlotId) : (s.startOn u i).fresh = s.fresh := by unfold State.startOn; split <;> rfl
@[simp] theorem State.startOn_pending (s : State) (u : UnitId) (i : SlotId) : (s.startOn u i).pending = s.pending := by unfold State.startOn; split <;> rfl

@[simp] theorem State.startOne_uPort (s : State) : s.startOne.uPort = s.uPort := by unfold State.startOne; split <;> simp
@[simp] theorem State.startOne_dPort (s : State) : s.startOne.dPort = s.dPort := by unfold State.startOne; split <;> simp
@[simp] theorem State.startOne_table (s : State) : s.startOne.table = s.table := by unfold State.startOne; split <;> simp
@[simp] theorem State.startOne_store (s : State) : s.startOne.store = s.store := by unfold State.startOne; split <;> simp
@[simp] theorem State.startOne_loader (s : State) : s.startOne.loader = s.loader := by unfold State.startOne; split <;> simp
@[simp] theorem State.startOne_bind (s : State) : s.startOne.bind = s.bind := by unfold State.startOne; split <;> simp
@[simp] theorem State.startOne_mgmt (s : State) : s.startOne.mgmt = s.mgmt := by unfold State.startOne; split <;> simp
@[simp] theorem State.startOne_notices (s : State) : s.startOne.notices = s.notices := by unfold State.startOne; split <;> simp
@[simp] theorem State.startOne_merger (s : State) : s.startOne.merger = s.merger := by unfold State.startOne; split <;> simp
@[simp] theorem State.startOne_counters (s : State) : s.startOne.counters = s.counters := by unfold State.startOne; split <;> simp
@[simp] theorem State.startOne_fresh (s : State) : s.startOne.fresh = s.fresh := by unfold State.startOne; split <;> simp
@[simp] theorem State.startOne_pending (s : State) : s.startOne.pending = s.pending := by unfold State.startOne; split <;> simp

@[simp] theorem State.startConversions_uPort (s : State) : s.startConversions.uPort = s.uPort := by simp [State.startConversions]
@[simp] theorem State.startConversions_dPort (s : State) : s.startConversions.dPort = s.dPort := by simp [State.startConversions]
@[simp] theorem State.startConversions_table (s : State) : s.startConversions.table = s.table := by simp [State.startConversions]
@[simp] theorem State.startConversions_store (s : State) : s.startConversions.store = s.store := by simp [State.startConversions]
@[simp] theorem State.startConversions_loader (s : State) : s.startConversions.loader = s.loader := by simp [State.startConversions]
@[simp] theorem State.startConversions_bind (s : State) : s.startConversions.bind = s.bind := by simp [State.startConversions]
@[simp] theorem State.startConversions_mgmt (s : State) : s.startConversions.mgmt = s.mgmt := by simp [State.startConversions]
@[simp] theorem State.startConversions_notices (s : State) : s.startConversions.notices = s.notices := by simp [State.startConversions]
@[simp] theorem State.startConversions_merger (s : State) : s.startConversions.merger = s.merger := by simp [State.startConversions]
@[simp] theorem State.startConversions_counters (s : State) : s.startConversions.counters = s.counters := by simp [State.startConversions]
@[simp] theorem State.startConversions_fresh (s : State) : s.startConversions.fresh = s.fresh := by simp [State.startConversions]
@[simp] theorem State.startConversions_pending (s : State) : s.startConversions.pending = s.pending := by simp [State.startConversions]

@[simp] theorem State.idleUnit_uPort (s : State) (u : UnitId) : (s.idleUnit u).uPort = s.uPort := rfl
@[simp] theorem State.idleUnit_dPort (s : State) (u : UnitId) : (s.idleUnit u).dPort = s.dPort := rfl
@[simp] theorem State.idleUnit_table (s : State) (u : UnitId) : (s.idleUnit u).table = s.table := rfl
@[simp] theorem State.idleUnit_store (s : State) (u : UnitId) : (s.idleUnit u).store = s.store := rfl
@[simp] theorem State.idleUnit_loader (s : State) (u : UnitId) : (s.idleUnit u).loader = s.loader := rfl
@[simp] theorem State.idleUnit_bind (s : State) (u : UnitId) : (s.idleUnit u).bind = s.bind := rfl
@[simp] theorem State.idleUnit_mgmt (s : State) (u : UnitId) : (s.idleUnit u).mgmt = s.mgmt := rfl
@[simp] theorem State.idleUnit_notices (s : State) (u : UnitId) : (s.idleUnit u).notices = s.notices := rfl
@[simp] theorem State.idleUnit_merger (s : State) (u : UnitId) : (s.idleUnit u).merger = s.merger := rfl
@[simp] theorem State.idleUnit_counters (s : State) (u : UnitId) : (s.idleUnit u).counters = s.counters := rfl
@[simp] theorem State.idleUnit_fresh (s : State) (u : UnitId) : (s.idleUnit u).fresh = s.fresh := rfl
@[simp] theorem State.idleUnit_pending (s : State) (u : UnitId) : (s.idleUnit u).pending = s.pending := rfl

@[simp] theorem State.countGap_uPort (s : State) (k : ContextId) (channel : Byte) (gap : Nat) : (s.countGap k channel gap).uPort = s.uPort := by unfold State.countGap; dsimp only; split <;> [rfl; split <;> rfl]
@[simp] theorem State.countGap_dPort (s : State) (k : ContextId) (channel : Byte) (gap : Nat) : (s.countGap k channel gap).dPort = s.dPort := by unfold State.countGap; dsimp only; split <;> [rfl; split <;> rfl]
@[simp] theorem State.countGap_table (s : State) (k : ContextId) (channel : Byte) (gap : Nat) : (s.countGap k channel gap).table = s.table := by unfold State.countGap; dsimp only; split <;> [rfl; split <;> rfl]
@[simp] theorem State.countGap_store (s : State) (k : ContextId) (channel : Byte) (gap : Nat) : (s.countGap k channel gap).store = s.store := by unfold State.countGap; dsimp only; split <;> [rfl; split <;> rfl]
@[simp] theorem State.countGap_conditioner (s : State) (k : ContextId) (channel : Byte) (gap : Nat) : (s.countGap k channel gap).conditioner = s.conditioner := by unfold State.countGap; dsimp only; split <;> [rfl; split <;> rfl]
@[simp] theorem State.countGap_loader (s : State) (k : ContextId) (channel : Byte) (gap : Nat) : (s.countGap k channel gap).loader = s.loader := by unfold State.countGap; dsimp only; split <;> [rfl; split <;> rfl]
@[simp] theorem State.countGap_bind (s : State) (k : ContextId) (channel : Byte) (gap : Nat) : (s.countGap k channel gap).bind = s.bind := by unfold State.countGap; dsimp only; split <;> [rfl; split <;> rfl]
@[simp] theorem State.countGap_mgmt (s : State) (k : ContextId) (channel : Byte) (gap : Nat) : (s.countGap k channel gap).mgmt = s.mgmt := by unfold State.countGap; dsimp only; split <;> [rfl; split <;> rfl]
@[simp] theorem State.countGap_merger (s : State) (k : ContextId) (channel : Byte) (gap : Nat) : (s.countGap k channel gap).merger = s.merger := by unfold State.countGap; dsimp only; split <;> [rfl; split <;> rfl]
@[simp] theorem State.countGap_fresh (s : State) (k : ContextId) (channel : Byte) (gap : Nat) : (s.countGap k channel gap).fresh = s.fresh := by unfold State.countGap; dsimp only; split <;> [rfl; split <;> rfl]
@[simp] theorem State.countGap_pending (s : State) (k : ContextId) (channel : Byte) (gap : Nat) : (s.countGap k channel gap).pending = s.pending := by unfold State.countGap; dsimp only; split <;> [rfl; split <;> rfl]

@[simp] theorem State.occupy_uPort (s : State) (k : ContextId) (i : SlotId) (c : CurveId) (f : Frame) : (s.occupy k i c f).uPort = s.uPort := rfl
@[simp] theorem State.occupy_dPort (s : State) (k : ContextId) (i : SlotId) (c : CurveId) (f : Frame) : (s.occupy k i c f).dPort = s.dPort := rfl
@[simp] theorem State.occupy_loader (s : State) (k : ContextId) (i : SlotId) (c : CurveId) (f : Frame) : (s.occupy k i c f).loader = s.loader := rfl
@[simp] theorem State.occupy_bind (s : State) (k : ContextId) (i : SlotId) (c : CurveId) (f : Frame) : (s.occupy k i c f).bind = s.bind := rfl
@[simp] theorem State.occupy_mgmt (s : State) (k : ContextId) (i : SlotId) (c : CurveId) (f : Frame) : (s.occupy k i c f).mgmt = s.mgmt := rfl
@[simp] theorem State.occupy_notices (s : State) (k : ContextId) (i : SlotId) (c : CurveId) (f : Frame) : (s.occupy k i c f).notices = s.notices := rfl
@[simp] theorem State.occupy_merger (s : State) (k : ContextId) (i : SlotId) (c : CurveId) (f : Frame) : (s.occupy k i c f).merger = s.merger := rfl
@[simp] theorem State.occupy_fresh (s : State) (k : ContextId) (i : SlotId) (c : CurveId) (f : Frame) : (s.occupy k i c f).fresh = s.fresh := rfl
@[simp] theorem State.occupy_pending (s : State) (k : ContextId) (i : SlotId) (c : CurveId) (f : Frame) : (s.occupy k i c f).pending = s.pending := rfl

@[simp] theorem State.raiseLimits_uPort (s : State) (on : Bool) (channel : Byte) (l : List Transition) : (s.raiseLimits on channel l).uPort = s.uPort := by
  unfold State.raiseLimits; split
  · induction l generalizing s with
    | nil => rfl
    | cons t l ih => rw [List.foldl_cons, ih]; rfl
  · rfl
@[simp] theorem State.raiseLimits_dPort (s : State) (on : Bool) (channel : Byte) (l : List Transition) : (s.raiseLimits on channel l).dPort = s.dPort := by
  unfold State.raiseLimits; split
  · induction l generalizing s with
    | nil => rfl
    | cons t l ih => rw [List.foldl_cons, ih]; rfl
  · rfl
@[simp] theorem State.raiseLimits_table (s : State) (on : Bool) (channel : Byte) (l : List Transition) : (s.raiseLimits on channel l).table = s.table := by
  unfold State.raiseLimits; split
  · induction l generalizing s with
    | nil => rfl
    | cons t l ih => rw [List.foldl_cons, ih]; rfl
  · rfl
@[simp] theorem State.raiseLimits_store (s : State) (on : Bool) (channel : Byte) (l : List Transition) : (s.raiseLimits on channel l).store = s.store := by
  unfold State.raiseLimits; split
  · induction l generalizing s with
    | nil => rfl
    | cons t l ih => rw [List.foldl_cons, ih]; rfl
  · rfl
@[simp] theorem State.raiseLimits_conditioner (s : State) (on : Bool) (channel : Byte) (l : List Transition) : (s.raiseLimits on channel l).conditioner = s.conditioner := by
  unfold State.raiseLimits; split
  · induction l generalizing s with
    | nil => rfl
    | cons t l ih => rw [List.foldl_cons, ih]; rfl
  · rfl
@[simp] theorem State.raiseLimits_loader (s : State) (on : Bool) (channel : Byte) (l : List Transition) : (s.raiseLimits on channel l).loader = s.loader := by
  unfold State.raiseLimits; split
  · induction l generalizing s with
    | nil => rfl
    | cons t l ih => rw [List.foldl_cons, ih]; rfl
  · rfl
@[simp] theorem State.raiseLimits_bind (s : State) (on : Bool) (channel : Byte) (l : List Transition) : (s.raiseLimits on channel l).bind = s.bind := by
  unfold State.raiseLimits; split
  · induction l generalizing s with
    | nil => rfl
    | cons t l ih => rw [List.foldl_cons, ih]; rfl
  · rfl
@[simp] theorem State.raiseLimits_mgmt (s : State) (on : Bool) (channel : Byte) (l : List Transition) : (s.raiseLimits on channel l).mgmt = s.mgmt := by
  unfold State.raiseLimits; split
  · induction l generalizing s with
    | nil => rfl
    | cons t l ih => rw [List.foldl_cons, ih]; rfl
  · rfl
@[simp] theorem State.raiseLimits_merger (s : State) (on : Bool) (channel : Byte) (l : List Transition) : (s.raiseLimits on channel l).merger = s.merger := by
  unfold State.raiseLimits; split
  · induction l generalizing s with
    | nil => rfl
    | cons t l ih => rw [List.foldl_cons, ih]; rfl
  · rfl
@[simp] theorem State.raiseLimits_fresh (s : State) (on : Bool) (channel : Byte) (l : List Transition) : (s.raiseLimits on channel l).fresh = s.fresh := by
  unfold State.raiseLimits; split
  · induction l generalizing s with
    | nil => rfl
    | cons t l ih => rw [List.foldl_cons, ih]; rfl
  · rfl
@[simp] theorem State.raiseLimits_pending (s : State) (on : Bool) (channel : Byte) (l : List Transition) : (s.raiseLimits on channel l).pending = s.pending := by
  unfold State.raiseLimits; split
  · induction l generalizing s with
    | nil => rfl
    | cons t l ih => rw [List.foldl_cons, ih]; rfl
  · rfl

@[simp] theorem State.commit_uPort (s : State) (w : WorkSlot) (r : Working) : (s.commit w r).uPort = s.uPort := by simp [State.commit]
@[simp] theorem State.commit_dPort (s : State) (w : WorkSlot) (r : Working) : (s.commit w r).dPort = s.dPort := by simp [State.commit]
@[simp] theorem State.commit_store (s : State) (w : WorkSlot) (r : Working) : (s.commit w r).store = s.store := by simp [State.commit]
@[simp] theorem State.commit_conditioner (s : State) (w : WorkSlot) (r : Working) : (s.commit w r).conditioner = s.conditioner := by simp [State.commit]
@[simp] theorem State.commit_loader (s : State) (w : WorkSlot) (r : Working) : (s.commit w r).loader = s.loader := by simp [State.commit]
@[simp] theorem State.commit_bind (s : State) (w : WorkSlot) (r : Working) : (s.commit w r).bind = s.bind := by simp [State.commit]
@[simp] theorem State.commit_mgmt (s : State) (w : WorkSlot) (r : Working) : (s.commit w r).mgmt = s.mgmt := by simp [State.commit]
@[simp] theorem State.commit_merger (s : State) (w : WorkSlot) (r : Working) : (s.commit w r).merger = s.merger := by simp [State.commit]
@[simp] theorem State.commit_fresh (s : State) (w : WorkSlot) (r : Working) : (s.commit w r).fresh = s.fresh := by simp [State.commit]
@[simp] theorem State.commit_pending (s : State) (w : WorkSlot) (r : Working) : (s.commit w r).pending = s.pending := by simp [State.commit]

@[simp] theorem State.makeReady_uPort (s : State) (i : SlotId) (w : WorkSlot) (o : List Output) : (s.makeReady i w o).uPort = s.uPort := rfl
@[simp] theorem State.makeReady_dPort (s : State) (i : SlotId) (w : WorkSlot) (o : List Output) : (s.makeReady i w o).dPort = s.dPort := rfl
@[simp] theorem State.makeReady_store (s : State) (i : SlotId) (w : WorkSlot) (o : List Output) : (s.makeReady i w o).store = s.store := rfl
@[simp] theorem State.makeReady_loader (s : State) (i : SlotId) (w : WorkSlot) (o : List Output) : (s.makeReady i w o).loader = s.loader := rfl
@[simp] theorem State.makeReady_bind (s : State) (i : SlotId) (w : WorkSlot) (o : List Output) : (s.makeReady i w o).bind = s.bind := rfl
@[simp] theorem State.makeReady_mgmt (s : State) (i : SlotId) (w : WorkSlot) (o : List Output) : (s.makeReady i w o).mgmt = s.mgmt := rfl
@[simp] theorem State.makeReady_notices (s : State) (i : SlotId) (w : WorkSlot) (o : List Output) : (s.makeReady i w o).notices = s.notices := rfl
@[simp] theorem State.makeReady_merger (s : State) (i : SlotId) (w : WorkSlot) (o : List Output) : (s.makeReady i w o).merger = s.merger := rfl
@[simp] theorem State.makeReady_fresh (s : State) (i : SlotId) (w : WorkSlot) (o : List Output) : (s.makeReady i w o).fresh = s.fresh := rfl
@[simp] theorem State.makeReady_pending (s : State) (i : SlotId) (w : WorkSlot) (o : List Output) : (s.makeReady i w o).pending = s.pending := rfl

@[simp] theorem State.settleSlot_uPort (s : State) (i : SlotId) (w : WorkSlot) (o : List Output) : (s.settleSlot i w o).uPort = s.uPort := by unfold State.settleSlot; dsimp only; split <;> [simp; (split <;> simp)]
@[simp] theorem State.settleSlot_dPort (s : State) (i : SlotId) (w : WorkSlot) (o : List Output) : (s.settleSlot i w o).dPort = s.dPort := by unfold State.settleSlot; dsimp only; split <;> [simp; (split <;> simp)]
@[simp] theorem State.settleSlot_loader (s : State) (i : SlotId) (w : WorkSlot) (o : List Output) : (s.settleSlot i w o).loader = s.loader := by unfold State.settleSlot; dsimp only; split <;> [simp; (split <;> simp)]
@[simp] theorem State.settleSlot_bind (s : State) (i : SlotId) (w : WorkSlot) (o : List Output) : (s.settleSlot i w o).bind = s.bind := by unfold State.settleSlot; dsimp only; split <;> [simp; (split <;> simp)]
@[simp] theorem State.settleSlot_fresh (s : State) (i : SlotId) (w : WorkSlot) (o : List Output) : (s.settleSlot i w o).fresh = s.fresh := by unfold State.settleSlot; dsimp only; split <;> [simp; (split <;> simp)]
@[simp] theorem State.settleSlot_pending (s : State) (i : SlotId) (w : WorkSlot) (o : List Output) : (s.settleSlot i w o).pending = s.pending := by unfold State.settleSlot; dsimp only; split <;> [simp; (split <;> simp)]

@[simp] theorem State.endConversion_uPort (s : State) (u : UnitId) : (s.endConversion u).uPort = s.uPort := by unfold State.endConversion; split <;> [split <;> simp; simp]
@[simp] theorem State.endConversion_dPort (s : State) (u : UnitId) : (s.endConversion u).dPort = s.dPort := by unfold State.endConversion; split <;> [split <;> simp; simp]
@[simp] theorem State.endConversion_loader (s : State) (u : UnitId) : (s.endConversion u).loader = s.loader := by unfold State.endConversion; split <;> [split <;> simp; simp]
@[simp] theorem State.endConversion_bind (s : State) (u : UnitId) : (s.endConversion u).bind = s.bind := by unfold State.endConversion; split <;> [split <;> simp; simp]
@[simp] theorem State.endConversion_fresh (s : State) (u : UnitId) : (s.endConversion u).fresh = s.fresh := by unfold State.endConversion; split <;> [split <;> simp; simp]
@[simp] theorem State.endConversion_pending (s : State) (u : UnitId) : (s.endConversion u).pending = s.pending := by unfold State.endConversion; split <;> [split <;> simp; simp]

@[simp] theorem State.grantUnit_uPort (s : State) (u : UnitId) : (s.grantUnit u).uPort = s.uPort := by unfold State.grantUnit; split <;> rfl
@[simp] theorem State.grantUnit_dPort (s : State) (u : UnitId) : (s.grantUnit u).dPort = s.dPort := by unfold State.grantUnit; split <;> rfl
@[simp] theorem State.grantUnit_table (s : State) (u : UnitId) : (s.grantUnit u).table = s.table := by unfold State.grantUnit; split <;> rfl
@[simp] theorem State.grantUnit_store (s : State) (u : UnitId) : (s.grantUnit u).store = s.store := by unfold State.grantUnit; split <;> rfl
@[simp] theorem State.grantUnit_loader (s : State) (u : UnitId) : (s.grantUnit u).loader = s.loader := by unfold State.grantUnit; split <;> rfl
@[simp] theorem State.grantUnit_bind (s : State) (u : UnitId) : (s.grantUnit u).bind = s.bind := by unfold State.grantUnit; split <;> rfl
@[simp] theorem State.grantUnit_mgmt (s : State) (u : UnitId) : (s.grantUnit u).mgmt = s.mgmt := by unfold State.grantUnit; split <;> rfl
@[simp] theorem State.grantUnit_notices (s : State) (u : UnitId) : (s.grantUnit u).notices = s.notices := by unfold State.grantUnit; split <;> rfl
@[simp] theorem State.grantUnit_merger (s : State) (u : UnitId) : (s.grantUnit u).merger = s.merger := by unfold State.grantUnit; split <;> rfl
@[simp] theorem State.grantUnit_counters (s : State) (u : UnitId) : (s.grantUnit u).counters = s.counters := by unfold State.grantUnit; split <;> rfl
@[simp] theorem State.grantUnit_fresh (s : State) (u : UnitId) : (s.grantUnit u).fresh = s.fresh := by unfold State.grantUnit; split <;> rfl
@[simp] theorem State.grantUnit_pending (s : State) (u : UnitId) : (s.grantUnit u).pending = s.pending := by unfold State.grantUnit; split <;> rfl

@[simp] theorem State.grantReadBack_uPort (s : State) : s.grantReadBack.uPort = s.uPort := by unfold State.grantReadBack; split <;> rfl
@[simp] theorem State.grantReadBack_dPort (s : State) : s.grantReadBack.dPort = s.dPort := by unfold State.grantReadBack; split <;> rfl
@[simp] theorem State.grantReadBack_table (s : State) : s.grantReadBack.table = s.table := by unfold State.grantReadBack; split <;> rfl
@[simp] theorem State.grantReadBack_store (s : State) : s.grantReadBack.store = s.store := by unfold State.grantReadBack; split <;> rfl
@[simp] theorem State.grantReadBack_conditioner (s : State) : s.grantReadBack.conditioner = s.conditioner := by unfold State.grantReadBack; split <;> rfl
@[simp] theorem State.grantReadBack_loader (s : State) : s.grantReadBack.loader = s.loader := by unfold State.grantReadBack; split <;> rfl
@[simp] theorem State.grantReadBack_bind (s : State) : s.grantReadBack.bind = s.bind := by unfold State.grantReadBack; split <;> rfl
@[simp] theorem State.grantReadBack_notices (s : State) : s.grantReadBack.notices = s.notices := by unfold State.grantReadBack; split <;> rfl
@[simp] theorem State.grantReadBack_merger (s : State) : s.grantReadBack.merger = s.merger := by unfold State.grantReadBack; split <;> rfl
@[simp] theorem State.grantReadBack_counters (s : State) : s.grantReadBack.counters = s.counters := by unfold State.grantReadBack; split <;> rfl
@[simp] theorem State.grantReadBack_fresh (s : State) : s.grantReadBack.fresh = s.fresh := by unfold State.grantReadBack; split <;> rfl
@[simp] theorem State.grantReadBack_pending (s : State) : s.grantReadBack.pending = s.pending := by unfold State.grantReadBack; split <;> rfl

@[simp] theorem State.grantPageWrite_uPort (s : State) : s.grantPageWrite.uPort = s.uPort := by unfold State.grantPageWrite; split <;> rfl
@[simp] theorem State.grantPageWrite_dPort (s : State) : s.grantPageWrite.dPort = s.dPort := by unfold State.grantPageWrite; split <;> rfl
@[simp] theorem State.grantPageWrite_table (s : State) : s.grantPageWrite.table = s.table := by unfold State.grantPageWrite; split <;> rfl
@[simp] theorem State.grantPageWrite_conditioner (s : State) : s.grantPageWrite.conditioner = s.conditioner := by unfold State.grantPageWrite; split <;> rfl
@[simp] theorem State.grantPageWrite_bind (s : State) : s.grantPageWrite.bind = s.bind := by unfold State.grantPageWrite; split <;> rfl
@[simp] theorem State.grantPageWrite_mgmt (s : State) : s.grantPageWrite.mgmt = s.mgmt := by unfold State.grantPageWrite; split <;> rfl
@[simp] theorem State.grantPageWrite_notices (s : State) : s.grantPageWrite.notices = s.notices := by unfold State.grantPageWrite; split <;> rfl
@[simp] theorem State.grantPageWrite_merger (s : State) : s.grantPageWrite.merger = s.merger := by unfold State.grantPageWrite; split <;> rfl
@[simp] theorem State.grantPageWrite_counters (s : State) : s.grantPageWrite.counters = s.counters := by unfold State.grantPageWrite; split <;> rfl
@[simp] theorem State.grantPageWrite_fresh (s : State) : s.grantPageWrite.fresh = s.fresh := by unfold State.grantPageWrite; split <;> rfl
@[simp] theorem State.grantPageWrite_pending (s : State) : s.grantPageWrite.pending = s.pending := by unfold State.grantPageWrite; split <;> rfl

@[simp] theorem State.access_uPort (s : State) (g : Option Grant) : (s.access g).uPort = s.uPort := by unfold State.access; split <;> simp
@[simp] theorem State.access_dPort (s : State) (g : Option Grant) : (s.access g).dPort = s.dPort := by unfold State.access; split <;> simp
@[simp] theorem State.access_table (s : State) (g : Option Grant) : (s.access g).table = s.table := by unfold State.access; split <;> simp
@[simp] theorem State.access_bind (s : State) (g : Option Grant) : (s.access g).bind = s.bind := by unfold State.access; split <;> simp
@[simp] theorem State.access_notices (s : State) (g : Option Grant) : (s.access g).notices = s.notices := by unfold State.access; split <;> simp
@[simp] theorem State.access_merger (s : State) (g : Option Grant) : (s.access g).merger = s.merger := by unfold State.access; split <;> simp
@[simp] theorem State.access_counters (s : State) (g : Option Grant) : (s.access g).counters = s.counters := by unfold State.access; split <;> simp
@[simp] theorem State.access_fresh (s : State) (g : Option Grant) : (s.access g).fresh = s.fresh := by unfold State.access; split <;> simp
@[simp] theorem State.access_pending (s : State) (g : Option Grant) : (s.access g).pending = s.pending := by unfold State.access; split <;> simp

@[simp] theorem State.grantPeriod_uPort (s : State) : s.grantPeriod.uPort = s.uPort := by simp [State.grantPeriod]
@[simp] theorem State.grantPeriod_dPort (s : State) : s.grantPeriod.dPort = s.dPort := by simp [State.grantPeriod]
@[simp] theorem State.grantPeriod_table (s : State) : s.grantPeriod.table = s.table := by simp [State.grantPeriod]
@[simp] theorem State.grantPeriod_bind (s : State) : s.grantPeriod.bind = s.bind := by simp [State.grantPeriod]
@[simp] theorem State.grantPeriod_notices (s : State) : s.grantPeriod.notices = s.notices := by simp [State.grantPeriod]
@[simp] theorem State.grantPeriod_merger (s : State) : s.grantPeriod.merger = s.merger := by simp [State.grantPeriod]
@[simp] theorem State.grantPeriod_counters (s : State) : s.grantPeriod.counters = s.counters := by simp [State.grantPeriod]
@[simp] theorem State.grantPeriod_fresh (s : State) : s.grantPeriod.fresh = s.fresh := by simp [State.grantPeriod]
@[simp] theorem State.grantPeriod_pending (s : State) : s.grantPeriod.pending = s.pending := by simp [State.grantPeriod]

@[simp] theorem State.startReadBack_uPort (s : State) (r : ReadBack) : (s.startReadBack r).uPort = s.uPort := rfl
@[simp] theorem State.startReadBack_dPort (s : State) (r : ReadBack) : (s.startReadBack r).dPort = s.dPort := rfl
@[simp] theorem State.startReadBack_table (s : State) (r : ReadBack) : (s.startReadBack r).table = s.table := rfl
@[simp] theorem State.startReadBack_store (s : State) (r : ReadBack) : (s.startReadBack r).store = s.store := rfl
@[simp] theorem State.startReadBack_conditioner (s : State) (r : ReadBack) : (s.startReadBack r).conditioner = s.conditioner := rfl
@[simp] theorem State.startReadBack_loader (s : State) (r : ReadBack) : (s.startReadBack r).loader = s.loader := rfl
@[simp] theorem State.startReadBack_bind (s : State) (r : ReadBack) : (s.startReadBack r).bind = s.bind := rfl
@[simp] theorem State.startReadBack_notices (s : State) (r : ReadBack) : (s.startReadBack r).notices = s.notices := rfl
@[simp] theorem State.startReadBack_merger (s : State) (r : ReadBack) : (s.startReadBack r).merger = s.merger := rfl
@[simp] theorem State.startReadBack_counters (s : State) (r : ReadBack) : (s.startReadBack r).counters = s.counters := rfl
@[simp] theorem State.startReadBack_fresh (s : State) (r : ReadBack) : (s.startReadBack r).fresh = s.fresh := rfl
@[simp] theorem State.startReadBack_pending (s : State) (r : ReadBack) : (s.startReadBack r).pending = s.pending := rfl

@[simp] theorem State.endReadBack_uPort (s : State) (st : Status) (p : List Byte) : (s.endReadBack st p).uPort = s.uPort := by unfold State.endReadBack; split <;> rfl
@[simp] theorem State.endReadBack_dPort (s : State) (st : Status) (p : List Byte) : (s.endReadBack st p).dPort = s.dPort := by unfold State.endReadBack; split <;> rfl
@[simp] theorem State.endReadBack_table (s : State) (st : Status) (p : List Byte) : (s.endReadBack st p).table = s.table := by unfold State.endReadBack; split <;> rfl
@[simp] theorem State.endReadBack_store (s : State) (st : Status) (p : List Byte) : (s.endReadBack st p).store = s.store := by unfold State.endReadBack; split <;> rfl
@[simp] theorem State.endReadBack_conditioner (s : State) (st : Status) (p : List Byte) : (s.endReadBack st p).conditioner = s.conditioner := by unfold State.endReadBack; split <;> rfl
@[simp] theorem State.endReadBack_loader (s : State) (st : Status) (p : List Byte) : (s.endReadBack st p).loader = s.loader := by unfold State.endReadBack; split <;> rfl
@[simp] theorem State.endReadBack_bind (s : State) (st : Status) (p : List Byte) : (s.endReadBack st p).bind = s.bind := by unfold State.endReadBack; split <;> rfl
@[simp] theorem State.endReadBack_notices (s : State) (st : Status) (p : List Byte) : (s.endReadBack st p).notices = s.notices := by unfold State.endReadBack; split <;> rfl
@[simp] theorem State.endReadBack_merger (s : State) (st : Status) (p : List Byte) : (s.endReadBack st p).merger = s.merger := by unfold State.endReadBack; split <;> rfl
@[simp] theorem State.endReadBack_counters (s : State) (st : Status) (p : List Byte) : (s.endReadBack st p).counters = s.counters := by unfold State.endReadBack; split <;> rfl
@[simp] theorem State.endReadBack_fresh (s : State) (st : Status) (p : List Byte) : (s.endReadBack st p).fresh = s.fresh := by unfold State.endReadBack; split <;> rfl
@[simp] theorem State.endReadBack_pending (s : State) (st : Status) (p : List Byte) : (s.endReadBack st p).pending = s.pending := by unfold State.endReadBack; split <;> rfl

@[simp] theorem State.deleteCurve_uPort (s : State) (c : CurveId) : (s.deleteCurve c).uPort = s.uPort := by unfold State.deleteCurve; split <;> rfl
@[simp] theorem State.deleteCurve_dPort (s : State) (c : CurveId) : (s.deleteCurve c).dPort = s.dPort := by unfold State.deleteCurve; split <;> rfl
@[simp] theorem State.deleteCurve_table (s : State) (c : CurveId) : (s.deleteCurve c).table = s.table := by unfold State.deleteCurve; split <;> rfl
@[simp] theorem State.deleteCurve_conditioner (s : State) (c : CurveId) : (s.deleteCurve c).conditioner = s.conditioner := by unfold State.deleteCurve; split <;> rfl
@[simp] theorem State.deleteCurve_loader (s : State) (c : CurveId) : (s.deleteCurve c).loader = s.loader := by unfold State.deleteCurve; split <;> rfl
@[simp] theorem State.deleteCurve_bind (s : State) (c : CurveId) : (s.deleteCurve c).bind = s.bind := by unfold State.deleteCurve; split <;> rfl
@[simp] theorem State.deleteCurve_mgmt (s : State) (c : CurveId) : (s.deleteCurve c).mgmt = s.mgmt := by unfold State.deleteCurve; split <;> rfl
@[simp] theorem State.deleteCurve_merger (s : State) (c : CurveId) : (s.deleteCurve c).merger = s.merger := by unfold State.deleteCurve; split <;> rfl
@[simp] theorem State.deleteCurve_fresh (s : State) (c : CurveId) : (s.deleteCurve c).fresh = s.fresh := by unfold State.deleteCurve; split <;> rfl
@[simp] theorem State.deleteCurve_pending (s : State) (c : CurveId) : (s.deleteCurve c).pending = s.pending := by unfold State.deleteCurve; split <;> rfl

@[simp] theorem State.renewLease_uPort (s : State) : s.renewLease.uPort = s.uPort := rfl
@[simp] theorem State.renewLease_dPort (s : State) : s.renewLease.dPort = s.dPort := rfl
@[simp] theorem State.renewLease_table (s : State) : s.renewLease.table = s.table := rfl
@[simp] theorem State.renewLease_store (s : State) : s.renewLease.store = s.store := rfl
@[simp] theorem State.renewLease_conditioner (s : State) : s.renewLease.conditioner = s.conditioner := rfl
@[simp] theorem State.renewLease_bind (s : State) : s.renewLease.bind = s.bind := rfl
@[simp] theorem State.renewLease_mgmt (s : State) : s.renewLease.mgmt = s.mgmt := rfl
@[simp] theorem State.renewLease_notices (s : State) : s.renewLease.notices = s.notices := rfl
@[simp] theorem State.renewLease_merger (s : State) : s.renewLease.merger = s.merger := rfl
@[simp] theorem State.renewLease_counters (s : State) : s.renewLease.counters = s.counters := rfl
@[simp] theorem State.renewLease_fresh (s : State) : s.renewLease.fresh = s.fresh := rfl
@[simp] theorem State.renewLease_pending (s : State) : s.renewLease.pending = s.pending := rfl

@[simp] theorem State.openLease_uPort (s : State) (o : Byte) : (s.openLease o).uPort = s.uPort := rfl
@[simp] theorem State.openLease_dPort (s : State) (o : Byte) : (s.openLease o).dPort = s.dPort := rfl
@[simp] theorem State.openLease_table (s : State) (o : Byte) : (s.openLease o).table = s.table := rfl
@[simp] theorem State.openLease_store (s : State) (o : Byte) : (s.openLease o).store = s.store := rfl
@[simp] theorem State.openLease_conditioner (s : State) (o : Byte) : (s.openLease o).conditioner = s.conditioner := rfl
@[simp] theorem State.openLease_bind (s : State) (o : Byte) : (s.openLease o).bind = s.bind := rfl
@[simp] theorem State.openLease_mgmt (s : State) (o : Byte) : (s.openLease o).mgmt = s.mgmt := rfl
@[simp] theorem State.openLease_notices (s : State) (o : Byte) : (s.openLease o).notices = s.notices := rfl
@[simp] theorem State.openLease_merger (s : State) (o : Byte) : (s.openLease o).merger = s.merger := rfl
@[simp] theorem State.openLease_counters (s : State) (o : Byte) : (s.openLease o).counters = s.counters := rfl
@[simp] theorem State.openLease_fresh (s : State) (o : Byte) : (s.openLease o).fresh = s.fresh := rfl
@[simp] theorem State.openLease_pending (s : State) (o : Byte) : (s.openLease o).pending = s.pending := rfl

@[simp] theorem State.endLease_uPort (s : State) : s.endLease.uPort = s.uPort := rfl
@[simp] theorem State.endLease_dPort (s : State) : s.endLease.dPort = s.dPort := rfl
@[simp] theorem State.endLease_table (s : State) : s.endLease.table = s.table := rfl
@[simp] theorem State.endLease_conditioner (s : State) : s.endLease.conditioner = s.conditioner := rfl
@[simp] theorem State.endLease_bind (s : State) : s.endLease.bind = s.bind := rfl
@[simp] theorem State.endLease_mgmt (s : State) : s.endLease.mgmt = s.mgmt := rfl
@[simp] theorem State.endLease_notices (s : State) : s.endLease.notices = s.notices := rfl
@[simp] theorem State.endLease_merger (s : State) : s.endLease.merger = s.merger := rfl
@[simp] theorem State.endLease_counters (s : State) : s.endLease.counters = s.counters := rfl
@[simp] theorem State.endLease_fresh (s : State) : s.endLease.fresh = s.fresh := rfl
@[simp] theorem State.endLease_pending (s : State) : s.endLease.pending = s.pending := rfl

@[simp] theorem State.startWrite_uPort (s : State) (f : Frame) (p : PageId) : (s.startWrite f p).uPort = s.uPort := rfl
@[simp] theorem State.startWrite_dPort (s : State) (f : Frame) (p : PageId) : (s.startWrite f p).dPort = s.dPort := rfl
@[simp] theorem State.startWrite_table (s : State) (f : Frame) (p : PageId) : (s.startWrite f p).table = s.table := rfl
@[simp] theorem State.startWrite_conditioner (s : State) (f : Frame) (p : PageId) : (s.startWrite f p).conditioner = s.conditioner := rfl
@[simp] theorem State.startWrite_bind (s : State) (f : Frame) (p : PageId) : (s.startWrite f p).bind = s.bind := rfl
@[simp] theorem State.startWrite_notices (s : State) (f : Frame) (p : PageId) : (s.startWrite f p).notices = s.notices := rfl
@[simp] theorem State.startWrite_merger (s : State) (f : Frame) (p : PageId) : (s.startWrite f p).merger = s.merger := rfl
@[simp] theorem State.startWrite_counters (s : State) (f : Frame) (p : PageId) : (s.startWrite f p).counters = s.counters := rfl
@[simp] theorem State.startWrite_fresh (s : State) (f : Frame) (p : PageId) : (s.startWrite f p).fresh = s.fresh := rfl
@[simp] theorem State.startWrite_pending (s : State) (f : Frame) (p : PageId) : (s.startWrite f p).pending = s.pending := rfl

@[simp] theorem State.answerWrite_uPort (s : State) (r : WriteRecord) (st : Status) : (s.answerWrite r st).uPort = s.uPort := by simp [State.answerWrite]
@[simp] theorem State.answerWrite_dPort (s : State) (r : WriteRecord) (st : Status) : (s.answerWrite r st).dPort = s.dPort := by simp [State.answerWrite]
@[simp] theorem State.answerWrite_table (s : State) (r : WriteRecord) (st : Status) : (s.answerWrite r st).table = s.table := by simp [State.answerWrite]
@[simp] theorem State.answerWrite_store (s : State) (r : WriteRecord) (st : Status) : (s.answerWrite r st).store = s.store := by simp [State.answerWrite]
@[simp] theorem State.answerWrite_conditioner (s : State) (r : WriteRecord) (st : Status) : (s.answerWrite r st).conditioner = s.conditioner := by simp [State.answerWrite]
@[simp] theorem State.answerWrite_bind (s : State) (r : WriteRecord) (st : Status) : (s.answerWrite r st).bind = s.bind := by simp [State.answerWrite]
@[simp] theorem State.answerWrite_notices (s : State) (r : WriteRecord) (st : Status) : (s.answerWrite r st).notices = s.notices := by simp [State.answerWrite]
@[simp] theorem State.answerWrite_merger (s : State) (r : WriteRecord) (st : Status) : (s.answerWrite r st).merger = s.merger := by simp [State.answerWrite]
@[simp] theorem State.answerWrite_counters (s : State) (r : WriteRecord) (st : Status) : (s.answerWrite r st).counters = s.counters := by simp [State.answerWrite]
@[simp] theorem State.answerWrite_fresh (s : State) (r : WriteRecord) (st : Status) : (s.answerWrite r st).fresh = s.fresh := by simp [State.answerWrite]
@[simp] theorem State.answerWrite_pending (s : State) (r : WriteRecord) (st : Status) : (s.answerWrite r st).pending = s.pending := by simp [State.answerWrite]

@[simp] theorem State.completeOpen_uPort (s : State) (r : WriteRecord) : (s.completeOpen r).uPort = s.uPort := by simp [State.completeOpen]
@[simp] theorem State.completeOpen_dPort (s : State) (r : WriteRecord) : (s.completeOpen r).dPort = s.dPort := by simp [State.completeOpen]
@[simp] theorem State.completeOpen_table (s : State) (r : WriteRecord) : (s.completeOpen r).table = s.table := by simp [State.completeOpen]
@[simp] theorem State.completeOpen_conditioner (s : State) (r : WriteRecord) : (s.completeOpen r).conditioner = s.conditioner := by simp [State.completeOpen]
@[simp] theorem State.completeOpen_bind (s : State) (r : WriteRecord) : (s.completeOpen r).bind = s.bind := by simp [State.completeOpen]
@[simp] theorem State.completeOpen_notices (s : State) (r : WriteRecord) : (s.completeOpen r).notices = s.notices := by simp [State.completeOpen]
@[simp] theorem State.completeOpen_merger (s : State) (r : WriteRecord) : (s.completeOpen r).merger = s.merger := by simp [State.completeOpen]
@[simp] theorem State.completeOpen_counters (s : State) (r : WriteRecord) : (s.completeOpen r).counters = s.counters := by simp [State.completeOpen]
@[simp] theorem State.completeOpen_fresh (s : State) (r : WriteRecord) : (s.completeOpen r).fresh = s.fresh := by simp [State.completeOpen]
@[simp] theorem State.completeOpen_pending (s : State) (r : WriteRecord) : (s.completeOpen r).pending = s.pending := by simp [State.completeOpen]

@[simp] theorem State.completeLost_uPort (s : State) (r : WriteRecord) : (s.completeLost r).uPort = s.uPort := by simp [State.completeLost]
@[simp] theorem State.completeLost_dPort (s : State) (r : WriteRecord) : (s.completeLost r).dPort = s.dPort := by simp [State.completeLost]
@[simp] theorem State.completeLost_table (s : State) (r : WriteRecord) : (s.completeLost r).table = s.table := by simp [State.completeLost]
@[simp] theorem State.completeLost_conditioner (s : State) (r : WriteRecord) : (s.completeLost r).conditioner = s.conditioner := by simp [State.completeLost]
@[simp] theorem State.completeLost_bind (s : State) (r : WriteRecord) : (s.completeLost r).bind = s.bind := by simp [State.completeLost]
@[simp] theorem State.completeLost_notices (s : State) (r : WriteRecord) : (s.completeLost r).notices = s.notices := by simp [State.completeLost]
@[simp] theorem State.completeLost_merger (s : State) (r : WriteRecord) : (s.completeLost r).merger = s.merger := by simp [State.completeLost]
@[simp] theorem State.completeLost_counters (s : State) (r : WriteRecord) : (s.completeLost r).counters = s.counters := by simp [State.completeLost]
@[simp] theorem State.completeLost_fresh (s : State) (r : WriteRecord) : (s.completeLost r).fresh = s.fresh := by simp [State.completeLost]
@[simp] theorem State.completeLost_pending (s : State) (r : WriteRecord) : (s.completeLost r).pending = s.pending := by simp [State.completeLost]

@[simp] theorem State.completeWrite_uPort (s : State) : s.completeWrite.uPort = s.uPort := by unfold State.completeWrite; split <;> [split <;> [split <;> simp; simp]; simp]
@[simp] theorem State.completeWrite_dPort (s : State) : s.completeWrite.dPort = s.dPort := by unfold State.completeWrite; split <;> [split <;> [split <;> simp; simp]; simp]
@[simp] theorem State.completeWrite_table (s : State) : s.completeWrite.table = s.table := by unfold State.completeWrite; split <;> [split <;> [split <;> simp; simp]; simp]
@[simp] theorem State.completeWrite_conditioner (s : State) : s.completeWrite.conditioner = s.conditioner := by unfold State.completeWrite; split <;> [split <;> [split <;> simp; simp]; simp]
@[simp] theorem State.completeWrite_bind (s : State) : s.completeWrite.bind = s.bind := by unfold State.completeWrite; split <;> [split <;> [split <;> simp; simp]; simp]
@[simp] theorem State.completeWrite_notices (s : State) : s.completeWrite.notices = s.notices := by unfold State.completeWrite; split <;> [split <;> [split <;> simp; simp]; simp]
@[simp] theorem State.completeWrite_merger (s : State) : s.completeWrite.merger = s.merger := by unfold State.completeWrite; split <;> [split <;> [split <;> simp; simp]; simp]
@[simp] theorem State.completeWrite_counters (s : State) : s.completeWrite.counters = s.counters := by unfold State.completeWrite; split <;> [split <;> [split <;> simp; simp]; simp]
@[simp] theorem State.completeWrite_fresh (s : State) : s.completeWrite.fresh = s.fresh := by unfold State.completeWrite; split <;> [split <;> [split <;> simp; simp]; simp]
@[simp] theorem State.completeWrite_pending (s : State) : s.completeWrite.pending = s.pending := by unfold State.completeWrite; split <;> [split <;> [split <;> simp; simp]; simp]

@[simp] theorem State.defineCurve_uPort (s : State) (r : ReadBack) : (s.defineCurve r).uPort = s.uPort := by simp [State.defineCurve]
@[simp] theorem State.defineCurve_dPort (s : State) (r : ReadBack) : (s.defineCurve r).dPort = s.dPort := by simp [State.defineCurve]
@[simp] theorem State.defineCurve_table (s : State) (r : ReadBack) : (s.defineCurve r).table = s.table := by simp [State.defineCurve]
@[simp] theorem State.defineCurve_conditioner (s : State) (r : ReadBack) : (s.defineCurve r).conditioner = s.conditioner := by simp [State.defineCurve]
@[simp] theorem State.defineCurve_loader (s : State) (r : ReadBack) : (s.defineCurve r).loader = s.loader := by simp [State.defineCurve]
@[simp] theorem State.defineCurve_bind (s : State) (r : ReadBack) : (s.defineCurve r).bind = s.bind := by simp [State.defineCurve]
@[simp] theorem State.defineCurve_notices (s : State) (r : ReadBack) : (s.defineCurve r).notices = s.notices := by simp [State.defineCurve]
@[simp] theorem State.defineCurve_merger (s : State) (r : ReadBack) : (s.defineCurve r).merger = s.merger := by simp [State.defineCurve]
@[simp] theorem State.defineCurve_counters (s : State) (r : ReadBack) : (s.defineCurve r).counters = s.counters := by simp [State.defineCurve]
@[simp] theorem State.defineCurve_fresh (s : State) (r : ReadBack) : (s.defineCurve r).fresh = s.fresh := by simp [State.defineCurve]
@[simp] theorem State.defineCurve_pending (s : State) (r : ReadBack) : (s.defineCurve r).pending = s.pending := by simp [State.defineCurve]

@[simp] theorem State.finishReadBack_uPort (s : State) : s.finishReadBack.uPort = s.uPort := by unfold State.finishReadBack; split <;> [split <;> [split <;> simp; simp]; simp]
@[simp] theorem State.finishReadBack_dPort (s : State) : s.finishReadBack.dPort = s.dPort := by unfold State.finishReadBack; split <;> [split <;> [split <;> simp; simp]; simp]
@[simp] theorem State.finishReadBack_table (s : State) : s.finishReadBack.table = s.table := by unfold State.finishReadBack; split <;> [split <;> [split <;> simp; simp]; simp]
@[simp] theorem State.finishReadBack_conditioner (s : State) : s.finishReadBack.conditioner = s.conditioner := by unfold State.finishReadBack; split <;> [split <;> [split <;> simp; simp]; simp]
@[simp] theorem State.finishReadBack_loader (s : State) : s.finishReadBack.loader = s.loader := by unfold State.finishReadBack; split <;> [split <;> [split <;> simp; simp]; simp]
@[simp] theorem State.finishReadBack_bind (s : State) : s.finishReadBack.bind = s.bind := by unfold State.finishReadBack; split <;> [split <;> [split <;> simp; simp]; simp]
@[simp] theorem State.finishReadBack_notices (s : State) : s.finishReadBack.notices = s.notices := by unfold State.finishReadBack; split <;> [split <;> [split <;> simp; simp]; simp]
@[simp] theorem State.finishReadBack_merger (s : State) : s.finishReadBack.merger = s.merger := by unfold State.finishReadBack; split <;> [split <;> [split <;> simp; simp]; simp]
@[simp] theorem State.finishReadBack_counters (s : State) : s.finishReadBack.counters = s.counters := by unfold State.finishReadBack; split <;> [split <;> [split <;> simp; simp]; simp]
@[simp] theorem State.finishReadBack_fresh (s : State) : s.finishReadBack.fresh = s.fresh := by unfold State.finishReadBack; split <;> [split <;> [split <;> simp; simp]; simp]
@[simp] theorem State.finishReadBack_pending (s : State) : s.finishReadBack.pending = s.pending := by unfold State.finishReadBack; split <;> [split <;> [split <;> simp; simp]; simp]

@[simp] theorem State.endDue_uPort (s : State) : s.endDue.uPort = s.uPort := by simp [State.endDue]
@[simp] theorem State.endDue_dPort (s : State) : s.endDue.dPort = s.dPort := by simp [State.endDue]
@[simp] theorem State.endDue_bind (s : State) : s.endDue.bind = s.bind := by simp [State.endDue]
@[simp] theorem State.endDue_fresh (s : State) : s.endDue.fresh = s.fresh := by simp [State.endDue]
@[simp] theorem State.endDue_pending (s : State) : s.endDue.pending = s.pending := by simp [State.endDue]

@[simp] theorem State.accessPeriod_uPort (s : State) : s.accessPeriod.uPort = s.uPort := by simp [State.accessPeriod]
@[simp] theorem State.accessPeriod_dPort (s : State) : s.accessPeriod.dPort = s.dPort := by simp [State.accessPeriod]
@[simp] theorem State.accessPeriod_bind (s : State) : s.accessPeriod.bind = s.bind := by simp [State.accessPeriod]
@[simp] theorem State.accessPeriod_fresh (s : State) : s.accessPeriod.fresh = s.fresh := by simp [State.accessPeriod]
@[simp] theorem State.accessPeriod_pending (s : State) : s.accessPeriod.pending = s.pending := by simp [State.accessPeriod]

@[simp] theorem State.passUntil_uPort (s : State) (done : State → Bool) (n : Nat) : (s.passUntil done n).uPort = s.uPort := by
  induction n generalizing s with
  | zero => rfl
  | succ n ih => unfold State.passUntil; split <;> simp [ih]
@[simp] theorem State.passUntil_dPort (s : State) (done : State → Bool) (n : Nat) : (s.passUntil done n).dPort = s.dPort := by
  induction n generalizing s with
  | zero => rfl
  | succ n ih => unfold State.passUntil; split <;> simp [ih]
@[simp] theorem State.passUntil_bind (s : State) (done : State → Bool) (n : Nat) : (s.passUntil done n).bind = s.bind := by
  induction n generalizing s with
  | zero => rfl
  | succ n ih => unfold State.passUntil; split <;> simp [ih]
@[simp] theorem State.passUntil_fresh (s : State) (done : State → Bool) (n : Nat) : (s.passUntil done n).fresh = s.fresh := by
  induction n generalizing s with
  | zero => rfl
  | succ n ih => unfold State.passUntil; split <;> simp [ih]
@[simp] theorem State.passUntil_pending (s : State) (done : State → Bool) (n : Nat) : (s.passUntil done n).pending = s.pending := by
  induction n generalizing s with
  | zero => rfl
  | succ n ih => unfold State.passUntil; split <;> simp [ih]

@[simp] theorem State.completeDefine_uPort (s : State) : s.completeDefine.uPort = s.uPort := by unfold State.completeDefine; split <;> simp
@[simp] theorem State.completeDefine_dPort (s : State) : s.completeDefine.dPort = s.dPort := by unfold State.completeDefine; split <;> simp
@[simp] theorem State.completeDefine_bind (s : State) : s.completeDefine.bind = s.bind := by unfold State.completeDefine; split <;> simp
@[simp] theorem State.completeDefine_fresh (s : State) : s.completeDefine.fresh = s.fresh := by unfold State.completeDefine; split <;> simp
@[simp] theorem State.completeDefine_pending (s : State) : s.completeDefine.pending = s.pending := by unfold State.completeDefine; split <;> simp

@[simp] theorem State.expireLease_uPort (s : State) : s.expireLease.uPort = s.uPort := by unfold State.expireLease; split <;> rfl
@[simp] theorem State.expireLease_dPort (s : State) : s.expireLease.dPort = s.dPort := by unfold State.expireLease; split <;> rfl
@[simp] theorem State.expireLease_table (s : State) : s.expireLease.table = s.table := by unfold State.expireLease; split <;> rfl
@[simp] theorem State.expireLease_conditioner (s : State) : s.expireLease.conditioner = s.conditioner := by unfold State.expireLease; split <;> rfl
@[simp] theorem State.expireLease_bind (s : State) : s.expireLease.bind = s.bind := by unfold State.expireLease; split <;> rfl
@[simp] theorem State.expireLease_mgmt (s : State) : s.expireLease.mgmt = s.mgmt := by unfold State.expireLease; split <;> rfl
@[simp] theorem State.expireLease_merger (s : State) : s.expireLease.merger = s.merger := by unfold State.expireLease; split <;> rfl
@[simp] theorem State.expireLease_fresh (s : State) : s.expireLease.fresh = s.fresh := by unfold State.expireLease; split <;> rfl
@[simp] theorem State.expireLease_pending (s : State) : s.expireLease.pending = s.pending := by unfold State.expireLease; split <;> rfl

@[simp] theorem State.countLease_uPort (s : State) : s.countLease.uPort = s.uPort := by unfold State.countLease; split <;> simp
@[simp] theorem State.countLease_dPort (s : State) : s.countLease.dPort = s.dPort := by unfold State.countLease; split <;> simp
@[simp] theorem State.countLease_table (s : State) : s.countLease.table = s.table := by unfold State.countLease; split <;> simp
@[simp] theorem State.countLease_conditioner (s : State) : s.countLease.conditioner = s.conditioner := by unfold State.countLease; split <;> simp
@[simp] theorem State.countLease_bind (s : State) : s.countLease.bind = s.bind := by unfold State.countLease; split <;> simp
@[simp] theorem State.countLease_mgmt (s : State) : s.countLease.mgmt = s.mgmt := by unfold State.countLease; split <;> simp
@[simp] theorem State.countLease_merger (s : State) : s.countLease.merger = s.merger := by unfold State.countLease; split <;> simp
@[simp] theorem State.countLease_fresh (s : State) : s.countLease.fresh = s.fresh := by unfold State.countLease; split <;> simp
@[simp] theorem State.countLease_pending (s : State) : s.countLease.pending = s.pending := by unfold State.countLease; split <;> simp

@[simp] theorem State.tickLease_uPort (s : State) : s.tickLease.uPort = s.uPort := by unfold State.tickLease; split <;> simp
@[simp] theorem State.tickLease_dPort (s : State) : s.tickLease.dPort = s.dPort := by unfold State.tickLease; split <;> simp
@[simp] theorem State.tickLease_bind (s : State) : s.tickLease.bind = s.bind := by unfold State.tickLease; split <;> simp
@[simp] theorem State.tickLease_fresh (s : State) : s.tickLease.fresh = s.fresh := by unfold State.tickLease; split <;> simp
@[simp] theorem State.tickLease_pending (s : State) : s.tickLease.pending = s.pending := by unfold State.tickLease; split <;> simp

@[simp] theorem State.tickRetry_uPort (s : State) : s.tickRetry.uPort = s.uPort := by unfold State.tickRetry; split <;> [rfl; split <;> rfl]
@[simp] theorem State.tickRetry_dPort (s : State) : s.tickRetry.dPort = s.dPort := by unfold State.tickRetry; split <;> [rfl; split <;> rfl]
@[simp] theorem State.tickRetry_table (s : State) : s.tickRetry.table = s.table := by unfold State.tickRetry; split <;> [rfl; split <;> rfl]
@[simp] theorem State.tickRetry_store (s : State) : s.tickRetry.store = s.store := by unfold State.tickRetry; split <;> [rfl; split <;> rfl]
@[simp] theorem State.tickRetry_conditioner (s : State) : s.tickRetry.conditioner = s.conditioner := by unfold State.tickRetry; split <;> [rfl; split <;> rfl]
@[simp] theorem State.tickRetry_loader (s : State) : s.tickRetry.loader = s.loader := by unfold State.tickRetry; split <;> [rfl; split <;> rfl]
@[simp] theorem State.tickRetry_bind (s : State) : s.tickRetry.bind = s.bind := by unfold State.tickRetry; split <;> [rfl; split <;> rfl]
@[simp] theorem State.tickRetry_mgmt (s : State) : s.tickRetry.mgmt = s.mgmt := by unfold State.tickRetry; split <;> [rfl; split <;> rfl]
@[simp] theorem State.tickRetry_merger (s : State) : s.tickRetry.merger = s.merger := by unfold State.tickRetry; split <;> [rfl; split <;> rfl]
@[simp] theorem State.tickRetry_counters (s : State) : s.tickRetry.counters = s.counters := by unfold State.tickRetry; split <;> [rfl; split <;> rfl]
@[simp] theorem State.tickRetry_fresh (s : State) : s.tickRetry.fresh = s.fresh := by unfold State.tickRetry; split <;> [rfl; split <;> rfl]
@[simp] theorem State.tickRetry_pending (s : State) : s.tickRetry.pending = s.pending := by unfold State.tickRetry; split <;> [rfl; split <;> rfl]

@[simp] theorem State.tick_uPort (s : State) : s.tick.uPort = s.uPort := by simp [State.tick]
@[simp] theorem State.tick_dPort (s : State) : s.tick.dPort = s.dPort := by simp [State.tick]
@[simp] theorem State.tick_bind (s : State) : s.tick.bind = s.bind := by simp [State.tick]
@[simp] theorem State.tick_fresh (s : State) : s.tick.fresh = s.fresh := by simp [State.tick]
@[simp] theorem State.tick_pending (s : State) : s.tick.pending = s.pending := by simp [State.tick]

@[simp] theorem State.applyChanges_uPort (s : State) (l : List Change) : (s.applyChanges l).uPort = s.uPort := rfl
@[simp] theorem State.applyChanges_dPort (s : State) (l : List Change) : (s.applyChanges l).dPort = s.dPort := rfl
@[simp] theorem State.applyChanges_conditioner (s : State) (l : List Change) : (s.applyChanges l).conditioner = s.conditioner := rfl
@[simp] theorem State.applyChanges_loader (s : State) (l : List Change) : (s.applyChanges l).loader = s.loader := rfl
@[simp] theorem State.applyChanges_bind (s : State) (l : List Change) : (s.applyChanges l).bind = s.bind := rfl
@[simp] theorem State.applyChanges_mgmt (s : State) (l : List Change) : (s.applyChanges l).mgmt = s.mgmt := rfl
@[simp] theorem State.applyChanges_notices (s : State) (l : List Change) : (s.applyChanges l).notices = s.notices := rfl
@[simp] theorem State.applyChanges_merger (s : State) (l : List Change) : (s.applyChanges l).merger = s.merger := rfl
@[simp] theorem State.applyChanges_counters (s : State) (l : List Change) : (s.applyChanges l).counters = s.counters := rfl
@[simp] theorem State.applyChanges_fresh (s : State) (l : List Change) : (s.applyChanges l).fresh = s.fresh := rfl
@[simp] theorem State.applyChanges_pending (s : State) (l : List Change) : (s.applyChanges l).pending = s.pending := rfl

@[simp] theorem State.reserve_uPort (s : State) (l : List Pair) : (s.reserve l).uPort = s.uPort := by simp only [State.reserve]
@[simp] theorem State.reserve_dPort (s : State) (l : List Pair) : (s.reserve l).dPort = s.dPort := by simp only [State.reserve]
@[simp] theorem State.reserve_table (s : State) (l : List Pair) : (s.reserve l).table = s.table := by simp only [State.reserve]
@[simp] theorem State.reserve_conditioner (s : State) (l : List Pair) : (s.reserve l).conditioner = s.conditioner := by simp only [State.reserve]
@[simp] theorem State.reserve_loader (s : State) (l : List Pair) : (s.reserve l).loader = s.loader := by simp only [State.reserve]
@[simp] theorem State.reserve_bind (s : State) (l : List Pair) : (s.reserve l).bind = s.bind := by simp only [State.reserve]
@[simp] theorem State.reserve_mgmt (s : State) (l : List Pair) : (s.reserve l).mgmt = s.mgmt := by simp only [State.reserve]
@[simp] theorem State.reserve_notices (s : State) (l : List Pair) : (s.reserve l).notices = s.notices := by simp only [State.reserve]
@[simp] theorem State.reserve_merger (s : State) (l : List Pair) : (s.reserve l).merger = s.merger := by simp only [State.reserve]
@[simp] theorem State.reserve_counters (s : State) (l : List Pair) : (s.reserve l).counters = s.counters := by simp only [State.reserve]
@[simp] theorem State.reserve_fresh (s : State) (l : List Pair) : (s.reserve l).fresh = s.fresh := by simp only [State.reserve]
@[simp] theorem State.reserve_pending (s : State) (l : List Pair) : (s.reserve l).pending = s.pending := by simp only [State.reserve]

@[simp] theorem State.unreserve_uPort (s : State) (l : List Pair) : (s.unreserve l).uPort = s.uPort := by simp only [State.unreserve]
@[simp] theorem State.unreserve_dPort (s : State) (l : List Pair) : (s.unreserve l).dPort = s.dPort := by simp only [State.unreserve]
@[simp] theorem State.unreserve_table (s : State) (l : List Pair) : (s.unreserve l).table = s.table := by simp only [State.unreserve]
@[simp] theorem State.unreserve_conditioner (s : State) (l : List Pair) : (s.unreserve l).conditioner = s.conditioner := by simp only [State.unreserve]
@[simp] theorem State.unreserve_loader (s : State) (l : List Pair) : (s.unreserve l).loader = s.loader := by simp only [State.unreserve]
@[simp] theorem State.unreserve_bind (s : State) (l : List Pair) : (s.unreserve l).bind = s.bind := by simp only [State.unreserve]
@[simp] theorem State.unreserve_mgmt (s : State) (l : List Pair) : (s.unreserve l).mgmt = s.mgmt := by simp only [State.unreserve]
@[simp] theorem State.unreserve_notices (s : State) (l : List Pair) : (s.unreserve l).notices = s.notices := by simp only [State.unreserve]
@[simp] theorem State.unreserve_merger (s : State) (l : List Pair) : (s.unreserve l).merger = s.merger := by simp only [State.unreserve]
@[simp] theorem State.unreserve_counters (s : State) (l : List Pair) : (s.unreserve l).counters = s.counters := by simp only [State.unreserve]
@[simp] theorem State.unreserve_fresh (s : State) (l : List Pair) : (s.unreserve l).fresh = s.fresh := by simp only [State.unreserve]
@[simp] theorem State.unreserve_pending (s : State) (l : List Pair) : (s.unreserve l).pending = s.pending := by simp only [State.unreserve]

@[simp] theorem State.releaseAll_uPort (s : State) (l : List CurveId) : (s.releaseAll l).uPort = s.uPort := by
  unfold State.releaseAll
  induction l generalizing s with
  | nil => rfl
  | cons c l ih => rw [List.foldl_cons, ih, State.releaseRequest_uPort]
@[simp] theorem State.releaseAll_dPort (s : State) (l : List CurveId) : (s.releaseAll l).dPort = s.dPort := by
  unfold State.releaseAll
  induction l generalizing s with
  | nil => rfl
  | cons c l ih => rw [List.foldl_cons, ih, State.releaseRequest_dPort]
@[simp] theorem State.releaseAll_table (s : State) (l : List CurveId) : (s.releaseAll l).table = s.table := by
  unfold State.releaseAll
  induction l generalizing s with
  | nil => rfl
  | cons c l ih => rw [List.foldl_cons, ih, State.releaseRequest_table]
@[simp] theorem State.releaseAll_conditioner (s : State) (l : List CurveId) : (s.releaseAll l).conditioner = s.conditioner := by
  unfold State.releaseAll
  induction l generalizing s with
  | nil => rfl
  | cons c l ih => rw [List.foldl_cons, ih, State.releaseRequest_conditioner]
@[simp] theorem State.releaseAll_loader (s : State) (l : List CurveId) : (s.releaseAll l).loader = s.loader := by
  unfold State.releaseAll
  induction l generalizing s with
  | nil => rfl
  | cons c l ih => rw [List.foldl_cons, ih, State.releaseRequest_loader]
@[simp] theorem State.releaseAll_bind (s : State) (l : List CurveId) : (s.releaseAll l).bind = s.bind := by
  unfold State.releaseAll
  induction l generalizing s with
  | nil => rfl
  | cons c l ih => rw [List.foldl_cons, ih, State.releaseRequest_bind]
@[simp] theorem State.releaseAll_mgmt (s : State) (l : List CurveId) : (s.releaseAll l).mgmt = s.mgmt := by
  unfold State.releaseAll
  induction l generalizing s with
  | nil => rfl
  | cons c l ih => rw [List.foldl_cons, ih, State.releaseRequest_mgmt]
@[simp] theorem State.releaseAll_merger (s : State) (l : List CurveId) : (s.releaseAll l).merger = s.merger := by
  unfold State.releaseAll
  induction l generalizing s with
  | nil => rfl
  | cons c l ih => rw [List.foldl_cons, ih, State.releaseRequest_merger]
@[simp] theorem State.releaseAll_fresh (s : State) (l : List CurveId) : (s.releaseAll l).fresh = s.fresh := by
  unfold State.releaseAll
  induction l generalizing s with
  | nil => rfl
  | cons c l ih => rw [List.foldl_cons, ih, State.releaseRequest_fresh]
@[simp] theorem State.releaseAll_pending (s : State) (l : List CurveId) : (s.releaseAll l).pending = s.pending := by
  unfold State.releaseAll
  induction l generalizing s with
  | nil => rfl
  | cons c l ih => rw [List.foldl_cons, ih, State.releaseRequest_pending]

@[simp] theorem State.bindNow_uPort (s : State) (l : List Pair) : (s.bindNow l).uPort = s.uPort := by simp [State.bindNow]
@[simp] theorem State.bindNow_dPort (s : State) (l : List Pair) : (s.bindNow l).dPort = s.dPort := by simp [State.bindNow]
@[simp] theorem State.bindNow_conditioner (s : State) (l : List Pair) : (s.bindNow l).conditioner = s.conditioner := by simp [State.bindNow]
@[simp] theorem State.bindNow_loader (s : State) (l : List Pair) : (s.bindNow l).loader = s.loader := by simp [State.bindNow]
@[simp] theorem State.bindNow_bind (s : State) (l : List Pair) : (s.bindNow l).bind = s.bind := by simp [State.bindNow]
@[simp] theorem State.bindNow_mgmt (s : State) (l : List Pair) : (s.bindNow l).mgmt = s.mgmt := by simp [State.bindNow]
@[simp] theorem State.bindNow_merger (s : State) (l : List Pair) : (s.bindNow l).merger = s.merger := by simp [State.bindNow]
@[simp] theorem State.bindNow_fresh (s : State) (l : List Pair) : (s.bindNow l).fresh = s.fresh := by simp [State.bindNow]
@[simp] theorem State.bindNow_pending (s : State) (l : List Pair) : (s.bindNow l).pending = s.pending := by simp [State.bindNow]

@[simp] theorem State.applyPending_uPort (s : State) (b : PendingBind) : (s.applyPending b).uPort = s.uPort := by simp [State.applyPending]
@[simp] theorem State.applyPending_dPort (s : State) (b : PendingBind) : (s.applyPending b).dPort = s.dPort := by simp [State.applyPending]
@[simp] theorem State.applyPending_conditioner (s : State) (b : PendingBind) : (s.applyPending b).conditioner = s.conditioner := by simp [State.applyPending]
@[simp] theorem State.applyPending_loader (s : State) (b : PendingBind) : (s.applyPending b).loader = s.loader := by simp [State.applyPending]
@[simp] theorem State.applyPending_mgmt (s : State) (b : PendingBind) : (s.applyPending b).mgmt = s.mgmt := by simp [State.applyPending]
@[simp] theorem State.applyPending_merger (s : State) (b : PendingBind) : (s.applyPending b).merger = s.merger := by simp [State.applyPending]
@[simp] theorem State.applyPending_fresh (s : State) (b : PendingBind) : (s.applyPending b).fresh = s.fresh := by simp [State.applyPending]
@[simp] theorem State.applyPending_pending (s : State) (b : PendingBind) : (s.applyPending b).pending = s.pending := by simp [State.applyPending]

@[simp] theorem State.cancelPending_uPort (s : State) (b : PendingBind) : (s.cancelPending b).uPort = s.uPort := by simp only [State.cancelPending, State.unreserve]
@[simp] theorem State.cancelPending_dPort (s : State) (b : PendingBind) : (s.cancelPending b).dPort = s.dPort := by simp only [State.cancelPending, State.unreserve]
@[simp] theorem State.cancelPending_table (s : State) (b : PendingBind) : (s.cancelPending b).table = s.table := by simp only [State.cancelPending, State.unreserve]
@[simp] theorem State.cancelPending_conditioner (s : State) (b : PendingBind) : (s.cancelPending b).conditioner = s.conditioner := by simp only [State.cancelPending, State.unreserve]
@[simp] theorem State.cancelPending_loader (s : State) (b : PendingBind) : (s.cancelPending b).loader = s.loader := by simp only [State.cancelPending, State.unreserve]
@[simp] theorem State.cancelPending_mgmt (s : State) (b : PendingBind) : (s.cancelPending b).mgmt = s.mgmt := by simp only [State.cancelPending, State.unreserve]
@[simp] theorem State.cancelPending_notices (s : State) (b : PendingBind) : (s.cancelPending b).notices = s.notices := by simp only [State.cancelPending, State.unreserve]
@[simp] theorem State.cancelPending_merger (s : State) (b : PendingBind) : (s.cancelPending b).merger = s.merger := by simp only [State.cancelPending, State.unreserve]
@[simp] theorem State.cancelPending_counters (s : State) (b : PendingBind) : (s.cancelPending b).counters = s.counters := by simp only [State.cancelPending, State.unreserve]
@[simp] theorem State.cancelPending_fresh (s : State) (b : PendingBind) : (s.cancelPending b).fresh = s.fresh := by simp only [State.cancelPending, State.unreserve]
@[simp] theorem State.cancelPending_pending (s : State) (b : PendingBind) : (s.cancelPending b).pending = s.pending := by simp only [State.cancelPending, State.unreserve]

@[simp] theorem State.applyMiss_uPort (s : State) : s.applyMiss.uPort = s.uPort := rfl
@[simp] theorem State.applyMiss_dPort (s : State) : s.applyMiss.dPort = s.dPort := rfl
@[simp] theorem State.applyMiss_table (s : State) : s.applyMiss.table = s.table := rfl
@[simp] theorem State.applyMiss_store (s : State) : s.applyMiss.store = s.store := rfl
@[simp] theorem State.applyMiss_conditioner (s : State) : s.applyMiss.conditioner = s.conditioner := rfl
@[simp] theorem State.applyMiss_loader (s : State) : s.applyMiss.loader = s.loader := rfl
@[simp] theorem State.applyMiss_bind (s : State) : s.applyMiss.bind = s.bind := rfl
@[simp] theorem State.applyMiss_notices (s : State) : s.applyMiss.notices = s.notices := rfl
@[simp] theorem State.applyMiss_merger (s : State) : s.applyMiss.merger = s.merger := rfl
@[simp] theorem State.applyMiss_fresh (s : State) : s.applyMiss.fresh = s.fresh := rfl
@[simp] theorem State.applyMiss_pending (s : State) : s.applyMiss.pending = s.pending := rfl

@[simp] theorem State.clearScope_uPort (s : State) (x : Scope) (b : Bool) : (s.clearScope x b).uPort = s.uPort := by cases b <;> rfl
@[simp] theorem State.clearScope_dPort (s : State) (x : Scope) (b : Bool) : (s.clearScope x b).dPort = s.dPort := by cases b <;> rfl
@[simp] theorem State.clearScope_table (s : State) (x : Scope) (b : Bool) : (s.clearScope x b).table = s.table := by cases b <;> rfl
@[simp] theorem State.clearScope_store (s : State) (x : Scope) (b : Bool) : (s.clearScope x b).store = s.store := by cases b <;> rfl
@[simp] theorem State.clearScope_conditioner (s : State) (x : Scope) (b : Bool) : (s.clearScope x b).conditioner = s.conditioner := by cases b <;> rfl
@[simp] theorem State.clearScope_loader (s : State) (x : Scope) (b : Bool) : (s.clearScope x b).loader = s.loader := by cases b <;> rfl
@[simp] theorem State.clearScope_bind (s : State) (x : Scope) (b : Bool) : (s.clearScope x b).bind = s.bind := by cases b <;> rfl
@[simp] theorem State.clearScope_mgmt (s : State) (x : Scope) (b : Bool) : (s.clearScope x b).mgmt = s.mgmt := by cases b <;> rfl
@[simp] theorem State.clearScope_notices (s : State) (x : Scope) (b : Bool) : (s.clearScope x b).notices = s.notices := by cases b <;> rfl
@[simp] theorem State.clearScope_merger (s : State) (x : Scope) (b : Bool) : (s.clearScope x b).merger = s.merger := by cases b <;> rfl
@[simp] theorem State.clearScope_fresh (s : State) (x : Scope) (b : Bool) : (s.clearScope x b).fresh = s.fresh := by cases b <;> rfl
@[simp] theorem State.clearScope_pending (s : State) (x : Scope) (b : Bool) : (s.clearScope x b).pending = s.pending := by cases b <;> rfl

@[simp] theorem State.countDecision_uPort (s : State) (d : DataDecision) : (s.countDecision d).uPort = s.uPort := by cases d <;> rfl
@[simp] theorem State.countDecision_dPort (s : State) (d : DataDecision) : (s.countDecision d).dPort = s.dPort := by cases d <;> rfl
@[simp] theorem State.countDecision_table (s : State) (d : DataDecision) : (s.countDecision d).table = s.table := by cases d <;> rfl
@[simp] theorem State.countDecision_store (s : State) (d : DataDecision) : (s.countDecision d).store = s.store := by cases d <;> rfl
@[simp] theorem State.countDecision_conditioner (s : State) (d : DataDecision) : (s.countDecision d).conditioner = s.conditioner := by cases d <;> rfl
@[simp] theorem State.countDecision_loader (s : State) (d : DataDecision) : (s.countDecision d).loader = s.loader := by cases d <;> rfl
@[simp] theorem State.countDecision_bind (s : State) (d : DataDecision) : (s.countDecision d).bind = s.bind := by cases d <;> rfl
@[simp] theorem State.countDecision_mgmt (s : State) (d : DataDecision) : (s.countDecision d).mgmt = s.mgmt := by cases d <;> rfl
@[simp] theorem State.countDecision_notices (s : State) (d : DataDecision) : (s.countDecision d).notices = s.notices := by cases d <;> rfl
@[simp] theorem State.countDecision_merger (s : State) (d : DataDecision) : (s.countDecision d).merger = s.merger := by cases d <;> rfl
@[simp] theorem State.countDecision_fresh (s : State) (d : DataDecision) : (s.countDecision d).fresh = s.fresh := by cases d <;> rfl
@[simp] theorem State.countDecision_pending (s : State) (d : DataDecision) : (s.countDecision d).pending = s.pending := by cases d <;> rfl

@[simp] theorem State.classifyData_dPort (s : State) : s.classifyData.dPort = s.dPort := by unfold State.classifyData; split <;> [rfl; (dsimp only; split <;> [split <;> simp; split <;> simp; split <;> simp; simp; simp; simp; simp])]
@[simp] theorem State.classifyData_table (s : State) : s.classifyData.table = s.table := by unfold State.classifyData; split <;> [rfl; (dsimp only; split <;> [split <;> simp; split <;> simp; split <;> simp; simp; simp; simp; simp])]
@[simp] theorem State.classifyData_store (s : State) : s.classifyData.store = s.store := by unfold State.classifyData; split <;> [rfl; (dsimp only; split <;> [split <;> simp; split <;> simp; split <;> simp; simp; simp; simp; simp])]
@[simp] theorem State.classifyData_conditioner (s : State) : s.classifyData.conditioner = s.conditioner := by unfold State.classifyData; split <;> [rfl; (dsimp only; split <;> [split <;> simp; split <;> simp; split <;> simp; simp; simp; simp; simp])]
@[simp] theorem State.classifyData_loader (s : State) : s.classifyData.loader = s.loader := by unfold State.classifyData; split <;> [rfl; (dsimp only; split <;> [split <;> simp; split <;> simp; split <;> simp; simp; simp; simp; simp])]
@[simp] theorem State.classifyData_bind (s : State) : s.classifyData.bind = s.bind := by unfold State.classifyData; split <;> [rfl; (dsimp only; split <;> [split <;> simp; split <;> simp; split <;> simp; simp; simp; simp; simp])]
@[simp] theorem State.classifyData_mgmt (s : State) : s.classifyData.mgmt = s.mgmt := by unfold State.classifyData; split <;> [rfl; (dsimp only; split <;> [split <;> simp; split <;> simp; split <;> simp; simp; simp; simp; simp])]
@[simp] theorem State.classifyData_notices (s : State) : s.classifyData.notices = s.notices := by unfold State.classifyData; split <;> [rfl; (dsimp only; split <;> [split <;> simp; split <;> simp; split <;> simp; simp; simp; simp; simp])]
@[simp] theorem State.classifyData_fresh (s : State) : s.classifyData.fresh = s.fresh := by unfold State.classifyData; split <;> [rfl; (dsimp only; split <;> [split <;> simp; split <;> simp; split <;> simp; simp; simp; simp; simp])]
@[simp] theorem State.classifyData_pending (s : State) : s.classifyData.pending = s.pending := by unfold State.classifyData; split <;> [rfl; (dsimp only; split <;> [split <;> simp; split <;> simp; split <;> simp; simp; simp; simp; simp])]

@[simp] theorem State.writeParam_dPort (s : State) (p : ParamId) (v : Half) : (s.writeParam p v).dPort = s.dPort := by unfold State.writeParam; dsimp only; split <;> simp
@[simp] theorem State.writeParam_table (s : State) (p : ParamId) (v : Half) : (s.writeParam p v).table = s.table := by unfold State.writeParam; dsimp only; split <;> simp
@[simp] theorem State.writeParam_store (s : State) (p : ParamId) (v : Half) : (s.writeParam p v).store = s.store := by unfold State.writeParam; dsimp only; split <;> simp
@[simp] theorem State.writeParam_conditioner (s : State) (p : ParamId) (v : Half) : (s.writeParam p v).conditioner = s.conditioner := by unfold State.writeParam; dsimp only; split <;> simp
@[simp] theorem State.writeParam_loader (s : State) (p : ParamId) (v : Half) : (s.writeParam p v).loader = s.loader := by unfold State.writeParam; dsimp only; split <;> simp
@[simp] theorem State.writeParam_bind (s : State) (p : ParamId) (v : Half) : (s.writeParam p v).bind = s.bind := by unfold State.writeParam; dsimp only; split <;> simp
@[simp] theorem State.writeParam_notices (s : State) (p : ParamId) (v : Half) : (s.writeParam p v).notices = s.notices := by unfold State.writeParam; dsimp only; split <;> simp
@[simp] theorem State.writeParam_fresh (s : State) (p : ParamId) (v : Half) : (s.writeParam p v).fresh = s.fresh := by unfold State.writeParam; dsimp only; split <;> simp
@[simp] theorem State.writeParam_pending (s : State) (p : ParamId) (v : Half) : (s.writeParam p v).pending = s.pending := by unfold State.writeParam; dsimp only; split <;> simp

@[simp] theorem State.joinUp_uPort (s : State) (f : Frame) : (s.joinUp f).uPort = s.uPort := rfl
@[simp] theorem State.joinUp_dPort (s : State) (f : Frame) : (s.joinUp f).dPort = s.dPort := rfl
@[simp] theorem State.joinUp_table (s : State) (f : Frame) : (s.joinUp f).table = s.table := rfl
@[simp] theorem State.joinUp_store (s : State) (f : Frame) : (s.joinUp f).store = s.store := rfl
@[simp] theorem State.joinUp_conditioner (s : State) (f : Frame) : (s.joinUp f).conditioner = s.conditioner := rfl
@[simp] theorem State.joinUp_loader (s : State) (f : Frame) : (s.joinUp f).loader = s.loader := rfl
@[simp] theorem State.joinUp_bind (s : State) (f : Frame) : (s.joinUp f).bind = s.bind := rfl
@[simp] theorem State.joinUp_mgmt (s : State) (f : Frame) : (s.joinUp f).mgmt = s.mgmt := rfl
@[simp] theorem State.joinUp_notices (s : State) (f : Frame) : (s.joinUp f).notices = s.notices := rfl
@[simp] theorem State.joinUp_counters (s : State) (f : Frame) : (s.joinUp f).counters = s.counters := rfl
@[simp] theorem State.joinUp_fresh (s : State) (f : Frame) : (s.joinUp f).fresh = s.fresh := rfl
@[simp] theorem State.joinUp_pending (s : State) (f : Frame) : (s.joinUp f).pending = s.pending := rfl

@[simp] theorem State.dropCommand_uPort (s : State) : s.dropCommand.uPort = s.uPort := rfl
@[simp] theorem State.dropCommand_dPort (s : State) : s.dropCommand.dPort = s.dPort := rfl
@[simp] theorem State.dropCommand_table (s : State) : s.dropCommand.table = s.table := rfl
@[simp] theorem State.dropCommand_store (s : State) : s.dropCommand.store = s.store := rfl
@[simp] theorem State.dropCommand_conditioner (s : State) : s.dropCommand.conditioner = s.conditioner := rfl
@[simp] theorem State.dropCommand_loader (s : State) : s.dropCommand.loader = s.loader := rfl
@[simp] theorem State.dropCommand_bind (s : State) : s.dropCommand.bind = s.bind := rfl
@[simp] theorem State.dropCommand_mgmt (s : State) : s.dropCommand.mgmt = s.mgmt := rfl
@[simp] theorem State.dropCommand_notices (s : State) : s.dropCommand.notices = s.notices := rfl
@[simp] theorem State.dropCommand_merger (s : State) : s.dropCommand.merger = s.merger := rfl
@[simp] theorem State.dropCommand_fresh (s : State) : s.dropCommand.fresh = s.fresh := rfl
@[simp] theorem State.dropCommand_pending (s : State) : s.dropCommand.pending = s.pending := rfl

@[simp] theorem State.arriveCommand_uPort (s : State) (f : Frame) : (s.arriveCommand f).uPort = s.uPort := by unfold State.arriveCommand; split <;> [rfl; split <;> rfl]
@[simp] theorem State.arriveCommand_dPort (s : State) (f : Frame) : (s.arriveCommand f).dPort = s.dPort := by unfold State.arriveCommand; split <;> [rfl; split <;> rfl]
@[simp] theorem State.arriveCommand_table (s : State) (f : Frame) : (s.arriveCommand f).table = s.table := by unfold State.arriveCommand; split <;> [rfl; split <;> rfl]
@[simp] theorem State.arriveCommand_store (s : State) (f : Frame) : (s.arriveCommand f).store = s.store := by unfold State.arriveCommand; split <;> [rfl; split <;> rfl]
@[simp] theorem State.arriveCommand_conditioner (s : State) (f : Frame) : (s.arriveCommand f).conditioner = s.conditioner := by unfold State.arriveCommand; split <;> [rfl; split <;> rfl]
@[simp] theorem State.arriveCommand_loader (s : State) (f : Frame) : (s.arriveCommand f).loader = s.loader := by unfold State.arriveCommand; split <;> [rfl; split <;> rfl]
@[simp] theorem State.arriveCommand_bind (s : State) (f : Frame) : (s.arriveCommand f).bind = s.bind := by unfold State.arriveCommand; split <;> [rfl; split <;> rfl]
@[simp] theorem State.arriveCommand_notices (s : State) (f : Frame) : (s.arriveCommand f).notices = s.notices := by unfold State.arriveCommand; split <;> [rfl; split <;> rfl]
@[simp] theorem State.arriveCommand_merger (s : State) (f : Frame) : (s.arriveCommand f).merger = s.merger := by unfold State.arriveCommand; split <;> [rfl; split <;> rfl]
@[simp] theorem State.arriveCommand_fresh (s : State) (f : Frame) : (s.arriveCommand f).fresh = s.fresh := by unfold State.arriveCommand; split <;> [rfl; split <;> rfl]
@[simp] theorem State.arriveCommand_pending (s : State) (f : Frame) : (s.arriveCommand f).pending = s.pending := by unfold State.arriveCommand; split <;> [rfl; split <;> rfl]

@[simp] theorem State.arriveBroadcast_uPort (s : State) (f : Frame) : (s.arriveBroadcast f).uPort = s.uPort := by unfold State.arriveBroadcast; split <;> [split <;> rfl; rfl]
@[simp] theorem State.arriveBroadcast_dPort (s : State) (f : Frame) : (s.arriveBroadcast f).dPort = s.dPort := by unfold State.arriveBroadcast; split <;> [split <;> rfl; rfl]
@[simp] theorem State.arriveBroadcast_table (s : State) (f : Frame) : (s.arriveBroadcast f).table = s.table := by unfold State.arriveBroadcast; split <;> [split <;> rfl; rfl]
@[simp] theorem State.arriveBroadcast_store (s : State) (f : Frame) : (s.arriveBroadcast f).store = s.store := by unfold State.arriveBroadcast; split <;> [split <;> rfl; rfl]
@[simp] theorem State.arriveBroadcast_conditioner (s : State) (f : Frame) : (s.arriveBroadcast f).conditioner = s.conditioner := by unfold State.arriveBroadcast; split <;> [split <;> rfl; rfl]
@[simp] theorem State.arriveBroadcast_loader (s : State) (f : Frame) : (s.arriveBroadcast f).loader = s.loader := by unfold State.arriveBroadcast; split <;> [split <;> rfl; rfl]
@[simp] theorem State.arriveBroadcast_bind (s : State) (f : Frame) : (s.arriveBroadcast f).bind = s.bind := by unfold State.arriveBroadcast; split <;> [split <;> rfl; rfl]
@[simp] theorem State.arriveBroadcast_notices (s : State) (f : Frame) : (s.arriveBroadcast f).notices = s.notices := by unfold State.arriveBroadcast; split <;> [split <;> rfl; rfl]
@[simp] theorem State.arriveBroadcast_merger (s : State) (f : Frame) : (s.arriveBroadcast f).merger = s.merger := by unfold State.arriveBroadcast; split <;> [split <;> rfl; rfl]
@[simp] theorem State.arriveBroadcast_fresh (s : State) (f : Frame) : (s.arriveBroadcast f).fresh = s.fresh := by unfold State.arriveBroadcast; split <;> [split <;> rfl; rfl]
@[simp] theorem State.arriveBroadcast_pending (s : State) (f : Frame) : (s.arriveBroadcast f).pending = s.pending := by unfold State.arriveBroadcast; split <;> [split <;> rfl; rfl]

@[simp] theorem State.enumerate_uPort (s : State) (f : Frame) : (s.enumerate f).uPort = s.uPort := rfl
@[simp] theorem State.enumerate_dPort (s : State) (f : Frame) : (s.enumerate f).dPort = s.dPort := rfl
@[simp] theorem State.enumerate_table (s : State) (f : Frame) : (s.enumerate f).table = s.table := rfl
@[simp] theorem State.enumerate_store (s : State) (f : Frame) : (s.enumerate f).store = s.store := rfl
@[simp] theorem State.enumerate_conditioner (s : State) (f : Frame) : (s.enumerate f).conditioner = s.conditioner := rfl
@[simp] theorem State.enumerate_loader (s : State) (f : Frame) : (s.enumerate f).loader = s.loader := rfl
@[simp] theorem State.enumerate_bind (s : State) (f : Frame) : (s.enumerate f).bind = s.bind := rfl
@[simp] theorem State.enumerate_notices (s : State) (f : Frame) : (s.enumerate f).notices = s.notices := rfl
@[simp] theorem State.enumerate_counters (s : State) (f : Frame) : (s.enumerate f).counters = s.counters := rfl
@[simp] theorem State.enumerate_pending (s : State) (f : Frame) : (s.enumerate f).pending = s.pending := rfl

@[simp] theorem State.classifyCommand_uPort (s : State) : s.classifyCommand.uPort = s.uPort := by
  unfold State.classifyCommand State.takeStray State.takeUp
  split
  · rfl
  · dsimp only; split <;> [simp; simp; split <;> simp; split <;> simp; (split <;> [split <;> simp; simp]); split <;> simp]
@[simp] theorem State.classifyCommand_table (s : State) : s.classifyCommand.table = s.table := by
  unfold State.classifyCommand State.takeStray State.takeUp
  split
  · rfl
  · dsimp only; split <;> [simp; simp; split <;> simp; split <;> simp; (split <;> [split <;> simp; simp]); split <;> simp]
@[simp] theorem State.classifyCommand_store (s : State) : s.classifyCommand.store = s.store := by
  unfold State.classifyCommand State.takeStray State.takeUp
  split
  · rfl
  · dsimp only; split <;> [simp; simp; split <;> simp; split <;> simp; (split <;> [split <;> simp; simp]); split <;> simp]
@[simp] theorem State.classifyCommand_conditioner (s : State) : s.classifyCommand.conditioner = s.conditioner := by
  unfold State.classifyCommand State.takeStray State.takeUp
  split
  · rfl
  · dsimp only; split <;> [simp; simp; split <;> simp; split <;> simp; (split <;> [split <;> simp; simp]); split <;> simp]
@[simp] theorem State.classifyCommand_loader (s : State) : s.classifyCommand.loader = s.loader := by
  unfold State.classifyCommand State.takeStray State.takeUp
  split
  · rfl
  · dsimp only; split <;> [simp; simp; split <;> simp; split <;> simp; (split <;> [split <;> simp; simp]); split <;> simp]
@[simp] theorem State.classifyCommand_bind (s : State) : s.classifyCommand.bind = s.bind := by
  unfold State.classifyCommand State.takeStray State.takeUp
  split
  · rfl
  · dsimp only; split <;> [simp; simp; split <;> simp; split <;> simp; (split <;> [split <;> simp; simp]); split <;> simp]
@[simp] theorem State.classifyCommand_notices (s : State) : s.classifyCommand.notices = s.notices := by
  unfold State.classifyCommand State.takeStray State.takeUp
  split
  · rfl
  · dsimp only; split <;> [simp; simp; split <;> simp; split <;> simp; (split <;> [split <;> simp; simp]); split <;> simp]
@[simp] theorem State.classifyCommand_pending (s : State) : s.classifyCommand.pending = s.pending := by
  unfold State.classifyCommand State.takeStray State.takeUp
  split
  · rfl
  · dsimp only; split <;> [simp; simp; split <;> simp; split <;> simp; (split <;> [split <;> simp; simp]); split <;> simp]

@[simp] theorem State.pointPast_uPort (s : State) (x : Source) : (s.pointPast x).uPort = s.uPort := rfl
@[simp] theorem State.pointPast_dPort (s : State) (x : Source) : (s.pointPast x).dPort = s.dPort := rfl
@[simp] theorem State.pointPast_table (s : State) (x : Source) : (s.pointPast x).table = s.table := rfl
@[simp] theorem State.pointPast_store (s : State) (x : Source) : (s.pointPast x).store = s.store := rfl
@[simp] theorem State.pointPast_conditioner (s : State) (x : Source) : (s.pointPast x).conditioner = s.conditioner := rfl
@[simp] theorem State.pointPast_loader (s : State) (x : Source) : (s.pointPast x).loader = s.loader := rfl
@[simp] theorem State.pointPast_bind (s : State) (x : Source) : (s.pointPast x).bind = s.bind := rfl
@[simp] theorem State.pointPast_mgmt (s : State) (x : Source) : (s.pointPast x).mgmt = s.mgmt := rfl
@[simp] theorem State.pointPast_notices (s : State) (x : Source) : (s.pointPast x).notices = s.notices := rfl
@[simp] theorem State.pointPast_counters (s : State) (x : Source) : (s.pointPast x).counters = s.counters := rfl
@[simp] theorem State.pointPast_fresh (s : State) (x : Source) : (s.pointPast x).fresh = s.fresh := rfl
@[simp] theorem State.pointPast_pending (s : State) (x : Source) : (s.pointPast x).pending = s.pending := rfl

@[simp] theorem State.fillPlace_dPort (s : State) (x : Source) (b : Bool) : (s.fillPlace x b).dPort = s.dPort := by unfold State.fillPlace; cases x <;> simp only [State.enterCq_dPort, State.placePosted_dPort] ; split <;> simp
@[simp] theorem State.fillPlace_bind (s : State) (x : Source) (b : Bool) : (s.fillPlace x b).bind = s.bind := by unfold State.fillPlace; cases x <;> simp only [State.enterCq_bind, State.placePosted_bind] ; split <;> simp
@[simp] theorem State.fillPlace_fresh (s : State) (x : Source) (b : Bool) : (s.fillPlace x b).fresh = s.fresh := by unfold State.fillPlace; cases x <;> simp only [State.enterCq_fresh, State.placePosted_fresh] ; split <;> simp
@[simp] theorem State.fillPlace_pending (s : State) (x : Source) (b : Bool) : (s.fillPlace x b).pending = s.pending := by unfold State.fillPlace; cases x <;> simp only [State.enterCq_pending, State.placePosted_pending] ; split <;> simp

@[simp] theorem State.leaveUp_table (s : State) (p : Port) : (s.leaveUp p).table = s.table := by simp [State.leaveUp]
@[simp] theorem State.leaveUp_store (s : State) (p : Port) : (s.leaveUp p).store = s.store := by simp [State.leaveUp]
@[simp] theorem State.leaveUp_conditioner (s : State) (p : Port) : (s.leaveUp p).conditioner = s.conditioner := by simp [State.leaveUp]
@[simp] theorem State.leaveUp_loader (s : State) (p : Port) : (s.leaveUp p).loader = s.loader := by simp [State.leaveUp]
@[simp] theorem State.leaveUp_bind (s : State) (p : Port) : (s.leaveUp p).bind = s.bind := by simp [State.leaveUp]
@[simp] theorem State.leaveUp_mgmt (s : State) (p : Port) : (s.leaveUp p).mgmt = s.mgmt := by simp [State.leaveUp]
@[simp] theorem State.leaveUp_merger (s : State) (p : Port) : (s.leaveUp p).merger = s.merger := by simp [State.leaveUp]
@[simp] theorem State.leaveUp_fresh (s : State) (p : Port) : (s.leaveUp p).fresh = s.fresh := by simp [State.leaveUp]
@[simp] theorem State.leaveUp_pending (s : State) (p : Port) : (s.leaveUp p).pending = s.pending := by simp [State.leaveUp]

@[simp] theorem State.joinBuffer_table (s : State) (p : Port) (f : Frame) : (s.joinBuffer p f).table = s.table := by unfold State.joinBuffer; dsimp only; split <;> simp
@[simp] theorem State.joinBuffer_store (s : State) (p : Port) (f : Frame) : (s.joinBuffer p f).store = s.store := by unfold State.joinBuffer; dsimp only; split <;> simp
@[simp] theorem State.joinBuffer_conditioner (s : State) (p : Port) (f : Frame) : (s.joinBuffer p f).conditioner = s.conditioner := by unfold State.joinBuffer; dsimp only; split <;> simp
@[simp] theorem State.joinBuffer_loader (s : State) (p : Port) (f : Frame) : (s.joinBuffer p f).loader = s.loader := by unfold State.joinBuffer; dsimp only; split <;> simp
@[simp] theorem State.joinBuffer_bind (s : State) (p : Port) (f : Frame) : (s.joinBuffer p f).bind = s.bind := by unfold State.joinBuffer; dsimp only; split <;> simp
@[simp] theorem State.joinBuffer_mgmt (s : State) (p : Port) (f : Frame) : (s.joinBuffer p f).mgmt = s.mgmt := by unfold State.joinBuffer; dsimp only; split <;> simp
@[simp] theorem State.joinBuffer_notices (s : State) (p : Port) (f : Frame) : (s.joinBuffer p f).notices = s.notices := by unfold State.joinBuffer; dsimp only; split <;> simp
@[simp] theorem State.joinBuffer_merger (s : State) (p : Port) (f : Frame) : (s.joinBuffer p f).merger = s.merger := by unfold State.joinBuffer; dsimp only; split <;> simp
@[simp] theorem State.joinBuffer_fresh (s : State) (p : Port) (f : Frame) : (s.joinBuffer p f).fresh = s.fresh := by unfold State.joinBuffer; dsimp only; split <;> simp
@[simp] theorem State.joinBuffer_pending (s : State) (p : Port) (f : Frame) : (s.joinBuffer p f).pending = s.pending := by unfold State.joinBuffer; dsimp only; split <;> simp

@[simp] theorem State.arrive_table (s : State) (p : Port) (run : List Byte) : (s.arrive p run).table = s.table := by unfold State.arrive; split <;> [simp; split <;> simp]
@[simp] theorem State.arrive_store (s : State) (p : Port) (run : List Byte) : (s.arrive p run).store = s.store := by unfold State.arrive; split <;> [simp; split <;> simp]
@[simp] theorem State.arrive_conditioner (s : State) (p : Port) (run : List Byte) : (s.arrive p run).conditioner = s.conditioner := by unfold State.arrive; split <;> [simp; split <;> simp]
@[simp] theorem State.arrive_loader (s : State) (p : Port) (run : List Byte) : (s.arrive p run).loader = s.loader := by unfold State.arrive; split <;> [simp; split <;> simp]
@[simp] theorem State.arrive_bind (s : State) (p : Port) (run : List Byte) : (s.arrive p run).bind = s.bind := by unfold State.arrive; split <;> [simp; split <;> simp]
@[simp] theorem State.arrive_mgmt (s : State) (p : Port) (run : List Byte) : (s.arrive p run).mgmt = s.mgmt := by unfold State.arrive; split <;> [simp; split <;> simp]
@[simp] theorem State.arrive_notices (s : State) (p : Port) (run : List Byte) : (s.arrive p run).notices = s.notices := by unfold State.arrive; split <;> [simp; split <;> simp]
@[simp] theorem State.arrive_merger (s : State) (p : Port) (run : List Byte) : (s.arrive p run).merger = s.merger := by unfold State.arrive; split <;> [simp; split <;> simp]
@[simp] theorem State.arrive_fresh (s : State) (p : Port) (run : List Byte) : (s.arrive p run).fresh = s.fresh := by unfold State.arrive; split <;> [simp; split <;> simp]
@[simp] theorem State.arrive_pending (s : State) (p : Port) (run : List Byte) : (s.arrive p run).pending = s.pending := by unfold State.arrive; split <;> [simp; split <;> simp]

end Sys2Proof.Machine
end

