-- ==== Sys2Proof/Laws/Commands.lean ====
section
/-! SUPPORT. What the common path of a command can do, said once: the row that takes no command, the reply cache, the length rule, the command's own body. -/

namespace Sys2Proof.Machine

/-! ### The addressed commands -/

/-- All that `State.command` can come to: nothing, an answer or a drop that touches the engine and the node counters alone, or the command's own body. -/
theorem State.command_cases (s : State) (accepts : Frame → Bool) (ok : List Byte → Bool) (body : Frame → State → State) :
    ∃ t, s.command accepts ok body = .next t ∧
      (t = s ∨ (∃ m c, t = { s with mgmt := m, counters := { s.counters with node := c } }) ∨
        ∃ f, s.mgmt.inHand = some f ∧ f.addressed = true ∧ accepts f = true ∧ ok f.payload = true ∧
          t = body f (s.begun f)) := by
  unfold State.command
  split
  · rename_i f hf
    split
    · rename_i ha
      obtain ⟨ha1, ha2⟩ := Bool.and_eq_true_iff.1 ha
      refine ⟨_, rfl, .inr ?_⟩
      have go : ∀ t, t = (s.begun f).lengthCheck f ok (body f) →
          (∃ m c, t = { s with mgmt := m, counters := { s.counters with node := c } }) ∨
          ∃ f, s.mgmt.inHand = some f ∧ f.addressed = true ∧ accepts f = true ∧ ok f.payload = true ∧
            t = body f (s.begun f) := by
        intro t ht
        subst ht
        unfold State.lengthCheck
        split
        · exact .inr ⟨f, hf, ha1, ha2, ‹_›, rfl⟩
        · exact .inl ⟨_, s.counters.node, rfl⟩
      unfold State.cacheCheck
      split
      · split
        · exact .inl ⟨_, _, rfl⟩
        · exact go _ rfl
      · split
        · exact .inl ⟨_, _, rfl⟩
        · exact go _ rfl
      · exact go _ rfl
    · exact ⟨s, rfl, .inl rfl⟩
  · exact ⟨s, rfl, .inl rfl⟩

/-- A command new to its manager's entry goes on, with the entry in progress (07 R137, R138). -/
theorem State.cacheCheck_new {s : State} {f : Frame} (go : State → State) (h : s.Takes f) :
    s.cacheCheck f go = go (s.begun f) := by
  obtain ⟨-, -, h3, h4⟩ := h
  unfold State.cacheCheck
  split
  · rename_i tag r he
    split
    · rename_i ht; exact absurd (ht ▸ he) (h3 r)
    · rfl
  · rename_i tag he
    split
    · rename_i ht; exact absurd (ht ▸ he) h4
    · rfl
  · rfl

/-- A new command that its row accepts goes to its length rule. -/
theorem State.command_new {s : State} {f : Frame} {accepts : Frame → Bool} (ok : List Byte → Bool)
    (body : Frame → State → State) (h : s.Takes f) (ha : accepts f = true) :
    s.command accepts ok body = .next ((s.begun f).lengthCheck f ok (body f)) := by
  unfold State.command
  rw [h.1]
  dsimp only
  rw [h.2.1, ha, State.cacheCheck_new _ h]
  rfl

/-- A new command that keeps its length rule is carried out by its body. -/
theorem State.command_taken {s : State} {f : Frame} {accepts : Frame → Bool} {ok : List Byte → Bool}
    {body : Frame → State → State} (h : s.Takes f) (ha : accepts f = true) (hl : ok f.payload = true) :
    s.command accepts ok body = .next (body f (s.begun f)) := by
  rw [State.command_new ok body h ha, State.lengthCheck, if_pos hl]

/-- A new command that breaks its length rule is answered BAD_LENGTH (07 R135, check 3). -/
theorem State.command_badLength {s : State} {f : Frame} {accepts : Frame → Bool} {ok : List Byte → Bool}
    {body : Frame → State → State} (h : s.Takes f) (ha : accepts f = true) (hl : ok f.payload = false) :
    s.command accepts ok body = .next (s.answered f .badLength []) := by
  rw [State.command_new ok body h ha, State.lengthCheck, if_neg (by simp [hl])]
  rfl

/-- A repeat of an answered command is answered from the cache and counted (07 R138). -/
theorem State.command_answered {s : State} {f r : Frame} {accepts : Frame → Bool} {ok : List Byte → Bool}
    {body : Frame → State → State} (h : s.mgmt.inHand = some f) (hf : f.addressed = true) (ha : accepts f = true)
    (he : s.mgmt.entry f.aux = .answered f.seq r) :
    s.command accepts ok body =
      .next { s.countNode fun c => { c with retransmitAnswered := c.retransmitAnswered + 1 } with mgmt := s.mgmt.offer r } := by
  unfold State.command State.cacheCheck
  rw [h]
  simp only [hf, ha, Bool.and_self, if_true, he]
  rfl

/-- A repeat of a command in progress is dropped and counted (07 R138). -/
theorem State.command_inProgress {s : State} {f : Frame} {accepts : Frame → Bool} {ok : List Byte → Bool}
    {body : Frame → State → State} (h : s.mgmt.inHand = some f) (hf : f.addressed = true) (ha : accepts f = true)
    (he : s.mgmt.entry f.aux = .inProgress f.seq) :
    s.command accepts ok body =
      .next (s.countNode fun c => { c with dupInProgress := c.dupInProgress + 1 }).leave := by
  unfold State.command State.cacheCheck
  rw [h]
  simp only [hf, ha, Bool.and_self, if_true, he]

/-- The lease checks end in an answer, or in the command's own checks with the lease renewed or as it was (05 R88). -/
theorem State.leaseCheck_cases (s : State) (f : Frame) (renews : Bool) (go : State → State) :
    (∃ st p, s.leaseCheck f renews go = s.respond f st p) ∨ s.leaseCheck f renews go = go s.renewLease ∨
      s.leaseCheck f renews go = go s := by
  unfold State.leaseCheck
  split
  · exact .inl ⟨_, _, rfl⟩
  · split
    · cases renews
      · exact .inr (.inr rfl)
      · exact .inr (.inl rfl)
    · exact .inl ⟨_, _, rfl⟩

/-! ### The broadcast copies -/

/-- All that `State.broadcastCopy` can come to: nothing, a miss, or the copy's body. -/
theorem State.broadcastCopy_cases (s : State) (code : Byte) (body : Frame → State → State) :
    ∃ t, s.broadcastCopy code body = .next t ∧
      (t = s ∨ t = s.applyMiss ∨
        ∃ f, s.mgmt.inHand = some f ∧ f.addressed = false ∧ f.code = code ∧ f.payload.length = 1 ∧ t = body f s) := by
  unfold State.broadcastCopy
  split
  · rename_i f hf
    split
    · rename_i ha
      refine ⟨_, rfl, ?_⟩
      split
      · simp only [Frame.hasCode, Bool.and_eq_true, Bool.not_eq_true', beq_iff_eq] at ha
        exact .inr (.inr ⟨f, hf, ha.1, ha.2, ‹_›, rfl⟩)
      · exact .inr (.inl rfl)
    · exact ⟨s, rfl, .inl rfl⟩
  · exact ⟨s, rfl, .inl rfl⟩

end Sys2Proof.Machine
end

