-- ==== Sys2Proof/Laws/Ops.lean ====
section
/-! SUPPORT. One lemma for each shared operation, saying once what it does: fixed vectors, the reply cache, the response path, conversion start, raising, pages. -/

namespace Sys2Proof.Machine

/-! ### One of a fixed number of like things -/

/-- Reading a changed vector, the index as a number. -/
@[simp] theorem vmod_getElem_nat {α : Type} {n : Nat} (v : Vector α n) (i : Fin n) (f : α → α) (j : Nat) (h : j < n) :
    (vmod v i f)[j] = if i.val = j then f v[j] else v[j] := by
  unfold vmod
  rw [Vector.getElem_set]
  split
  · rename_i e; subst e; rfl
  · rfl

/-- Reading a changed vector. -/
theorem vmod_getElem {α : Type} {n : Nat} (v : Vector α n) (i j : Fin n) (f : α → α) :
    (vmod v i f)[j] = if i = j then f v[j] else v[j] := by
  simp [Fin.ext_iff]

/-- The entry changed. -/
theorem vmod_self {α : Type} {n : Nat} (v : Vector α n) (i : Fin n) (f : α → α) : (vmod v i f)[i] = f v[i] := by simp

/-- Every other entry. -/
theorem vmod_other {α : Type} {n : Nat} (v : Vector α n) {i j : Fin n} (f : α → α) (h : i ≠ j) : (vmod v i f)[j] = v[j] := by
  rw [vmod_getElem, if_neg h]

/-- Reading a context after one is changed. -/
@[simp] theorem State.context_modContext (s : State) (k j : ContextId) (f : Context → Context) :
    (s.modContext k f).context j = if k = j then f (s.context j) else s.context j := vmod_getElem ..

/-- Reading a descriptor after one is changed. -/
@[simp] theorem State.curve_modCurve (s : State) (c d : CurveId) (f : Curve → Curve) :
    (s.modCurve c f).curve d = if c = d then f (s.curve d) else s.curve d := vmod_getElem ..

/-- Reading the map after one entry is written. -/
@[simp] theorem ChannelTable.lookup_setEntry (t : ChannelTable) (a b : Byte) (k : Option ContextId) :
    (t.setEntry a k).lookup b = if a = b then k else t.lookup b := by
  refine (vmod_getElem t.map a.toFin b.toFin fun _ => k).trans ?_
  by_cases h : a = b
  · rw [if_pos h, if_pos (by rw [h])]
  · rw [if_neg h, if_neg fun e => h (BitVec.eq_of_toFin_eq e)]
    rfl

/-! ### The reply cache -/

@[simp] theorem Management.entry_setEntry_self (m : Management) (b : Byte) (e : CacheEntry) : (m.setEntry b e).entry b = e :=
  vmod_self ..

/-- A command begun has its entry in progress. -/
theorem State.begun_entry (s : State) (f : Frame) : (s.begun f).mgmt.entry f.aux = .inProgress f.seq := by
  simp [State.begun]

/-- A response is stored where its tag is in progress (07 R136). -/
theorem Management.store_of_inProgress {m : Management} {r : Frame} (h : m.entry r.aux = .inProgress r.seq) :
    m.store r = m.setEntry r.aux (.answered r.seq r) := if_pos h

/-- A response is stored nowhere else (07 R136). -/
theorem Management.store_of_ne {m : Management} {r : Frame} (h : m.entry r.aux ≠ .inProgress r.seq) : m.store r = m := if_neg h

/-! ### The response path (07 R134, R142) -/

theorem Management.leave_nil {m : Management} (h : m.commandQueue = []) :
    m.leave = { m with state := .idle, current := none, readBack := none } := by
  unfold Management.leave; rw [h]

theorem Management.leave_cons {m : Management} {f : Frame} {rest : List Frame} (h : m.commandQueue = f :: rest) :
    m.leave = { m with state := .executing, current := some f, readBack := none, commandQueue := rest } := by
  unfold Management.leave; rw [h]

theorem Management.offer_placed {m : Management} (r : Frame) (h : m.responseQueue.length < Config.responseQueueSize) :
    m.offer r = { m with responseQueue := m.responseQueue ++ [r] }.leave := if_pos h

theorem Management.offer_held {m : Management} (r : Frame) (h : ¬ m.responseQueue.length < Config.responseQueueSize) :
    m.offer r = { m with state := .posting, waiting := m.waiting ++ [⟨.engine, r⟩] } := if_neg h

/-- What leaving a command keeps. -/
theorem Management.leave_frame (m : Management) :
    m.leave.address = m.address ∧ m.leave.params = m.params ∧ m.leave.cache = m.cache ∧ m.leave.waiting = m.waiting ∧
      m.leave.responseQueue = m.responseQueue ∧ m.leave.readBack = none := by
  unfold Management.leave; split <;> simp

/-- What offering a response keeps. -/
theorem Management.offer_frame (m : Management) (r : Frame) :
    (m.offer r).address = m.address ∧ (m.offer r).params = m.params ∧ (m.offer r).cache = m.cache := by
  unfold Management.offer; split
  · obtain ⟨h1, h2, h3, -, -, -⟩ := Management.leave_frame { m with responseQueue := m.responseQueue ++ [r] }
    exact ⟨h1, h2, h3⟩
  · simp

/-- The node keeps its address and parameters when it answers. -/
theorem Management.respond_frame (m : Management) (f : Frame) (st : Status) (p : List Byte) :
    (m.respond f st p).address = m.address ∧ (m.respond f st p).params = m.params := by
  have hs : ∀ r, (m.store r).address = m.address ∧ (m.store r).params = m.params := by
    intro r; unfold Management.store; split <;> simp [Management.setEntry]
  unfold Management.respond
  obtain ⟨h1, h2, -⟩ := Management.offer_frame (m.store (responseFrame m.address f.seq f.aux st p)) (responseFrame m.address f.seq f.aux st p)
  exact ⟨h1.trans (hs _).1, h2.trans (hs _).2⟩

/-- When a frame repeats a command whose answer is still to come out (07 R139, log 27). -/
theorem Management.repeatsUnanswered_iff (m : Management) (f : Frame) :
    m.repeatsUnanswered f = true ↔
      m.entry f.aux = .inProgress f.seq ∨
        ((∃ r, m.entry f.aux = .answered f.seq r) ∧ ∃ h ∈ m.waiting, h.frame.aux = f.aux ∧ h.frame.seq = f.seq) := by
  unfold Management.repeatsUnanswered Management.holdsAnswer
  cases m.entry f.aux with
  | empty => simp
  | inProgress t => simp
  | answered t r =>
    simp only [Bool.and_eq_true, beq_iff_eq, List.any_eq_true, reduceCtorEq, false_or, CacheEntry.answered.injEq]
    constructor
    · rintro ⟨rfl, h⟩; exact ⟨⟨r, rfl, rfl⟩, h⟩
    · rintro ⟨⟨r', rfl, -⟩, h⟩; exact ⟨rfl, h⟩

/-! ### Conversion start (04 R70) -/

/-- An eligible slot is QUEUED. -/
theorem Conditioner.eligible_queued (c : Conditioner) {i : SlotId} (l : List SlotId) (busy : List ContextId)
    (h : c.eligible busy l = some i) : ∃ w, c.slots[i] = some w ∧ w.phase = .queued := by
  induction l generalizing busy with
  | nil => simp [Conditioner.eligible] at h
  | cons j rest ih =>
    unfold Conditioner.eligible at h
    split at h
    · rename_i w hw
      split at h
      · split at h
        · exact ih _ h
        · cases h; exact ⟨w, hw, ‹_›⟩
      · exact ih _ h
      · exact ih _ h
    · exact ih _ h

/-- One start: none, or the eligible slot on the IDLE unit. -/
theorem State.startOne_cases (s : State) :
    s.startOne = s ∨ ∃ u i w, s.conditioner.idleUnit = some u ∧ s.conditioner.eligible [] s.conditioner.age = some i ∧
      s.conditioner.slots[i] = some w ∧ w.phase = .queued ∧ s.startOne = s.startOn u i := by
  unfold State.startOne
  split
  · rename_i u i hu hi
    obtain ⟨w, hw, hp⟩ := s.conditioner.eligible_queued _ _ hi
    exact .inr ⟨u, i, w, hu, hi, hw, hp, rfl⟩
  · exact .inl rfl

/-! ### Raising (08 R152 to R154) -/

/-- A raise touches the notice unit and the node counters alone. -/
theorem State.raise_frame (s : State) (k : NoticeKind) (b : Byte) (l : List Byte) :
    ∃ u c, s.raise k b l = { s with notices := u, counters := { s.counters with node := c } } := ⟨_, _, rfl⟩

/-- A raise leaves the sequence counter where the notice does not enter the window. -/
theorem NoticeUnit.raise_cases (u : NoticeUnit) (mask : Half) (n : Notice) :
    u.raise mask n = u ∨ (u.window.length < Config.windowSize ∧ u.raise mask n = u.enter n) ∨
      (¬ u.window.length < Config.windowSize ∧
        (u.raise mask n = { u with held := u.held.map fun h => if n.matches h then n.merge h else h } ∨
         (u.held.length < Config.heldSize ∧ u.held.any n.matches = false ∧ u.raise mask n = { u with held := u.held ++ [n] }) ∨
         u.raise mask n = { u with lost := true })) := by
  unfold NoticeUnit.raise NoticeUnit.raiseOutcome
  by_cases h1 : mask.getLsbD n.kind.maskBit
  · by_cases h2 : u.window.length < Config.windowSize
    · simp [h1, h2]
    · by_cases h3 : u.held.any n.matches
      · rw [if_pos h1, if_neg h2, if_pos h3]
        exact .inr (.inr ⟨h2, .inl rfl⟩)
      · by_cases h4 : u.held.length < Config.heldSize
        · rw [if_pos h1, if_neg h2, if_neg h3, if_pos h4]
          exact .inr (.inr ⟨h2, .inr (.inl ⟨h4, Bool.eq_false_iff.2 h3, rfl⟩)⟩)
        · rw [if_pos h1, if_neg h2, if_neg h3, if_neg h4]
          exact .inr (.inr ⟨h2, .inr (.inr rfl)⟩)
  · rw [if_neg h1]; exact .inl rfl

/-! ### Pages (03 R45, R50) -/

/-- A pin released from a curve that is not RETIRING with that one pin is only counted. -/
theorem State.unpin_of_not {s : State} {c : CurveId} (h : ¬ ((s.curve c).state = .retiring ∧ (s.curve c).pins - 1 = 0)) :
    s.unpin c = s.modCurve c fun d => { d with pins := d.pins - 1 } := by
  unfold State.unpin
  exact if_neg (by simpa using h)

/-- A RETIRING curve's last pin released empties it (03 R54). -/
theorem State.unpin_of_last {s : State} {c : CurveId} (h : (s.curve c).state = .retiring) (h' : (s.curve c).pins ≤ 1) :
    s.unpin c = (s.modCurve c fun d => { d with pins := d.pins - 1 }).reclaim c := by
  unfold State.unpin
  exact if_pos (by simp [h]; omega)

end Sys2Proof.Machine
end

