-- ==== Sys2Proof/Laws/Period.lean ====
section
/-! SUPPORT. What passing access periods can do, said once: what keeps an event keeps a period and any run of periods; a period with nothing due is its grant. -/

namespace Sys2Proof.Machine

/-! ### What an access period keeps -/

/-- What each event due at the start of a period keeps, the start of a period keeps. -/
theorem State.endDue_keeps {P : State → Prop} (conversion : ∀ s u, P s → P (s.endConversion u))
    (readBack : ∀ s, P s → P s.finishReadBack) (write : ∀ s, P s → P s.completeWrite) {s : State} (h : P s) : P s.endDue :=
  write _ (readBack _ (conversion _ _ (conversion _ _ h)))

/-- What each of those events and a grant keep, an access period keeps. -/
theorem State.accessPeriod_keeps {P : State → Prop} (conversion : ∀ s u, P s → P (s.endConversion u))
    (readBack : ∀ s, P s → P s.finishReadBack) (write : ∀ s, P s → P s.completeWrite) (grant : ∀ s, P s → P s.grantPeriod)
    {s : State} (h : P s) : P s.accessPeriod :=
  grant _ (State.endDue_keeps conversion readBack write h)

/-- What an access period keeps, any number of them keep. -/
theorem State.passUntil_keeps {P : State → Prop} (period : ∀ s, P s → P s.accessPeriod) (done : State → Bool) (n : Nat) {s : State}
    (h : P s) : P (s.passUntil done n) := by
  induction n generalizing s with
  | zero => exact h
  | succ n ih =>
    unfold State.passUntil
    split
    · exact h
    · exact ih (period s h)

/-! ### Nothing due -/

theorem State.endConversion_of_not_done {s : State} {u : UnitId} (h : s.unitDone u = false) : s.endConversion u = s := by
  simp [State.endConversion, h]

theorem State.finishReadBack_of_not_done {s : State} (h : s.readBackDone = false) : s.finishReadBack = s := by
  unfold State.finishReadBack
  split
  · rename_i r hr
    rw [if_neg (by simpa [State.readBackDone, hr] using h)]
  · rfl

theorem State.completeWrite_of_not_done {s : State} (h : s.pageWriteDone = false) : s.completeWrite = s := by
  simp [State.completeWrite, h]

/-- A period with nothing due is its grant. -/
theorem State.accessPeriod_of_not_due {s : State} (h0 : s.unitDone 0 = false) (h1 : s.unitDone 1 = false)
    (hr : s.readBackDone = false) (hw : s.pageWriteDone = false) : s.accessPeriod = s.grantPeriod := by
  unfold State.accessPeriod State.endDue
  rw [State.endConversion_of_not_done h0, State.endConversion_of_not_done h1, State.finishReadBack_of_not_done hr,
    State.completeWrite_of_not_done hw]

/-! ### Runs of periods -/

theorem State.passUntil_of_done {s : State} {done : State → Bool} (h : done s = true) (n : Nat) : s.passUntil done n = s := by
  cases n with
  | zero => rfl
  | succ n => simp [State.passUntil, h]

theorem State.passUntil_succ {s : State} {done : State → Bool} (h : done s = false) (n : Nat) :
    s.passUntil done (n + 1) = s.accessPeriod.passUntil done n := by
  simp [State.passUntil, h]

/-- A run that has met its condition is no longer under a greater bound. -/
theorem State.passUntil_of_le {s : State} {done : State → Bool} {m n : Nat} (hmn : m ≤ n)
    (h : done (s.passUntil done m) = true) : s.passUntil done n = s.passUntil done m := by
  induction m generalizing s n with
  | zero => exact State.passUntil_of_done h n
  | succ m ih =>
    obtain ⟨n, rfl⟩ : ∃ k, n = k + 1 := ⟨n - 1, by omega⟩
    cases hd : done s with
    | true => rw [State.passUntil_of_done hd, State.passUntil_of_done hd]
    | false =>
      rw [State.passUntil_succ hd] at h ⊢
      rw [State.passUntil_succ hd]
      exact ih (by omega) h

end Sys2Proof.Machine
end

