-- ==== Sys2Proof/WellFormed.lean ====
section
/-! DEFINITION. Which commands are well formed: operands that name something the part has. -/

namespace Sys2Proof

/-- A conversion unit is numbered 0 or 1 (04 R65); a frame arrival delivers a run of at least one byte (01 R9). -/
def Instr.wellFormed : Instr → Bool
  | .conversionEnd unit => unit < 2
  | .frameArrival _ run => !run.isEmpty
  | .resetnRelease | .carrierDetect _ | .alignmentAchieved _ | .carrierLoss _ | .dataClassifierTake
  | .lookup | .cqEntry | .fenceApply | .commandClassifierTake | .unknownCommand | .ping | .getStatus
  | .setParam | .resetNodeSoft | .resetNodeFull | .mapChannel | .setChannel | .getChannel | .openLease
  | .stageKnots | .clearStaging | .readStaging | .writePage | .pageWriteCompletion | .defineCurve
  | .defineCurveCheckDone | .closeLease | .leaseExpiry | .getCurve | .readKnots | .readKnotsDone
  | .deleteCurve | .bindChannels | .prepareBind | .applyBind | .applyBindBroadcast | .cancelBind
  | .cancelBindBroadcast | .ackNotices | .resumeNotices | .readCounters | .noticeRetryExpiry
  | .dPortTaking | .dPortDiscardTaking | .frameSent _ | .upQueueTake | .upQueueDiscard
  | .postedResponsePlaced | .millisecondTick => true

end Sys2Proof
end

