-- ==== Sys2Proof/Tests/Slice0.lean ====
section
/-! SUPPORT. Tests: ill-formed commands refused by the well-formedness check, one or two steps of each command on a small state, and for each statement a state and
operands that meet its hypotheses, clause by clause at the boundaries. -/

namespace Sys2Proof.Tests

open Sys2Proof Sys2Proof.Machine

-- One theorem at a time: kernel evaluations that wait for each other would each take a thread.
set_option Elab.async false

/-! ### Ill-formed commands -/

theorem test_wellFormed_conversionEnd : Instr.wellFormed (.conversionEnd 1) = true ∧ Instr.wellFormed (.conversionEnd 2) = false := by decide

theorem test_wellFormed_frameArrival :
    Instr.wellFormed (.frameArrival .uPort [0]) = true ∧ Instr.wellFormed (.frameArrival .dPort []) = false := by decide

theorem test_decode_none : decodeTableWord 16 0x1234 = none := rfl

/-! ### Small states -/

/-- A command frame of manager 2 with tag 7 to node 5. -/
def cmd (code : Byte) (payload : List Byte) : Frame := ⟨.cmd, 5, 7, 2, code, payload⟩

/-- A part with the address 5. -/
def node : State := { State.reset with mgmt := { Management.reset with address := 5 } }

/-- The engine EXECUTING a command frame. -/
def holding (f : Frame) (s : State) : State := { s with mgmt := { s.mgmt with state := .executing, current := some f } }

/-- Node 5 with a command in hand. -/
def hand (f : Frame) : State := holding f node

/-- The state after, where there is one. -/
def after (o : Host.Outcome State Fault Refusal) : State :=
  match o with
  | .next t => t
  | .fault _ => State.reset
  | .refused _ => State.reset

/-- The outcome is a next state that passes a check. -/
def passes (o : Host.Outcome State Fault Refusal) (check : State → Bool) : Bool :=
  match o with
  | .next t => check t
  | .fault _ => false
  | .refused _ => false

/-- The outcome is a next state whose newest response is the one given, and the engine has left the command. -/
def answers (o : Host.Outcome State Fault Refusal) (status : Status) (payload : List Byte) : Bool :=
  passes o fun t => t.mgmt.responseQueue.getLast? == some ⟨.resp, 5, 7, 2, status.code, payload⟩ && t.mgmt.state == .idle

/-- A command in hand whose manager's cache entry is EMPTY is new. -/
theorem takes_holding {s : State} {f : Frame} (h : s.mgmt.readBack = none) (ha : f.addressed = true)
    (he : s.mgmt.entry f.aux = .empty) : (holding f s).Takes f := by
  have hent : (holding f s).mgmt.entry f.aux = .empty := he
  refine ⟨by simp [holding, Management.inHand, h], ha, fun r => ?_, ?_⟩ <;> rw [hent] <;> simp

/-- A command in hand at node 5 is new. -/
theorem takes_hand (code : Byte) (payload : List Byte) : (hand (cmd code payload)).Takes (cmd code payload) :=
  takes_holding rfl rfl (by decide +kernel : node.mgmt.entry 2 = .empty)

/-- The lease OPEN for manager 2, with a timer of 200 and 3 ticks counted. -/
def lease : Lease := ⟨2, 200, 3⟩

/-- A part with the lease OPEN. -/
def leased (s : State) : State := { s with loader := { s.loader with lease := some lease } }

/-- A loader command in hand at node 5, its sender the owner. -/
def owner (f : Frame) : State := leased (hand f)

/-- A loader command in hand, its sender the owner of the lease. -/
theorem holds_owner (code : Byte) (payload : List Byte) : (owner (cmd code payload)).Holds (cmd code payload) lease :=
  ⟨⟨(takes_hand code payload).1, (takes_hand code payload).2.1, (takes_hand code payload).2.2.1, (takes_hand code payload).2.2.2⟩, rfl, rfl⟩

/-- A page write in flight on page 0, its next slot given. -/
def writing (next : Nat) (s : State) : State :=
  { s with
    store := { s.store with free := s.store.free.tail, loose := [⟨0, true⟩] }
    loader := { s.loader with state := .writing, write := some ⟨0, 2, 7, false, next⟩ } }

/-- Two knots on page 1: x 0 and 100, y 0 and 200. -/
def knotPage : Vector Knot 16 := (blankPage.set 1 ⟨100, 200⟩)

/-- A LIVE curve 4 of the two knots of page 1, bound to context 3 in COND, mapped from channel 9. -/
def conditioning : State :=
  { node with
    table := {
      map := vmod (.replicate 256 none) 9 fun _ => some 3
      contexts := vmod (.replicate 64 .reset) 3 fun c => { c with channel := some 9, mode := .cond, curve := some 4 } }
    store := { CurveStore.reset with
      pages := vmod (.replicate 128 blankPage) 1 fun _ => knotPage
      free := 0 :: (List.finRange 128).drop 2
      curves := vmod (.replicate 48 .reset) 4 fun _ => ⟨.live, 2, [1], 1, 1, 0, 0⟩ } }

/-- A SAMPLE frame of channel 9 with sequence 3 and one sample, 50. -/
def sample : Frame := ⟨.sample, 9, 3, 1, 0, [0, 1, 0, 50]⟩

/-- `conditioning` with the sample at the head of the U-port buffer. -/
def sampleWaits : State := { conditioning with uPort := ⟨.up, [sample], .idle⟩ }

/-- After its lookup: slot 0 CONVERTING on unit 0. -/
def converting : State := after (exec .lookup sampleWaits)

/-- After its conversion end, the conditioned queue full before it: slot 0 READY. -/
def full : CqEntry := ⟨⟨.csample, 1, 0, 1, 0, [0, 0, 0, 0, 0]⟩, 1⟩

/-- Slot 0 READY behind a full conditioned queue. -/
def ready : State :=
  after (exec (.conversionEnd 0) { converting with merger := { converting.merger with cq := [full, full, full, full] } })

/-- `ready` with the conditioned queue emptied. -/
def readyWithSpace : State := { ready with merger := { ready.merger with cq := [] } }

/-! ### One step of each command -/

theorem test_resetnRelease : passes (exec .resetnRelease { sampleWaits with pending := [.ping] })
    (fun t => t.uPort.buffer.isEmpty && t.mgmt.address == 0 && t.pending == [.ping]) = true := by decide +kernel

theorem test_carrierDetect : passes (exec (.carrierDetect .uPort) node) (fun t => t.uPort.link == .align) = true := by decide +kernel

theorem test_alignmentAchieved :
    passes (exec (.alignmentAchieved .dPort) { node with dPort := ⟨.align, [], .idle⟩ }) (fun t =>
      t.dPort.link == .up && t.notices.window.map (fun e => (e.notice.kind, e.notice.subject, e.notice.fields, e.seq)) ==
        [(.nodeStart, 0, [1], 0), (.linkChange, 1, [2], 1)]) = true := by decide +kernel

theorem test_carrierLoss :
    passes (exec (.carrierLoss .uPort) { node with uPort := ⟨.up, [sample], .sending [1]⟩ }) (fun t =>
      t.uPort == ⟨.down, [], .idle⟩ && t.counters.uPort.linkFlush == 1 && t.counters.uPort.outDiscard == 1) = true := by
  decide +kernel

theorem test_frameArrival :
    passes (exec (.frameArrival .uPort sample.wire) { node with uPort := ⟨.up, [], .idle⟩ }) (fun t =>
      t.uPort.buffer == [sample]) = true := by decide +kernel

theorem test_frameArrival_crc :
    passes (exec (.frameArrival .uPort (sample.body ++ [0, 0])) { node with uPort := ⟨.up, [], .idle⟩ }) (fun t =>
      t.uPort.buffer.isEmpty && t.counters.uPort.crcErr == 1) = true := by decide +kernel

theorem test_dataClassifierTake :
    passes (exec .dataClassifierTake { node with uPort := ⟨.up, [sample], .idle⟩ }) (fun t =>
      t.uPort.buffer.isEmpty && t.merger.fq == [sample] && t.counters.node.unmappedFwd == 1) = true := by decide +kernel

theorem test_lookup : (converting.conditioner.slots[0].map fun w => (w.phase, w.curve, w.samples)) = some (.converting 0, 4, [50]) ∧
    (converting.context 3).expected = some 4 ∧ (converting.curve 4).pins = 1 ∧ converting.uPort.buffer = [] := by decide +kernel

theorem test_conversionEnd :
    passes (exec (.conversionEnd 0) converting) (fun t => t.merger.cq ==
      [⟨⟨.csample, 9, 0, 1, 0, [0, 1, 0, 100, 0]⟩, 3⟩] && t.conditioner.slots[0] == none && (t.curve 4).pins == 0) = true := by
  decide +kernel

/-- Contexts 3 and 4, of channels 9 and 10, both bound to curve 4, their frames converting on unit 0 and on unit 1. -/
def twoConverting : State :=
  let bound := (sampleWaits.modContext 4 fun c => { c with channel := some 10, mode := .cond, curve := some 4 }).modCurve 4 fun d => { d with refs := 2 }
  after (exec .lookup (after (exec .lookup { bound with
    table := bound.table.setEntry 10 (some 4), uPort := ⟨.up, [sample, { sample with addr := 10 }], .idle⟩ })))

/-- The younger frame's CONVERSION_END lets the older one, whose last read is granted first, end before it (04 R75). -/
theorem test_conversionEnd_order :
    twoConverting.conditioner.units.map (fun u => u.map BusyUnit.slot) = #v[some 0, some 1] ∧
    passes (exec (.conversionEnd 1) twoConverting) (fun t => t.merger.cq.map (fun e => e.frame.addr) == [9, 10] &&
      t.conditioner.units == #v[none, none]) = true := by decide +kernel

theorem test_cqEntry :
    (ready.conditioner.ready = [0] ∧ ready.merger.cq.length = 4) ∧
    passes (exec .cqEntry readyWithSpace) (fun t => t.merger.cq.length == 1 && t.conditioner.ready == [] && (t.context 3).inFlight == 0) = true := by
  decide +kernel

/-- SET_CHANNEL of context 3 to OFF, fenced on a frame in flight. -/
def fenced : State := after (exec .setChannel (holding (cmd 0x11 [3, 0, 1, 3]) converting))

/-- The fenced command with its context quiet: what FENCE_APPLY takes. -/
def quiet : State := fenced.modContext 3 fun c => { c with inFlight := 0 }

theorem test_fenceApply :
    fenced.mgmt.state = .fenceWait ∧
    answers (exec .fenceApply quiet) .ok [3, 0] = true ∧
    passes (exec .fenceApply quiet) (fun t => (t.context 3).mode == .off && !(t.context 3).fenced) = true := by decide +kernel

theorem test_fence_by_release :
    passes (exec (.conversionEnd 0) fenced) (fun t => t.mgmt.state == .idle && (t.context 3).mode == .off && t.merger.cq.length == 1) = true := by
  decide +kernel

theorem test_commandClassifierTake :
    passes (exec .commandClassifierTake { node with dPort := ⟨.up, [cmd 1 []], .idle⟩ }) (fun t =>
      t.mgmt.current == some (cmd 1 []) && t.mgmt.state == .executing && t.dPort.buffer.isEmpty) = true := by decide +kernel

/-- A repeat of WRITE_PAGE arriving; its cache entry is answered, and its response held by the loader in POSTING, or placed. -/
def repeatArrives (waiting : List HeldResponse) : State :=
  let s : State := { node with dPort := ⟨.up, [cmd 0x24 []], .idle⟩ }
  { s with mgmt := { s.mgmt.setEntry 2 (.answered 7 ⟨.resp, 5, 7, 2, 0, [0, 0]⟩) with waiting := waiting } }

theorem test_commandClassifierTake_repeat_held :
    passes (exec .commandClassifierTake (repeatArrives [⟨.loader, ⟨.resp, 5, 7, 2, 0, [0, 0]⟩⟩])) (fun t =>
      t.mgmt.state == .idle && t.counters.node.dupInProgress == 1) = true ∧
    passes (exec .commandClassifierTake (repeatArrives [])) (fun t =>
      t.mgmt.current == some (cmd 0x24 []) && t.counters.node.dupInProgress == 0) = true := by decide +kernel

theorem test_enumeration :
    passes (exec .commandClassifierTake { node with dPort := ⟨.up, [⟨.enum, 62, 0, 0, 0, []⟩], .idle⟩ }) (fun t =>
      t.mgmt.address == 62 && t.merger.uq == [⟨.enum, 63, 0, 0, 0, []⟩]) = true := by decide +kernel

theorem test_unknownCommand : answers (exec .unknownCommand (hand (cmd 0x7F []))) .unknown [0x7F] = true := by decide +kernel

theorem test_ping : answers (exec .ping (hand (cmd 1 []))) .ok [5, 0x0C, 0x40, 1] = true ∧
    answers (exec .ping (hand (cmd 1 [0]))) .badLength [] = true := by decide +kernel

theorem test_getStatus : answers (exec .getStatus (owner (cmd 2 [0]))) .ok
    [5, 1, 2, 0, 197, 0, 0, 0, 128, 0, 48, 0, 0, 0, 0, 0, 0, 1, 0, 0, 0, 0] = true := by decide +kernel

theorem test_setParam : answers (exec .setParam (hand (cmd 3 [1, 0x09, 0xF6]))) .ok [1, 0, 200, 0x09, 0xF6] = true ∧
    answers (exec .setParam (hand (cmd 3 [1, 0, 15]))) .badArg [2] = true := by decide +kernel

theorem test_resetNodeSoft : answers (exec .resetNodeSoft (holding (cmd 4 [1]) converting)) .ok [1] = true ∧
    passes (exec .resetNodeSoft (holding (cmd 4 [1]) converting)) (fun t =>
      t.conditioner.slots[0] == none && (t.context 3).inFlight == 0 && (t.curve 4).pins == 0 && (t.curve 4).state == .live) = true := by
  decide +kernel

theorem test_resetNodeFull : answers (exec .resetNodeFull (holding (cmd 4 [2]) converting)) .ok [2] = true ∧
    passes (exec .resetNodeFull (holding (cmd 4 [2]) converting)) (fun t =>
      (t.curve 4).state == .empty && t.notices.window.map (fun e => e.notice.fields) == [[2]]) = true := by decide +kernel

theorem test_mapChannel : answers (exec .mapChannel (hand (cmd 0x10 [9, 3]))) .ok [9, 0xFF, 3] = true ∧
    answers (exec .mapChannel (holding (cmd 0x10 [8, 3]) conditioning)) .inUse [9] = true := by decide +kernel

theorem test_setChannel :
    answers (exec .setChannel (hand (cmd 0x11 [3, 1, 16, 7, 0xFF, 0xF6, 0, 10, 0, 5]))) .ok [3, 0] = true ∧
    answers (exec .setChannel (hand (cmd 0x11 [3, 2, 1, 0]))) .badState [] = true := by decide +kernel

theorem test_getChannel : answers (exec .getChannel (holding (cmd 0x12 [3]) conditioning)) .ok
    [3, 0x33, 9, 2, 4, 1, 0, 0, 0, 0, 0, 0, 0, 0, 0, 0, 0, 0, 0, 0, 0, 0] = true := by decide +kernel

theorem test_openLease : answers (exec .openLease (hand (cmd 0x20 []))) .ok [0, 0, 200] = true ∧
    answers (exec .openLease (writing 0 (hand (cmd 0x20 [])))) .busy [0xFF, 0, 0] = true := by decide +kernel

theorem test_stageKnots :
    answers (exec .stageKnots (owner (cmd 0x21 [0, 15, 0, 1, 0, 2, 0, 3, 0, 4]))) .ok [15, 1, 1] = true ∧
    passes (exec .stageKnots (owner (cmd 0x21 [0, 15, 0, 1, 0, 2, 0, 3, 0, 4]))) (fun t =>
      t.loader.staging.slots[15] == ⟨3, 4⟩ && t.loader.lease == some ⟨2, 200, 0⟩) = true := by decide +kernel

theorem test_clearStaging : answers (exec .clearStaging (owner (cmd 0x22 []))) .ok [] = true ∧
    answers (exec .clearStaging (hand (cmd 0x22 []))) .noLease [] = true := by decide +kernel

theorem test_readStaging : answers (exec .readStaging (owner (cmd 0x23 [15, 1]))) .ok [15, 1, 0, 0, 0, 0, 0, 0] = true ∧
    answers (exec .readStaging (owner (cmd 0x23 [15, 2]))) .badArg [] = true := by decide +kernel

theorem test_writePage :
    passes (exec .writePage (owner (cmd 0x24 []))) (fun t => t.store.loose == [⟨0, true⟩] && t.store.free.length == 127 &&
      t.loader.state == .writing && t.loader.lease == some lease && t.mgmt.state == .idle && t.mgmt.responseQueue.isEmpty) = true ∧
    answers (exec .writePage (owner (cmd 0x24 [200]))) .badArg [] = true := by decide +kernel

/-- A page write in flight of a staging page whose slot 15 holds (7, 9), and no other claimant. -/
def lastWrite : State :=
  let s := leased (writing 15 node)
  { s with loader := { s.loader with staging := ⟨blankPage.set 15 ⟨7, 9⟩, 0, false⟩ } }

theorem test_pageWriteCompletion :
    passes (exec .pageWriteCompletion lastWrite) (fun t => t.store.loose == [⟨0, false⟩] && t.store.pages[0][15] == ⟨7, 9⟩ &&
      t.loader.state == .idle && t.mgmt.responseQueue == [⟨.resp, 5, 7, 2, 0, [0, 0]⟩]) = true := by decide +kernel

/-- Page 1, loose, holds two knots; manager 2 has the lease and defines curve 4 of them. -/
def defining (f : Frame) : State :=
  let s := holding f (leased node)
  { s with store := { s.store with
    pages := vmod (.replicate 128 blankPage) 1 fun _ => knotPage
    free := 0 :: (List.finRange 128).drop 2
    loose := [⟨1, false⟩] } }

theorem test_defineCurve :
    passes (exec .defineCurve (defining (cmd 0x25 [4, 1, 1, 2]))) (fun t => t.mgmt.readBack ==
      some ⟨.orderCheck none, 4, 0, [1], 2, 0, 2, []⟩) = true ∧
    answers (exec .defineCurve (defining (cmd 0x25 [4, 1, 2, 2]))) .badArg [2, 0] = true := by decide +kernel

theorem test_defineCurveCheckDone :
    answers (exec .defineCurveCheckDone (after (exec .defineCurve (defining (cmd 0x25 [4, 1, 1, 2]))))) .ok [4, 1, 1, 2] = true ∧
    answers (exec .defineCurveCheckDone (after (exec .defineCurve (defining (cmd 0x25 [4, 1, 1, 3]))))) .badArg [4, 2] = true := by
  decide +kernel

theorem test_closeLease : answers (exec .closeLease (defining (cmd 0x26 []))) .ok [1] = true ∧
    passes (exec .closeLease (defining (cmd 0x26 []))) (fun t => t.loader.lease == none && t.store.free.getLast? == some 1) = true := by
  decide +kernel

/-- A lease on its last tick. -/
def dueLease : State := { defining (cmd 1 []) with loader := { Loader.reset with lease := some ⟨2, 200, 199⟩ } }

theorem test_leaseExpiry :
    passes (exec .leaseExpiry dueLease) (fun t => t.loader.lease == none && t.store.loose.isEmpty &&
      t.notices.window.map (fun e => (e.notice.kind, e.notice.subject, e.notice.fields)) ==
        [(.nodeStart, 0, [1]), (.leaseExpired, 2, [1])]) = true := by decide +kernel

theorem test_getCurve : answers (exec .getCurve (holding (cmd 0x30 [4]) conditioning)) .ok
    [4, 2, 1, 2, 1, 1, 0xFF, 0xFF, 0xFF, 1, 0, 0] = true := by decide +kernel

theorem test_readKnots :
    passes (exec .readKnots (holding (cmd 0x31 [4, 1, 1]) conditioning)) (fun t => t.mgmt.readBack ==
      some ⟨.readKnots, 4, 1, [1], 2, 1, 1, []⟩) = true ∧
    answers (exec .readKnots (holding (cmd 0x31 [4, 1, 2]) conditioning)) .badArg [] = true := by decide +kernel

theorem test_readKnotsDone :
    answers (exec .readKnotsDone (after (exec .readKnots (holding (cmd 0x31 [4, 1, 1]) conditioning)))) .ok
      [4, 1, 1, 1, 0, 100, 0, 200] = true := by decide +kernel

/-- Curve 4 unbound, BUILT, with some pins and reservations. -/
def builtCurve (pins reservations : Nat) (f : Frame) : State :=
  (holding f conditioning).modCurve 4 fun d => { d with state := .built, refs := 0, pins := pins, reservations := reservations }

theorem test_deleteCurve :
    answers (exec .deleteCurve (builtCurve 0 0 (cmd 0x32 [4]))) .ok [4, 0, 1, 0] = true ∧
    passes (exec .deleteCurve (builtCurve 0 0 (cmd 0x32 [4]))) (fun t =>
      (t.curve 4).state == .empty && t.store.free.getLast? == some 1 && t.notices.window.length == 2) = true := by decide +kernel

theorem test_bindChannels :
    answers (exec .bindChannels (holding (cmd 0x40 [9, 4, 1]) conditioning)) .ok [1, 0] = true ∧
    answers (exec .bindChannels (holding (cmd 0x40 [9, 0xFF, 0]) conditioning)) .badArg [5, 0] = true := by decide +kernel

/-- Context 3 in PASS, so that its curve may be taken away. -/
def passing (f : Frame) : State := (holding f conditioning).modContext 3 fun c => { c with mode := .pass }

theorem test_prepareBind :
    answers (exec .prepareBind (passing (cmd 0x41 [8, 9, 0xFF, 1]))) .ok [8, 1] = true ∧
    answers (exec .prepareBind (passing (cmd 0x41 [0, 9, 0xFF, 1]))) .badArg [6, 0] = true := by decide +kernel

/-- A pending set under tag 8 that takes curve 4 from channel 9 and releases it. -/
def pendingSet (f : Frame) : State := { passing f with bind := some ⟨8, [⟨9, none, true⟩]⟩ }

theorem test_applyBind :
    answers (exec .applyBind (pendingSet (cmd 0x42 [8]))) .ok [8, 1, 1] = true ∧
    passes (exec .applyBind (pendingSet (cmd 0x42 [8]))) (fun t =>
      t.bind == none && (t.context 3).curve == none && (t.curve 4).state == .empty) = true := by decide +kernel

/-- A broadcast copy. -/
def copy (code : Byte) (payload : List Byte) : Frame := ⟨.cmd, 63, 7, 2, code, payload⟩

theorem test_applyBindBroadcast :
    passes (exec .applyBindBroadcast (pendingSet (copy 0x42 [8]))) (fun t =>
      t.bind == none && (t.curve 4).state == .empty && t.mgmt.responseQueue.isEmpty && t.mgmt.state == .idle) = true ∧
    passes (exec .applyBindBroadcast (pendingSet (copy 0x42 [9]))) (fun t => t.bind.isSome && t.counters.node.applyMiss == 1) = true := by
  decide +kernel

theorem test_cancelBind : answers (exec .cancelBind (pendingSet (cmd 0x43 [0]))) .ok [8, 1] = true ∧
    answers (exec .cancelBind (pendingSet (cmd 0x43 [9]))) .badArg [8] = true := by decide +kernel

theorem test_cancelBindBroadcast :
    passes (exec .cancelBindBroadcast (pendingSet (copy 0x43 [0]))) (fun t => t.bind == none && t.counters.node.applyMiss == 0) = true ∧
    passes (exec .cancelBindBroadcast (pendingSet (copy 0x43 []))) (fun t => t.bind.isSome && t.counters.node.applyMiss == 1) = true := by
  decide +kernel

theorem test_ackNotices : answers (exec .ackNotices (hand (cmd 0x50 [0]))) .ok [1, 0, 0] = true ∧
    answers (exec .ackNotices (hand (cmd 0x50 [1]))) .badArg [1, 0] = true := by decide +kernel

/-- The unit STALLED on its first notice. -/
def stalled (f : Frame) : State :=
  { hand f with notices := ⟨.stalled, [⟨⟨.nodeStart, 0, [1], 1⟩, 0, true, 4⟩], [], 1, none, false⟩ }

theorem test_resumeNotices : answers (exec .resumeNotices (stalled (cmd 0x51 []))) .ok [1, 1] = true ∧
    answers (exec .resumeNotices (hand (cmd 0x51 []))) .ok [0, 0] = true := by decide +kernel

theorem test_readCounters :
    answers (exec .readCounters (hand (cmd 0x60 [0, 0, 1]))) .ok (0 :: 0 :: 1 :: List.replicate 28 0) = true ∧
    answers (exec .readCounters (hand (cmd 0x60 [3, 64, 0]))) .badArg [2] = true := by decide +kernel

/-- The D-port UP, the first notice sent, its retry timer on the last tick. -/
def dueRetry (transmissions : Nat) : State :=
  { node with
    dPort := ⟨.up, [], .idle⟩
    notices := ⟨.running, [⟨⟨.nodeStart, 0, [1], 1⟩, 0, true, transmissions⟩], [], 1, some ⟨20, 19⟩, false⟩ }

theorem test_noticeRetryExpiry :
    passes (exec .noticeRetryExpiry (dueRetry 3)) (fun t => t.notices.state == .running && t.notices.window.map (fun e => (e.sent, e.transmissions)) == [(false, 3)]) = true ∧
    passes (exec .noticeRetryExpiry (dueRetry 4)) (fun t => t.notices.state == .stalled && t.notices.timer == none) = true := by decide +kernel

/-- The D-port UP with a response and the first notice to send. -/
def sending (pointer : Source) : State :=
  { node with
    dPort := ⟨.up, [], .idle⟩
    mgmt := { node.mgmt with responseQueue := [⟨.resp, 5, 7, 2, 0, []⟩] }
    merger := { node.merger with pointer := pointer } }

theorem test_dPortTaking :
    passes (exec .dPortTaking (sending .cq)) (fun t => t.mgmt.responseQueue.isEmpty && t.merger.pointer == .nu &&
      t.dPort.tx == .sending (Frame.wire ⟨.resp, 5, 7, 2, 0, []⟩)) = true ∧
    passes (exec .dPortTaking (sending .nu)) (fun t => t.merger.pointer == .cq && t.notices.timer == some ⟨20, 0⟩ &&
      t.dPort.tx == .sending (Frame.wire ⟨.notice, 5, 0, 1, 0, [0, 1, 1]⟩)) = true := by decide +kernel

/-- The D-port DOWN with a response to discard. -/
def discarding : State := { sending .cq with dPort := ⟨.down, [], .idle⟩ }

theorem test_dPortDiscardTaking :
    passes (exec .dPortDiscardTaking discarding) (fun t => t.mgmt.responseQueue.isEmpty && t.counters.dPort.outDiscard == 1 &&
      t.dPort.tx == .idle && t.merger.pointer == .nu) = true := by decide +kernel

theorem test_frameSent : passes (exec (.frameSent .dPort) { node with dPort := ⟨.up, [], .sending [1]⟩ })
    (fun t => t.dPort.tx == .idle) = true := by decide +kernel

/-- A frame in the up queue, the U-port in a link state. -/
def goingUp (l : LinkState) : State := { node with uPort := ⟨l, [], .idle⟩, merger := { node.merger with uq := [cmd 1 []] } }

theorem test_upQueueTake : passes (exec .upQueueTake (goingUp .up)) (fun t => t.merger.uq.isEmpty &&
    t.uPort.tx == .sending (cmd 1 []).wire) = true := by decide +kernel

theorem test_upQueueDiscard : passes (exec .upQueueDiscard (goingUp .align)) (fun t => t.merger.uq.isEmpty &&
    t.counters.uPort.outDiscard == 1) = true := by decide +kernel

/-- A response held by the loader, and one by the engine, with room in the response queue. -/
def held (h : Holder) : State :=
  { node with mgmt := { node.mgmt with state := .posting, current := some (cmd 1 []), waiting := [⟨h, cmd 1 []⟩] } }

theorem test_postedResponsePlaced :
    passes (exec .postedResponsePlaced (held .engine)) (fun t => t.mgmt.waiting.isEmpty && t.mgmt.state == .idle &&
      t.mgmt.responseQueue == [cmd 1 []]) = true := by decide +kernel

theorem test_millisecondTick :
    passes (exec .millisecondTick (leased node)) (fun t => t.loader.lease == some ⟨2, 200, 4⟩) = true := by decide +kernel

theorem test_step_idle : passes (step (leased (writing 3 node))) (fun t => t.loader.write.elim false fun r => r.nextSlot == 4) = true := by
  decide +kernel

theorem test_cache_repeat :
    passes (exec .ping (holding (cmd 1 []) (after (exec .ping (hand (cmd 1 [])))))) (fun t =>
      t.counters.node.retransmitAnswered == 1 && t.mgmt.responseQueue.length == 2) = true := by decide +kernel

/-! ### Hypotheses met: steps, links, classifiers -/

/-- An outcome that passes a check is a next state. -/
theorem next_of_passes {o : Host.Outcome State Fault Refusal} {check : State → Bool} (h : passes o check = true) :
    o = .next (after o) := by
  cases o <;> simp_all [passes, after]

theorem witness_StepCarriesOutTheFrontCommand : State.reset.pending = [] := rfl

theorem witness_CommandsWriteOnlyTheirBlocks :
    exec .ping (hand (cmd 1 [])) = .next (after (exec .ping (hand (cmd 1 [])))) ∧ Block.table ∉ mayWrite .ping :=
  ⟨next_of_passes (check := fun _ => true) (by decide +kernel), by decide⟩

theorem witness_OnlyThePageBeingWrittenChanges :
    (exec .pageWriteCompletion lastWrite = .next (after (exec .pageWriteCompletion lastWrite)) ∧ lastWrite.loader.state = .writing ∧
      ∀ r ∈ lastWrite.loader.write, r.page ≠ (1 : PageId)) ∧ node.loader.state ≠ .writing :=
  ⟨⟨next_of_passes (check := fun _ => true) (by decide +kernel), rfl, by decide +kernel⟩, by decide +kernel⟩

theorem witness_CrcRule : runLengthOk (([3, 0, 5, 7, 2, 1] : List Byte) ++ [0, 0]).length
    ((([3, 0, 5, 7, 2, 1] : List Byte).getD 1 0).toNat) = true := by decide

/-- A CMD frame with the longest payload. -/
def longest : Frame := cmd 0x7F (List.replicate 48 0)

theorem witness_FramesAndTheirBytesAgree :
    (longest.payload.length = 48 ∧ kindLengthOk longest.kind longest.aux longest.payload.length = true) ∧
    (sample.payload.length = 4 ∧ kindLengthOk sample.kind sample.aux sample.payload.length = true) ∧
    receive longest.wire = .ok longest ∧ receive sample.wire = .ok sample := by decide +kernel

/-- A port with a full buffer but for `room` places. -/
def upWith (size room : Nat) : LinkPort := ⟨.up, List.replicate (size - room) sample, .idle⟩

theorem witness_FrameArrivalResult :
    ((node.port .uPort).link ≠ .up ∧ (node.port .dPort).link ≠ .up) ∧
    (receive [] = .error .lengthErr ∧ receive (sample.body ++ [0, 0]) = .error .crcErr) ∧
    (receive (cmd 1 []).wire = .ok (cmd 1 []) ∧ receive sample.wire = .ok sample) ∧
    ((Port.uPort = .uPort ↔ (cmd 1 []).kind = .cmd ∨ (cmd 1 []).kind = .enum) ∧
      (Port.dPort = .uPort ↔ sample.kind = .cmd ∨ sample.kind = .enum) ∧
      ¬ (Port.uPort = .uPort ↔ sample.kind = .cmd ∨ sample.kind = .enum) ∧
      ¬ (Port.dPort = .uPort ↔ (cmd 1 []).kind = .cmd ∨ (cmd 1 []).kind = .enum)) ∧
    ((upWith 8 0).buffer.length = bufferSize .uPort ∧ (upWith 8 1).buffer.length < bufferSize .uPort ∧
      (upWith 4 0).buffer.length = bufferSize .dPort ∧ (upWith 4 1).buffer.length < bufferSize .dPort) := by decide +kernel

/-- A run with header bytes kind, length, aux, a payload, and its CRC. -/
def checked (k n x : Byte) (payload : List Byte) : List Byte :=
  k :: n :: 0 :: 0 :: x :: 0 :: (payload ++ halfBytes (crc ([k, n, 0, 0, x, 0] ++ payload)))

theorem witness_ReceiveCheckOrder :
    (([] : List Byte).length < 8 ∧ ([3, 0, 0, 0, 0, 0, 0] : List Byte).length < 8 ∧ (0 : Byte).toNat < 1 ∧ 6 < (7 : Byte).toNat) ∧
    ((checked 3 48 0 (List.replicate 49 0)).length = 57 ∧ (checked 3 0 0 []).dropLast.length = 7 ∧ 48 < (49 : Byte).toNat ∧
      (checked 3 1 0 []).length ≠ 8 + (1 : Byte).toNat) ∧
    (∀ r ∈ [checked 0 0 0 [], checked 7 0 0 [], checked 1 2 0 [0, 0], checked 1 4 1 [0, 0, 0, 0], checked 1 20 9 (List.replicate 20 0),
        checked 2 5 1 [0, 0, 0, 0, 0], checked 2 6 1 (List.replicate 6 0), checked 5 1 1 [0], checked 5 2 1 [0, 0], checked 6 0 0 [],
        checked 6 1 0 [0], checked 3 48 0 (List.replicate 48 0), checked 4 0 0 []],
      r.length = 8 + (r.getD 1 0).toNat ∧ halfBytes (crc (r.take (6 + (r.getD 1 0).toNat))) = r.drop (6 + (r.getD 1 0).toNat)) ∧
    receive (checked 0 0 0 []) = .error .kindErr ∧ receive (checked 7 0 0 []) = .error .kindErr ∧
    receive (checked 1 20 9 (List.replicate 20 0)) = .error .lengthErr ∧ receive (checked 5 1 1 [0]) = .error .lengthErr ∧
    receive (checked 6 1 0 [0]) = .error .lengthErr ∧ receive (checked 3 0 0 [] ++ [0]) = .error .lengthErr ∧
    receive [3, 0, 0, 0, 0, 0, 0, 0] = .error .crcErr := by decide +kernel

theorem witness_LinkEventResults :
    (node.port .uPort).link = .down ∧ ({ node with dPort := ⟨.align, [], .idle⟩ } : State).dPort.link = .align ∧
    (sampleWaits.port .uPort).link = .up := ⟨rfl, rfl, rfl⟩

/-- A frame of another node on its way down. -/
def passThrough : Frame := ⟨.resp, 9, 0, 0, 0, []⟩

/-- A head frame at the U-port, context 3 in a mode, fenced or not, the forward queue holding `n` frames. -/
def headed (f : Frame) (m : Mode) (fence : Bool) (n : Nat) : State :=
  { conditioning with
    uPort := ⟨.up, [f], .idle⟩
    merger := { conditioning.merger with fq := List.replicate n passThrough } }.modContext 3 fun c => { c with mode := m, fenced := fence }

theorem witness_DataClassifierResult :
    (passThrough.kind ≠ .sample ∧ (headed passThrough .off false 8).merger.fq.length = 8 ∧ (headed passThrough .off false 7).merger.fq.length = 7) ∧
    ((headed { sample with addr := 8 } .off false 7).table.lookup 8 = none ∧ node.mgmt.params.unmappedPolicy = .forward) ∧
    ((headed sample .off false 7).table.lookup 9 = some 3 ∧ ((headed sample .pass true 7).context 3).fenced = true ∧
      ((headed sample .off false 7).context 3).mode = .off ∧ ((headed sample .pass false 7).context 3).mode = .pass ∧
      ((headed sample .cond false 7).context 3).mode = .cond ∧ ((headed sample .cond false 7).context 3).fenced = false) ∧
    passes (exec .dataClassifierTake (headed sample .pass false 8)) (fun t => t.uPort.buffer == [sample]) = true ∧
    passes (exec .dataClassifierTake (headed sample .pass false 7)) (fun t => t.merger.fq.length == 8 && t.uPort.buffer.isEmpty) = true := by
  decide +kernel

/-- A head frame at the D-port, the up queue and the command queue holding some frames, the engine busy. -/
def commanded (f : Frame) (up commands : Nat) : State :=
  { node with
    dPort := ⟨.up, [f], .idle⟩
    merger := { node.merger with uq := List.replicate up (cmd 1 []) }
    mgmt := { node.mgmt with
      state := .executing
      current := some (cmd 1 [])
      commandQueue := List.replicate commands (cmd 1 []) } }

theorem witness_CommandClassifierResult :
    (3 < ({ cmd 1 [] with aux := 4 } : Frame).aux.toNat ∧ ({ cmd 1 [] with aux := 3 } : Frame).aux.toNat ≤ 3) ∧
    ((copy 0x42 [8]).addr = 63 ∧ (commanded (copy 0x42 [8]) 4 0).merger.uq.length = 4 ∧ (commanded (copy 0x42 [8]) 3 4).merger.uq.length < 4 ∧
      (commanded (copy 0x42 [8]) 3 4).mgmt.commandQueue.length = 4 ∧ (copy 1 []).code ≠ 0x42 ∧ (copy 1 []).code ≠ 0x43) ∧
    ((cmd 1 []).addr = node.mgmt.address ∧ node.mgmt.address ≠ 0 ∧ (commanded (cmd 1 []) 0 3).mgmt.commandQueue.length < 4 ∧
      (commanded (cmd 1 []) 0 3).mgmt.entry 2 = .empty ∧ (commanded (cmd 1 []) 0 3 |>.begun (cmd 1 [])).mgmt.entry 2 = .inProgress 7) ∧
    ((repeatArrives []).mgmt.entry 2 = .answered 7 ⟨.resp, 5, 7, 2, 0, [0, 0]⟩ ∧ (repeatArrives []).mgmt.waiting = [] ∧
      (repeatArrives [⟨.loader, ⟨.resp, 5, 7, 2, 0, [0, 0]⟩⟩]).mgmt.waiting = [⟨.loader, ⟨.resp, 5, 7, 2, 0, [0, 0]⟩⟩]) ∧
    (({ cmd 1 [] with addr := 62 } : Frame).addr ≠ node.mgmt.address ∧ State.reset.mgmt.address = 0 ∧
      64 ≤ ({ cmd 1 [] with addr := 64 } : Frame).addr.toNat) ∧
    passes (exec .commandClassifierTake (commanded (copy 0x42 [8]) 3 4)) (fun t =>
      t.merger.uq.length == 4 && t.counters.node.cmdDropped == 1 && t.mgmt.commandQueue.length == 4) = true ∧
    passes (exec .commandClassifierTake (commanded (copy 0x42 [8]) 4 0)) (fun t => t.dPort.buffer.length == 1) = true := by decide +kernel

/-- An ENUM frame. -/
def enumFrame (a : Byte) : Frame := ⟨.enum, a, 0, 0, 0, []⟩

/-- What an ENUM frame comes to at node 5: its own address, and the frame sent upstream. -/
def enumerates (a own sent : Byte) : Bool :=
  passes (exec .commandClassifierTake (commanded (enumFrame a) 3 0)) fun t =>
    t.mgmt.address == own && t.merger.uq.getLast? == some (enumFrame sent)

theorem witness_EnumerationResult :
    ((commanded (enumFrame 1) 4 0).merger.uq.length = 4 ∧ (commanded (enumFrame 1) 3 0).merger.uq.length < 4 ∧ (enumFrame 1).kind = .enum) ∧
    enumerates 0 0 0 = true ∧ enumerates 1 1 2 = true ∧ enumerates 61 61 62 = true ∧ enumerates 62 62 63 = true ∧ enumerates 63 0 63 = true := by
  refine ⟨?_, ?_, ?_, ?_, ?_, ?_⟩ <;> decide +kernel

/-! ### Hypotheses met: the conditioning engine -/

theorem witness_SequenceCheckTable :
    (∀ x ∈ ([(5, 5, 0), (6, 5, 1), (0, 255, 1), (127, 0, 127), (128, 0, 128), (4, 5, 255)] : List (Byte × Byte × Nat)), (x.1 - x.2.1).toNat = x.2.2) ∧
    sequenceCheck (some 0) 127 = .admitted 127 ∧ sequenceCheck (some 0) 128 = .late ∧ sequenceCheck (some 5) 5 = .admitted 0 ∧
    kindLengthOk .sample sample.aux sample.payload.length = true ∧ (sample.timestamp, sample.samples) = (1, [50]) := by decide

/-- The sample waiting with an expected sequence, and its context's curve. -/
def expecting (e : Option Byte) (curve : Option CurveId) : State :=
  sampleWaits.modContext 3 fun c => { c with expected := e, curve := curve }

/-- Every work slot occupied. -/
def slotsFull : State :=
  { sampleWaits with conditioner := { sampleWaits.conditioner with slots := .replicate 4 (some ⟨.queued, 3, 9, 4, 0, [50]⟩) } }

theorem witness_LookupResult :
    node.uPort.buffer = [] ∧ (headed passThrough .cond false 0).decide passThrough ≠ .offered ∧
    (slotsFull.decide sample = .offered ∧ ∀ i : SlotId, slotsFull.conditioner.slots[i] ≠ none) ∧
    (sample.kind = .sample ∧ sampleWaits.table.lookup 9 = some 3 ∧ (sampleWaits.context 3).mode = .cond ∧
      (sampleWaits.context 3).fenced = false ∧ sampleWaits.conditioner.slots[(0 : SlotId)] = none) ∧
    (sequenceCheck ((expecting (some 4) (some 4)).context 3).expected 3 = .late ∧
      sequenceCheck ((expecting (some 132) (some 4)).context 3).expected 3 = .admitted 127 ∧
      sequenceCheck ((expecting none (some 4)).context 3).expected 3 = .admitted 0) ∧
    (((expecting none none).context 3).curve = none ∧ exec .lookup (expecting none none) = .fault .condWithoutCurve) ∧
    passes (exec .lookup (expecting (some 4) (some 4))) (fun t => t.uPort.buffer.isEmpty && t.counters.contexts[3].late == 1) = true ∧
    passes (exec .lookup (expecting (some 1) (some 4))) (fun t => t.counters.contexts[3].seqMissing == 2 &&
      t.notices.window.map (fun e => (e.notice.kind, e.notice.subject, e.notice.fields)) == [(.nodeStart, 0, [1]), (.seqGap, 9, [2])]) = true := by
  refine ⟨rfl, ?_, ?_, ?_, ?_, ⟨?_, rfl⟩, ?_, ?_⟩ <;> decide +kernel

/-- Two QUEUED slots of context 3 and one of context 4, by age 0, 1, 2. -/
def queuedSlots : Conditioner :=
  { slots := vmod (vmod (vmod (.replicate 4 none) 0 fun _ => some ⟨.queued, 3, 9, 4, 0, [50]⟩) 1 fun _ => some ⟨.queued, 3, 9, 4, 0, [50]⟩) 2
      fun _ => some ⟨.queued, 4, 8, 4, 0, [50]⟩
    age := [0, 1, 2]
    ready := []
    units := .replicate 2 none }

/-- The same with slot 0 CONVERTING on unit 0. -/
def oneConverting : Conditioner :=
  { queuedSlots with
    slots := vmod queuedSlots.slots 0 fun _ => some ⟨.converting 0, 3, 9, 4, 0, [50]⟩
    units := vmod queuedSlots.units 0 fun _ => some ⟨0, .start .reset⟩ }

theorem witness_ConversionStart :
    queuedSlots.eligible [] queuedSlots.age = some 0 ∧ oneConverting.eligible [] oneConverting.age = some 2 ∧
    ({ oneConverting with age := [0, 1] } : Conditioner).eligible [] [0, 1] = none ∧
    queuedSlots.units[(0 : UnitId)] = none ∧ oneConverting.units[(0 : UnitId)] ≠ none ∧ oneConverting.units[(1 : UnitId)] = none ∧
    queuedSlots.idleUnit = some 0 ∧ queuedSlots.slots[(0 : SlotId)] = some ⟨.queued, 3, 9, 4, 0, [50]⟩ ∧
    converting.conditioner.units[(0 : UnitId)] ≠ none ∧
    converting.conditioner.slots[(0 : SlotId)] = some ⟨.converting 0, 3, 9, 4, 1, [50]⟩ := by decide +kernel

/-- Three knots, at x 0, 10 and 20. -/
def threeKnots (i : Nat) : Knot := ⟨BitVec.ofNat 16 (10 * i), BitVec.ofNat 16 (100 * i * i)⟩

theorem witness_ConvertedValue :
    ((threeKnots 0).x.toInt < (1 : Half).toInt ∧ (9 : Half).toInt < (threeKnots 1).x.toInt) ∧
    (∀ i, i < 3 - 1 → (threeKnots i).x.toInt < (threeKnots (i + 1)).x.toInt) ∧
    searchRun threeKnots (-1) 6 (searchStart (threeKnots 0) (threeKnots 2) 3 (-1)) = some (.low, 0) ∧
    searchRun threeKnots 0 6 (searchStart (threeKnots 0) (threeKnots 2) 3 0) = some (.none, 0) ∧
    searchRun threeKnots 9 6 (searchStart (threeKnots 0) (threeKnots 2) 3 9) = some (.none, 90) ∧
    searchRun threeKnots 10 6 (searchStart (threeKnots 0) (threeKnots 2) 3 10) = some (.none, 100) ∧
    searchRun threeKnots 19 6 (searchStart (threeKnots 0) (threeKnots 2) 3 19) = some (.none, 370) ∧
    searchRun threeKnots 20 6 (searchStart (threeKnots 0) (threeKnots 2) 3 20) = some (.none, 400) ∧
    searchRun threeKnots 21 6 (searchStart (threeKnots 0) (threeKnots 2) 3 21) = some (.high, 400) := by decide

theorem witness_LimitCheckTable :
    (⟨-10, 10, 4⟩ : LimitRecord).ok = true ∧ (⟨5, 5, 4095⟩ : LimitRecord).ok = true ∧
    (limitAfter ⟨-10, 10, 4⟩ .normal 11 = .above ∧ limitAfter ⟨-10, 10, 4⟩ .normal 10 = .normal ∧ limitAfter ⟨-10, 10, 4⟩ .normal (-11) = .below) ∧
    (limitAfter ⟨-10, 10, 4⟩ .above 7 = .above ∧ limitAfter ⟨-10, 10, 4⟩ .above 6 = .normal ∧ limitAfter ⟨-10, 10, 4⟩ .above (-11) = .below) ∧
    (limitAfter ⟨-10, 10, 4⟩ .below (-7) = .below ∧ limitAfter ⟨-10, 10, 4⟩ .below (-6) = .normal ∧ limitAfter ⟨-10, 10, 4⟩ .below 11 = .above) ∧
    ((Working.start .reset).limits = none ∧
      (Working.start { Context.reset with limits := some ⟨⟨-10, 10, 4⟩, .normal⟩ }).limits = some ⟨⟨-10, 10, 4⟩, .normal⟩) := by decide

theorem witness_DecimationRule :
    (∀ x ∈ ([(1, 0, 8), (3, 2, 8), (4, 0, 3), (4, 3, 1), (16, 15, 8)] : List (Nat × Nat × Nat)),
      let w := Working.start { Context.reset with acc := ⟨0, x.2.1, false, false⟩ }
      w.acc.count < x.1 ∧
      ((takeAll x.1 w (List.replicate x.2.2 (.none, 5))).outputs.length, (takeAll x.1 w (List.replicate x.2.2 (.none, 5))).acc.count) =
        ((x.2.1 + x.2.2) / x.1, (x.2.1 + x.2.2) % x.1)) ∧
    (-32768 * ((16 : Nat) : Int) ≤ -524288 ∧ (524272 : Int) ≤ 32767 * ((16 : Nat) : Int)) := by decide

/-- `converting` after its two end knots have been read. -/
def converted : State := converting.accessPeriod.accessPeriod

theorem witness_ConversionEndResult :
    node.conditioner.units[(0 : UnitId)] = none ∧ converting.conditioner.units[(0 : UnitId)] ≠ none ∧
    (converted.busySlot 0).isSome = true ∧ converted.unitDone 0 = true ∧
    passes (.next converted.accessPeriod) (fun t => t.conditioner.units[(0 : UnitId)] == none && t.merger.cq.length == 1) = true ∧
    (let t := twoConverting.accessPeriod.accessPeriod.accessPeriod.accessPeriod
     (t.busySlot 1).isSome = true ∧ t.unitDone 1 = true ∧ t.unitDone 0 = false) := by decide +kernel

theorem witness_ConversionEffects :
    (converting.context 3).limitNotices = true ∧
    ((converting.modContext 3 fun c => { c with limitNotices := false }).context 3).limitNotices = false ∧
    converting.conditioner.ready = [] ∧ ready.conditioner.ready ≠ [] := by decide +kernel

theorem witness_CqEntryAndSlotRelease :
    (readyWithSpace.conditioner.ready = [0] ∧ (readyWithSpace.conditioner.slots[(0 : SlotId)].any fun w => w.built.isSome) = true ∧
      readyWithSpace.merger.cq.length < 4 ∧ ready.merger.cq.length = 4 ∧ node.conditioner.ready = []) ∧
    ((ready.curve 4).state = .live ∧ (ready.curve 4).pins = 1 ∧
      ((ready.modCurve 4 fun d => { d with state := .retiring }).curve 4).state = .retiring) ∧
    passes (exec .cqEntry (readyWithSpace.modCurve 4 fun d => { d with state := .retiring })) (fun t =>
      (t.curve 4).state == .empty && t.store.free.getLast? == some 1 && t.notices.window.length == 2) = true ∧
    (readyWithSpace.mgmt.state ≠ .fenceWait ∧ (fenced.conditioner.slots[(0 : SlotId)].map WorkSlot.context) = some 3 ∧
      fenced.mgmt.state = .fenceWait ∧ fenced.mgmt.current = some (cmd 0x11 [3, 0, 1, 3]) ∧ (fenced.context 3).fenced = true ∧
      (fenced.context 3).inFlight = 1 ∧ (settingsOf [3, 0, 1, 3]).map ChannelSettings.context = some 3 ∧
      ((fenced.releaseSlot 0).context 3).mode = .off) ∧
    (let waiting := after (exec .mapChannel (holding (cmd 0x10 [9, 0xFF]) converting))
     waiting.mgmt.state = .fenceWait ∧ (waiting.context 3).fenced = true ∧ (waiting.context 3).inFlight = 1 ∧ waiting.table.lookup 9 = some 3 ∧
     mapTarget 0xFF = some none ∧ (waiting.releaseSlot 0).table.lookup 9 = none) := by decide +kernel

theorem witness_FenceApplyResult :
    node.mgmt.state ≠ .fenceWait ∧
    (quiet.mgmt.state = .fenceWait ∧ quiet.mgmt.current = some (cmd 0x11 [3, 0, 1, 3]) ∧ (quiet.context 3).fenced = true ∧
      (settingsOf [3, 0, 1, 3]).map ChannelSettings.context = some 3 ∧ (quiet.context 3).inFlight = 0 ∧ (fenced.context 3).inFlight = 1) ∧
    (let waiting := after (exec .mapChannel (holding (cmd 0x10 [9, 0xFF]) converting))
     waiting.mgmt.state = .fenceWait ∧ (waiting.context 3).fenced = true ∧ waiting.table.lookup 9 = some 3 ∧ mapTarget 0xFF = some none ∧
     (waiting.context 3).inFlight ≠ 0 ∧ ((waiting.modContext 3 fun c => { c with inFlight := 0 }).context 3).inFlight = 0) := by decide +kernel

/-- The part converting one sample through the two knots. -/
theorem witness_ConversionsConvert :
    (converting.busySlot 0).map (fun x => (x.1.slot, x.2.samples, x.2.context, x.2.curve)) = some (0, [50], 3, 4) ∧
    (converting.busySlot 0).map (fun x => x.1.work) = some (Working.start (converting.context 3)) ∧
    (converting.curve 4).knots = 2 ∧
    converting.store.knotAt (converting.curve 4).pages 0 = some ⟨0, 0⟩ ∧ converting.store.knotAt (converting.curve 4).pages 1 = some ⟨100, 200⟩ ∧
    converting.store.arbiter.conversionRun ≤ 3 ∧ converting.pageWriteClaim = none ∧
    (converting.passUntil (fun t => t.unitDone 0) (3 * (2 + 0 * 1))).unitDone 0 = true ∧
    (∀ r : Half, r = 50 ∨ r = -1 ∨ r = 100 ∨ r = 101 →
      (searchRun (fun i => if i = 0 then ⟨0, 0⟩ else ⟨100, 200⟩) r 0 (searchStart ⟨0, 0⟩ ⟨100, 200⟩ 2 r)).isSome = true) := by
  refine ⟨by decide +kernel, by decide +kernel, by decide +kernel, by decide +kernel, by decide +kernel, by decide +kernel, by decide +kernel,
    by decide +kernel, fun r h => ?_⟩
  rcases h with h | h | h | h <;> subst h <;> decide

/-! ### Hypotheses met: the store port -/

theorem witness_ArbiterChoice :
    (converting.unitDone 0 = false ∧ converting.unitDone 1 = false ∧ converting.readBackDone = false ∧ converting.pageWriteDone = false) ∧
    (3 ≤ (⟨none, some .readBack, 3⟩ : StoreArbiter).conversionRun ∧ ¬ 3 ≤ (⟨none, none, 2⟩ : StoreArbiter).conversionRun) ∧
    (StoreArbiter.choose ⟨none, some .readBack, 3⟩ ⟨true, true, true, true⟩ = some (.other .pageWrite) ∧
      StoreArbiter.choose ⟨some 0, none, 2⟩ ⟨true, true, true, true⟩ = some (.unit 1) ∧
      StoreArbiter.choose ⟨none, none, 0⟩ ⟨true, true, false, false⟩ = some (.unit 0) ∧
      StoreArbiter.choose ⟨none, none, 0⟩ ⟨false, false, true, true⟩ = some (.other .readBack) ∧
      StoreArbiter.choose ⟨none, none, 0⟩ ⟨false, false, false, false⟩ = none) := by decide +kernel

theorem witness_EveryClaimantIsServed :
    (⟨none, none, 0⟩ : StoreArbiter).conversionRun ≤ 3 ∧
    (∀ i, i < 8 → ((fun _ => ⟨true, true, true, true⟩ : Nat → Claims) (0 + i)).pageWrite = true) := by decide

theorem witness_PageWriteCompletes :
    node.loader.state ≠ .writing ∧
    (∀ n, n ≤ 16 → (writing n node).loader.state = .writing ∧ (writing n node).loader.write = some ⟨0, 2, 7, false, n⟩) ∧
    lastWrite.store.arbiter.conversionRun ≤ 3 ∧ lastWrite.loader.lease.isSome = true ∧ (writing 15 node).loader.lease = none ∧
    ((∀ u : UnitId, lastWrite.conditioner.units[u] = none) ∧ lastWrite.mgmt.readBack = none) ∧
    ((writing 16 node).unitDone 0 = false ∧ (writing 16 node).unitDone 1 = false ∧ (writing 16 node).readBackDone = false ∧
      (leased (writing 16 node)).loader.lease.isSome = true) :=
  ⟨by decide, fun _ _ => ⟨rfl, rfl⟩, by decide, rfl, rfl, by decide +kernel, by decide +kernel⟩

theorem witness_PageWriteAnswer :
    node.mgmt.responseQueue.length < 4 ∧
    4 ≤ ({ node.mgmt with responseQueue := List.replicate 4 (cmd 1 []) } : Management).responseQueue.length := by decide

/-- READ_KNOTS of curve 4's two knots in progress; and DEFINE_CURVE's order check of page 1. -/
def readingBack : State := after (exec .readKnots (holding (cmd 0x31 [4, 0, 2]) conditioning))
def checking (knots : Byte) : State := after (exec .defineCurve (defining (cmd 0x25 [4, 1, 1, knots])))

theorem witness_ReadBackCompletes :
    (let r := readingBack.accessPeriod.accessPeriod
     let c := (checking 2).accessPeriod.accessPeriod
     let x := (checking 3).accessPeriod.accessPeriod.accessPeriod
     r.mgmt.readBack = some ⟨.readKnots, 4, 1, [1], 2, 0, 2, [⟨0, 0⟩, ⟨100, 200⟩]⟩ ∧
     c.mgmt.readBack = some ⟨.orderCheck none, 4, 0, [1], 2, 0, 2, [⟨0, 0⟩, ⟨100, 200⟩]⟩ ∧
     x.mgmt.readBack = some ⟨.orderCheck (some 2), 4, 0, [1], 3, 0, 3, [⟨0, 0⟩, ⟨100, 200⟩, ⟨0, 0⟩]⟩ ∧
     r.mgmt.current.isSome = true ∧ c.mgmt.current.isSome = true ∧ x.mgmt.current.isSome = true ∧ r.unitDone 0 = false ∧ r.unitDone 1 = false) ∧
    readingBack.mgmt.state = .executing ∧ (checking 2).mgmt.state = .executing ∧ readingBack.loader.state ≠ .writing ∧
    readingBack.mgmt.readBack = some ⟨.readKnots, 4, 1, [1], 2, 0, 2, []⟩ ∧ (checking 2).mgmt.readBack = some ⟨.orderCheck none, 4, 0, [1], 2, 0, 2, []⟩ ∧
    readingBack.store.arbiter.conversionRun ≤ 3 ∧ readingBack.pageWriteClaim = none ∧ (checking 2).pageWriteClaim = none ∧
    (readingBack.store.knotAt [1] 0, readingBack.store.knotAt [1] 1, readingBack.store.knotAt [1] 2) =
      (some ⟨0, 0⟩, some ⟨100, 200⟩, some ⟨0, 0⟩) ∧
    (increasing [⟨0, 0⟩, ⟨100, 200⟩] ∧ ¬ increasing [⟨0, 0⟩, ⟨100, 200⟩, ⟨0, 0⟩]) := by
  refine ⟨?_, ?_, ?_, ?_, ?_, ?_, ?_, ?_, ?_, ?_, ⟨?_, trivial⟩, fun h => absurd h.2.1 ?_⟩ <;> decide +kernel


/-! ### Hypotheses met: the engine and the node commands -/

/-- The engine with a PING in hand whose tag its manager's entry holds, answered or in progress. -/
def repeated (e : CacheEntry) : State :=
  { hand (cmd 1 []) with mgmt := (hand (cmd 1 [])).mgmt.setEntry 2 e }

theorem witness_CommonChecks :
    node.mgmt.inHand = none ∧
    ((hand (cmd 1 [])).mgmt.inHand = some (cmd 1 []) ∧ ((cmd 1 []).addressed && (cmd 1 []).code == (0x02 : Byte)) = false ∧
      (copy 1 []).addressed = false ∧ (cmd 1 []).addressed = true) ∧
    ((repeated (.answered 7 (cmd 1 []))).mgmt.entry 2 = .answered 7 (cmd 1 []) ∧ (repeated (.inProgress 7)).mgmt.entry 2 = .inProgress 7) ∧
    (lengthIs 0 (cmd 1 [0]).payload = false ∧ lengthIs 3 (cmd 3 [1, 2]).payload = false) ∧
    (∀ row ∈ addressedRows, row.1.wellFormed = true) := by decide +kernel

theorem witness_EngineAndResponses :
    (node.mgmt.commandQueue = [] ∧ (commanded (cmd 1 []) 0 1).mgmt.commandQueue = cmd 1 [] :: []) ∧
    (node.mgmt.responseQueue.length < 4 ∧ 4 ≤ ({ node.mgmt with responseQueue := List.replicate 4 (cmd 1 []) } : Management).responseQueue.length) ∧
    (node.mgmt.state = .idle ∧ (hand (cmd 1 [])).mgmt.state ≠ .idle) ∧
    ((repeated (.inProgress 7)).mgmt.entry 2 = .inProgress 7 ∧ (repeated (.inProgress 8)).mgmt.entry 2 ≠ .inProgress 7) ∧
    ((cmd 1 []).aux.toNat ≤ 3) := by decide +kernel

theorem witness_PingRule : (hand (cmd 1 [])).Takes (cmd 1 []) ∧ (hand (cmd 1 [0])).Takes (cmd 1 [0]) :=
  ⟨takes_hand _ _, takes_hand _ _⟩

theorem witness_NodeReports :
    ((hand (cmd 0x7F [])).Takes (cmd 0x7F []) ∧ (0x7F : Byte) ∉ knownCodes ∧ (0x61 : Byte) ∉ knownCodes) ∧
    (∀ o : Byte, (hand (cmd 2 [o])).Takes (cmd 2 [o])) ∧ (1 < (2 : Byte).toNat ∧ (1 : Byte).toNat ≤ 1) :=
  ⟨⟨takes_hand _ _, by decide, by decide⟩, fun _ => takes_hand _ _, by decide⟩

/-- The head frame is unmapped and waits for the forward queue under FORWARD. -/
def unmappedWaits (f : Frame) : State :=
  holding f { headed { sample with addr := 8 } .off false 8 with mgmt := node.mgmt }

/-- SET_PARAM of a value is answered OK, the value of reset (200 ms, 20, FORWARD, 003Fh) the one before; or BAD_ARG with the reason given. -/
def sets (old id hi lo : Byte) : Bool := answers (exec .setParam (hand (cmd 3 [id, hi, lo]))) .ok [id, 0, old, hi, lo]
def unset (reason id hi lo : Byte) : Bool := answers (exec .setParam (hand (cmd 3 [id, hi, lo]))) .badArg [reason]

theorem witness_SetParamResult :
    (∀ id hi lo : Byte, (hand (cmd 3 [id, hi, lo])).Takes (cmd 3 [id, hi, lo])) ∧
    ((unmappedWaits (cmd 3 [3, 0, 1])).Takes (cmd 3 [3, 0, 1]) ∧ (unmappedWaits (cmd 3 [3, 0, 1])).merger.fq.length = 8 ∧
      passes (exec .setParam (unmappedWaits (cmd 3 [3, 0, 1]))) (fun t =>
        t.uPort.buffer.isEmpty && t.counters.node.unmappedDrop == 1 && t.mgmt.params.unmappedPolicy == .drop) = true) :=
  ⟨fun _ _ _ => takes_hand _ _, takes_holding rfl rfl (by decide +kernel), by decide +kernel, by decide +kernel⟩

theorem witness_SetParamValues :
    (sets 200 1 0 10 = true ∧ sets 200 1 0x09 0xF6 = true ∧ sets 20 2 0 5 = true ∧ sets 20 2 0 255 = true) ∧
    (sets 0 3 0 0 = true ∧ sets 0 3 0 1 = true ∧ sets 0x3F 4 0 0 = true ∧ sets 0x3F 4 0 63 = true) ∧
    (unset 1 0 0 0 = true ∧ unset 1 5 0 0 = true ∧ unset 2 1 0 9 = true ∧ unset 2 1 0x0A 0 = true) ∧
    (unset 2 2 0 4 = true ∧ unset 2 2 1 0 = true ∧ unset 2 3 0 2 = true ∧ unset 2 4 0 64 = true) := by
  refine ⟨⟨?_, ?_, ?_, ?_⟩, ⟨?_, ?_, ?_, ?_⟩, ⟨?_, ?_, ?_, ?_⟩, ⟨?_, ?_, ?_, ?_⟩⟩ <;> decide +kernel

theorem witness_ResetNodeResults :
    (∀ level : Byte, (hand (cmd 4 [level])).Takes (cmd 4 [level])) ∧ ((0 : Byte) ≠ 1 ∧ (3 : Byte) ≠ 2) ∧
    (answers (exec .resetNodeSoft (hand (cmd 4 [0]))) .badArg [] = true ∧ answers (exec .resetNodeFull (hand (cmd 4 [3]))) .badArg [] = true) ∧
    ready.unsent 3 = [0] :=
  ⟨fun _ => takes_hand _ _, by decide, by decide +kernel, by decide +kernel⟩

/-- A channel command in hand, channel 9 mapped to context 3 with frames in flight. -/
theorem witness_MapChannelResult :
    (∀ p : List Byte, (holding (cmd 0x10 p) conditioning).Takes (cmd 0x10 p) ∧ (holding (cmd 0x10 p) converting).Takes (cmd 0x10 p) ∧
      (pendingSet (cmd 0x10 p)).Takes (cmd 0x10 p)) ∧
    (64 ≤ (64 : Byte).toNat ∧ 64 ≤ (254 : Byte).toNat ∧ (63 : Byte).toNat = (63 : ContextId).val) ∧
    (∀ t ∈ ([64, 254] : List Byte), answers (exec .mapChannel (hand (cmd 0x10 [9, t]))) .badArg [] = true) ∧
    (answers (exec .mapChannel (pendingSet (cmd 0x10 [9, 5]))) .reserved [] = true ∧
      answers (exec .mapChannel (pendingSet (cmd 0x10 [8, 3]))) .reserved [] = true) ∧
    (answers (exec .mapChannel (holding (cmd 0x10 [9, 3]) conditioning)) .ok [9, 3, 3] = true ∧
      answers (exec .mapChannel (holding (cmd 0x10 [9, 0xFF]) conditioning)) .ok [9, 3, 0xFF] = true ∧
      answers (exec .mapChannel (hand (cmd 0x10 [9, 63]))) .ok [9, 0xFF, 63] = true) ∧
    passes (exec .mapChannel (holding (cmd 0x10 [9, 63]) converting)) (fun t => t.mgmt.state == .fenceWait && (t.context 3).fenced) = true :=
  ⟨fun _ => ⟨takes_holding rfl rfl (by decide +kernel : conditioning.mgmt.entry 2 = .empty),
      takes_holding (by decide +kernel) rfl (by decide +kernel : converting.mgmt.entry 2 = .empty),
      rfl, rfl, fun _ h => CacheEntry.noConfusion ((by decide +kernel : node.mgmt.entry 2 = .empty).symm.trans h),
      fun h => CacheEntry.noConfusion ((by decide +kernel : node.mgmt.entry 2 = .empty).symm.trans h)⟩,
    by decide, by decide +kernel, by decide +kernel, by decide +kernel, by decide +kernel⟩

theorem witness_SetChannelResult :
    (∀ p : List Byte, (hand (cmd 0x11 p)).Takes (cmd 0x11 p)) ∧
    (spellsBounds [63, 1, 16, 3] 3 none ∧ spellsBounds [3, 1, 1, 4, 0x80, 0, 0x7F, 0xFF, 0x0F, 0xFF] 4 (some ⟨0x8000, 0x7FFF, 4095⟩)) ∧
    (∀ p ∈ ([[64, 1, 1, 0], [3, 3, 1, 0], [3, 1, 0, 0], [3, 1, 17, 0], [3, 1, 1, 8], [3, 1, 1, 4, 0, 6, 0, 5, 0, 0],
        [3, 1, 1, 4, 0, 5, 0, 5, 0x10, 0]] : List (List Byte)), answers (exec .setChannel (hand (cmd 0x11 p))) .badArg [] = true) ∧
    (∀ p ∈ ([[63, 1, 16, 3], [0, 0, 1, 0], [3, 1, 1, 4, 0, 5, 0, 5, 0x0F, 0xFF]] : List (List Byte)),
      passes (exec .setChannel (hand (cmd 0x11 p))) (fun t => t.mgmt.responseQueue.map Frame.code == [0]) = true) ∧
    answers (exec .setChannel (pendingSet (cmd 0x11 [3, 2, 1, 0]))) .reserved [] = true ∧
    answers (exec .setChannel (holding (cmd 0x11 [3, 2, 1, 0]) conditioning)) .ok [3, 0] = true :=
  ⟨fun _ => takes_hand _ _, ⟨.inl ⟨_, _, _, rfl, by decide, rfl⟩, .inr ⟨_, _, _, _, _, _, _, _, _, rfl, by decide, by decide⟩⟩,
    by decide +kernel, by decide +kernel, by decide +kernel, by decide +kernel⟩

theorem witness_GetChannelResult :
    (∀ c : Byte, (hand (cmd 0x12 [c])).Takes (cmd 0x12 [c])) ∧ (63 : ContextId).val = (63 : Byte).toNat ∧
    answers (exec .getChannel (hand (cmd 0x12 [64]))) .badArg [] = true :=
  ⟨fun _ => takes_hand _ _, by decide, by decide +kernel⟩

/-! ### Hypotheses met: the loader -/

/-- The lease OPEN for manager 1, not the sender. -/
def other (f : Frame) : State := { hand f with loader := { Loader.reset with lease := some ⟨1, 200, 3⟩ } }

theorem witness_LeaseChecks :
    ((hand (cmd 0x20 [])).Takes (cmd 0x20 []) ∧ (hand (cmd 0x20 [])).loader.lease = none ∧ (hand (cmd 0x20 [])).loader.state ≠ .writing ∧
      (writing 0 (hand (cmd 0x20 []))).loader.state = .writing) ∧
    (answers (exec .openLease (owner (cmd 0x20 []))) .ok [1, 0, 200] = true ∧ answers (exec .openLease (other (cmd 0x20 []))) .busy [1, 0, 197] = true) ∧
    (answers (exec .writePage (other (cmd 0x24 []))) .notOwner [1, 0, 197] = true ∧ answers (exec .writePage (hand (cmd 0x24 []))) .noLease [] = true) ∧
    ((owner (cmd 0x22 [])).Holds (cmd 0x22 []) lease ∧ (Instr.clearStaging, (0x22 : Byte)) ∈ renewingCommands) :=
  ⟨⟨takes_hand _ _, rfl, by decide, rfl⟩, by decide +kernel, by decide +kernel, holds_owner _ _, by decide⟩

theorem witness_StagingCommands :
    (∀ c p, (owner (cmd c p)).Holds (cmd c p) lease) ∧
    (∀ p ∈ ([[2, 0, 0, 1, 0, 2], [0, 16, 0, 1, 0, 2]] : List (List Byte)), answers (exec .stageKnots (owner (cmd 0x21 p))) .badArg [] = true) ∧
    (answers (exec .stageKnots (owner (cmd 0x21 [1, 16, 0, 1, 0, 2]))) .ok [1, 0, 0] = true ∧
      answers (exec .stageKnots (owner (cmd 0x21 (0 :: 15 :: List.replicate 44 0)))) .ok [15, 10, 1] = true) ∧
    (answers (exec .stageKnots (writing 0 (owner (cmd 0x21 [0, 0, 0, 1, 0, 2])))) .busy [1] = true ∧
      answers (exec .clearStaging (writing 0 (owner (cmd 0x22 [])))) .busy [1] = true) ∧
    (∀ p ∈ ([[16, 1], [0, 0], [0, 12], [6, 11]] : List (List Byte)), answers (exec .readStaging (owner (cmd 0x23 p))) .badArg [] = true) ∧
    answers (exec .readStaging (owner (cmd 0x23 [5, 11]))) .ok ([5, 11, 0, 0] ++ List.replicate 44 0) = true ∧
    ((Staging.cleared.stage 10 (List.replicate 8 ⟨1, 2⟩)).saturated = true ∧ (Staging.cleared.stage 5 (List.replicate 11 ⟨1, 2⟩)).saturated = false) :=
  ⟨holds_owner, by decide +kernel, by decide +kernel, by decide +kernel, by decide +kernel, by decide +kernel, by decide +kernel⟩

/-- The loose set holding `n` unmarked pages. -/
def loose (n : Nat) (s : State) : State :=
  { s with store := { s.store with
    free := s.store.free.drop n
    loose := (s.store.free.take n).map fun p => ⟨p, false⟩ } }

theorem witness_WritePageResult :
    (owner (cmd 0x24 [])).Holds (cmd 0x24 []) lease ∧
    answers (exec .writePage (writing 0 (owner (cmd 0x24 [])))) .busy [1] = true ∧
    answers (exec .writePage (loose 8 (owner (cmd 0x24 [])))) .noRoom [1] = true ∧
    passes (exec .writePage (loose 7 (owner (cmd 0x24 [])))) (fun t => t.store.loose.length == 8) = true ∧
    answers (exec .writePage { owner (cmd 0x24 []) with store := { CurveStore.reset with free := [] } }) .noRoom [2] = true ∧
    passes (exec .writePage (owner (cmd 0x24 [127]))) (fun t => t.store.loose == [⟨127, true⟩] && t.store.free.length == 127) = true ∧
    answers (exec .writePage (owner (cmd 0x24 [128]))) .badArg [] = true ∧
    answers (exec .writePage (loose 1 (owner (cmd 0x24 [0])))) .badArg [] = true :=
  ⟨holds_owner _ _, by decide +kernel, by decide +kernel, by decide +kernel, by decide +kernel, by decide +kernel, by decide +kernel,
    by decide +kernel⟩

theorem witness_DefineCurveResult :
    (∀ p, (loose 4 (owner (cmd 0x25 p))).Holds (cmd 0x25 p) lease) ∧
    answers (exec .defineCurve (loose 4 (owner (cmd 0x25 [48, 1, 0, 2])))) .badArg [1, 0] = true ∧
    answers (exec .defineCurve (leased (holding (cmd 0x25 [4, 1, 0, 2]) conditioning))) .inUse [2] = true ∧
    (answers (exec .defineCurve (loose 4 (owner (cmd 0x25 [47, 2, 0, 0, 17])))) .badArg [2, 1] = true ∧
      answers (exec .defineCurve (loose 4 (owner (cmd 0x25 [47, 1, 128, 2])))) .badArg [2, 0] = true ∧
      answers (exec .defineCurve (leased (writing 3 (hand (cmd 0x25 [47, 1, 0, 2]))))) .badArg [2, 0] = true) ∧
    (∀ p ∈ ([[47, 1, 0, 1], [47, 1, 0, 17], [47, 2, 0, 1, 16], [47, 4, 0, 1, 2, 3, 65]] : List (List Byte)),
      answers (exec .defineCurve (loose 4 (owner (cmd 0x25 p)))) .badArg [3, 0] = true) ∧
    (∀ p ∈ ([[47, 1, 3, 2], [47, 1, 0, 16], [47, 2, 1, 0, 17], [47, 4, 3, 1, 2, 0, 64]] : List (List Byte)),
      passes (exec .defineCurve (loose 4 (owner (cmd 0x25 p)))) (fun t => t.mgmt.readBack.isSome && t.mgmt.state == .executing) = true) ∧
    (checking 2).mgmt.current = some (cmd 0x25 [4, 1, 1, 2]) := by
  refine ⟨fun p => ?_, ?_, ?_, ?_, ?_, ?_, ?_⟩
  · exact ⟨⟨(takes_hand 0x25 p).1, (takes_hand 0x25 p).2.1, (takes_hand 0x25 p).2.2.1, (takes_hand 0x25 p).2.2.2⟩, rfl, rfl⟩
  all_goals decide +kernel

/-- An order check in progress with its lease on the last tick. -/
def dueChecking : State := { checking 2 with loader := dueLease.loader }

/-- The same with a page write whose slot 15 is written; its completion renews the lease. -/
def dueRenewed : State :=
  { dueChecking with
    store := { dueChecking.store with free := dueChecking.store.free.tail, loose := dueChecking.store.loose ++ [⟨0, true⟩] }
    loader := { dueChecking.loader with state := .writing, write := some ⟨0, 2, 7, false, 16⟩ } }

theorem witness_LeaseEnds_checking :
    (passes (exec .defineCurveCheckDone dueChecking) (fun t => t.loader.lease == some ⟨2, 200, 199⟩) = true ∧ dueChecking.loader.state ≠ .writing) ∧
    (dueRenewed.loader.lease = some ⟨2, 200, 199⟩ ∧ dueRenewed.checkingOrder = true ∧
      passes (exec .defineCurveCheckDone dueRenewed) (fun t => t.loader.lease == some ⟨2, 200, 0⟩ && (t.curve 4).state == .built) = true ∧
      passes (exec .leaseExpiry dueRenewed) (fun t => t.loader.lease == some ⟨2, 200, 1⟩ && t.store.loose == [⟨0, false⟩]) = true) ∧
    dueChecking.loader.lease = some ⟨2, 200, 199⟩ ∧ dueChecking.checkingOrder = true ∧
    passes (exec .leaseExpiry dueChecking) (fun t => (t.curve 4).state == .built && t.loader.lease == none && t.store.loose.isEmpty &&
      t.notices.window.map (fun e => (e.notice.kind, e.notice.fields)) == [(.nodeStart, [1]), (.leaseExpired, [0])]) = true := by decide +kernel

theorem witness_LeaseEnds :
    ((owner (cmd 0x26 [])).Holds (cmd 0x26 []) lease ∧ answers (exec .closeLease (writing 0 (owner (cmd 0x26 [])))) .busy [1] = true ∧
      answers (exec .closeLease (loose 8 (owner (cmd 0x26 [])))) .ok [8] = true) ∧
    node.loader.lease = none ∧ (lease.count + 1 < lease.duration ∧ (⟨2, 200, 198⟩ : Lease).count + 1 < 200) ∧
    (dueLease.loader.lease = some ⟨2, 200, 199⟩ ∧ dueLease.checkingOrder = false) ∧
    passes (exec .leaseExpiry (leased node)) (fun t => t == leased node) = true :=
  ⟨⟨holds_owner _ _, by decide +kernel, by decide +kernel⟩, rfl, by decide, ⟨rfl, rfl⟩, by decide +kernel⟩

/-! ### Hypotheses met: curves, binds -/

theorem witness_GetCurveResult :
    (∀ p, (hand (cmd 0x30 p)).Takes (cmd 0x30 p)) ∧ answers (exec .getCurve (hand (cmd 0x30 []))) .badLength [] = true ∧
    answers (exec .getCurve (hand (cmd 0x30 [48]))) .badArg [] = true ∧ (47 : CurveId).val = (47 : Byte).toNat :=
  ⟨takes_hand _, by decide +kernel, by decide +kernel, by decide⟩

theorem witness_CurveCommands :
    (∀ c p, (hand (cmd c p)).Takes (cmd c p)) ∧
    (answers (exec .deleteCurve (hand (cmd 0x32 [48]))) .badArg [] = true ∧ answers (exec .deleteCurve (hand (cmd 0x32 [47]))) .badState [0] = true ∧
      answers (exec .deleteCurve (holding (cmd 0x32 [4]) conditioning)) .inUse [1] = true ∧
      answers (exec .deleteCurve (builtCurve 0 1 (cmd 0x32 [4]))) .reserved [1] = true ∧
      answers (exec .deleteCurve (builtCurve 1 0 (cmd 0x32 [4]))) .ok [4, 1, 1, 1] = true ∧
      passes (exec .deleteCurve (builtCurve 1 0 (cmd 0x32 [4]))) (fun t => (t.curve 4).state == .retiring && (t.curve 4).pages == [1]) = true) ∧
    (answers (exec .readKnots (holding (cmd 0x31 [48, 0, 1]) conditioning)) .badArg [] = true ∧
      answers (exec .readKnots (holding (cmd 0x31 [4, 0, 0]) conditioning)) .badArg [] = true ∧
      answers (exec .readKnots (holding (cmd 0x31 [4, 0, 12]) conditioning)) .badArg [] = true ∧
      answers (exec .readKnots (holding (cmd 0x31 [5, 0, 1]) conditioning)) .badState [] = true ∧
      answers (exec .readKnots (holding (cmd 0x31 [4, 0, 3]) conditioning)) .badArg [] = true ∧
      readingBack.mgmt.readBack.isSome = true) ∧
    (node.mgmt.readBack = none ∧ (checking 2).mgmt.readBack.map ReadBack.purpose = some (.orderCheck none)) :=
  ⟨takes_hand, by decide +kernel, by decide +kernel, by decide +kernel⟩

theorem witness_BindAndPrepare :
    (∀ c p, (hand (cmd c p)).Takes (cmd c p)) ∧
    (rawBytes [⟨9, 4, 1⟩] = [9, 4, 1] ∧ rawBytes [⟨9, 4, 0⟩, ⟨8, 0xFF, 1⟩] = [9, 4, 0, 8, 0xFF, 1]) ∧
    (answers (exec .bindChannels (holding (cmd 0x40 [9, 48, 0]) conditioning)) .badArg [1, 0] = true ∧
      answers (exec .bindChannels (holding (cmd 0x40 [9, 4, 2]) conditioning)) .badArg [1, 0] = true ∧
      answers (exec .bindChannels (holding (cmd 0x40 [9, 4, 0, 9, 4, 0]) conditioning)) .badArg [2, 1] = true ∧
      answers (exec .bindChannels (holding (cmd 0x40 [9, 4, 0, 8, 4, 0]) conditioning)) .badArg [3, 1] = true ∧
      answers (exec .bindChannels (holding (cmd 0x40 [9, 47, 0]) conditioning)) .badArg [4, 0] = true) ∧
    (answers (exec .bindChannels (pendingSet (cmd 0x40 [9, 4, 0]))) .reserved [0] = true ∧
      answers (exec .bindChannels (passing (cmd 0x40 [9, 0xFF, 1]))) .ok [1, 1] = true) ∧
    (answers (exec .prepareBind (pendingSet (cmd 0x41 [9, 9, 4, 0]))) .busy [8] = true ∧
      answers (exec .prepareBind (holding (cmd 0x41 [9, 9, 0xFF, 0]) conditioning)) .badArg [5, 0] = true ∧
      passes (exec .prepareBind (holding (cmd 0x41 [255, 9, 4, 0]) conditioning)) (fun t =>
        (t.curve 4).reservations == 1 && t.bind == some ⟨255, [⟨9, some 4, false⟩]⟩) = true) :=
  ⟨takes_hand, by decide, by decide +kernel, by decide +kernel, by decide +kernel⟩

theorem witness_BindEffects :
    (([⟨3, some 4, none, true⟩, ⟨5, none, some 4, false⟩] : List Change).map Change.context).Nodup ∧
    releasesOf [⟨3, some 4, none, true⟩, ⟨5, some 4, some 6, true⟩, ⟨6, some 7, none, false⟩, ⟨7, some 2, none, true⟩] = [4, 2] ∧
    (conditioning.changes [⟨8, none, false⟩, ⟨9, some 4, false⟩] = [] ∧ conditioning.changes [⟨9, none, true⟩] = [⟨3, some 4, none, true⟩] ∧
      ([⟨8, none, false⟩, ⟨9, some 4, false⟩].map Pair.channel).Nodup) ∧
    (((conditioning.applyChanges [⟨3, some 4, none, true⟩]).curve 4).state = .built ∧ (conditioning.curve 4).state = .live ∧
      ((builtCurve 0 1 (cmd 1 [])).curve 4).reservations = 1 ∧ ((builtCurve 1 0 (cmd 1 [])).curve 4).pins = 1) := by decide +kernel

theorem witness_ApplyAndCancel :
    (∀ c p, (hand (cmd c p)).Takes (cmd c p)) ∧
    (answers (exec .applyBind (hand (cmd 0x42 [8]))) .badState [] = true ∧ answers (exec .applyBind (pendingSet (cmd 0x42 [0]))) .badArg [8] = true ∧
      answers (exec .cancelBind (hand (cmd 0x43 [0]))) .badState [] = true ∧ answers (exec .cancelBind (pendingSet (cmd 0x43 [8]))) .ok [8, 1] = true) ∧
    ((pendingSet (copy 0x42 [8])).mgmt.inHand = some (copy 0x42 [8]) ∧ (copy 0x42 [8]).addressed = false ∧ (copy 0x42 []).payload.length ≠ 1) ∧
    (hand (cmd 1 [])).mgmt.inHand = some (cmd 1 []) :=
  ⟨takes_hand, by decide +kernel, by decide +kernel, by decide +kernel⟩

/-! ### Hypotheses met: notices, counters, output -/

/-- A full window of CURVE_FREED notices, with held ones of the subjects given. -/
def crowded (subjects : List Byte) : State :=
  { node with notices :=
    ⟨.running, (List.range 8).map (fun i => ⟨⟨.curveFreed, byteOf i, [1], 1⟩, byteOf i, false, 0⟩),
      subjects.map (fun b => ⟨.curveFreed, b, [1], 255⟩), 8, none, false⟩ }

theorem witness_RaiseTable :
    (State.reset.mgmt.params.noticeMask.getLsbD 4 = true ∧ (0x002F : Half).getLsbD 4 = false) ∧
    ((crowded []).notices.window.length = 8 ∧ node.notices.window.length < 8) ∧
    ((crowded [5]).raise .curveFreed 5 [2]).notices.held = [⟨.curveFreed, 5, [2], 255⟩] ∧
    ((crowded [5]).raise .curveFreed 6 [2]).notices.held.length = 2 ∧
    (((crowded ((List.range 15).map byteOf)).raise .curveFreed 40 [2]).notices.held.length = 16 ∧
      ((crowded ((List.range 16).map byteOf)).raise .curveFreed 40 [2]).notices.lost = true) := by decide +kernel

/-- ACK_NOTICES or RESUME_NOTICES in hand, with two window entries, the first SENT. -/
def acking (x : NoticeState) (f : Frame) : State :=
  { hand f with notices :=
    ⟨x, [⟨⟨.nodeStart, 0, [1], 1⟩, 0, true, 4⟩, ⟨⟨.linkChange, 1, [2], 1⟩, 1, true, 3⟩], [], 2, if x = .running then some ⟨20, 5⟩ else none, false⟩ }

theorem witness_NoticeCommands :
    (∀ c p, (hand (cmd c p)).Takes (cmd c p)) ∧
    (answers (exec .ackNotices (acking .running (cmd 0x50 [2]))) .badArg [2, 0] = true ∧
      answers (exec .ackNotices (acking .running (cmd 0x50 [0]))) .ok [1, 1, 0] = true ∧
      answers (exec .ackNotices (acking .running (cmd 0x50 [1]))) .ok [2, 0, 0] = true ∧
      passes (exec .ackNotices (acking .running (cmd 0x50 [0]))) (fun t => t.notices.timer == some ⟨20, 0⟩) = true ∧
      passes (exec .ackNotices (acking .stalled (cmd 0x50 [0]))) (fun t => t.notices.state == .running &&
        t.notices.window.map (fun e => (e.sent, e.transmissions)) == [(false, 0)]) = true) ∧
    (answers (exec .resumeNotices (acking .stalled (cmd 0x51 []))) .ok [1, 2] = true ∧
      answers (exec .resumeNotices (acking .running (cmd 0x51 []))) .ok [0, 0] = true) :=
  ⟨takes_hand, by decide +kernel, by decide +kernel⟩

theorem witness_NoticeTimer :
    ((sending .nu).dPort.link = .up ∧ (sending .nu).mgmt.address ≠ 0 ∧ (sending .nu).notices.state = .running ∧
      (sending .nu).notices.window = [] ++ ⟨⟨.nodeStart, 0, [1], 1⟩, 0, false, 0⟩ :: []) ∧
    (node.dPort.link ≠ .up ∧ (stalled (cmd 1 [])).notices.state = .stalled ∧ (dueRetry 3).notices.window.all WindowEntry.sent = true) ∧
    (node.notices.timer = none ∧ (dueRetry 3).notices.timer = some ⟨20, 19⟩ ∧ (18 : Nat) + 1 < 20) ∧
    ((dueRetry 3).notices.window.map WindowEntry.transmissions = [3] ∧ (dueRetry 4).notices.window.map WindowEntry.transmissions = [4]) := by
  decide +kernel

theorem witness_ReadCountersResult :
    (∀ p, (hand (cmd 0x60 p)).Takes (cmd 0x60 p)) ∧
    (answers (exec .readCounters (hand (cmd 0x60 [4, 0, 0]))) .badArg [1] = true ∧ answers (exec .readCounters (hand (cmd 0x60 [3, 64, 0]))) .badArg [2] = true ∧
      answers (exec .readCounters (hand (cmd 0x60 [2, 64, 2]))) .badArg [3] = true ∧
      answers (exec .readCounters (hand (cmd 0x60 [2, 64, 0]))) .ok (2 :: 0 :: 0 :: List.replicate 44 0) = true ∧
      answers (exec .readCounters (hand (cmd 0x60 [3, 63, 1]))) .ok (3 :: 63 :: 1 :: List.replicate 40 0) = true) :=
  ⟨takes_hand _, by decide +kernel⟩

theorem witness_DPortTakings :
    ((sending .cq).dPort.link = .up ∧ (sending .cq).dPort.tx = .idle ∧ discarding.dPort.link ≠ .up) ∧
    ((sending .cq).source = some .rq ∧ (sending .nu).source = some .nu ∧ discarding.source = some .rq) ∧
    (∀ i, i < 4 → (fun (_ : Nat) (_ : Source) => true) (0 + i) Source.nu = true) := by decide +kernel

theorem witness_QueueCommands :
    ((goingUp .up).merger.uq = cmd 1 [] :: [] ∧ (goingUp .up).uPort.link = .up ∧ (goingUp .up).uPort.tx = .idle ∧ (goingUp .align).uPort.link ≠ .up) ∧
    node.merger.uq = [] ∧ node.mgmt.waiting = [] ∧
    ((held .engine).mgmt.waiting = ⟨.engine, cmd 1 []⟩ :: [] ∧ (held .loader).mgmt.waiting = ⟨.loader, cmd 1 []⟩ :: [] ∧
      (held .loader).mgmt.responseQueue.length < 4) := by decide +kernel

/-! ### Hypotheses met: what every step keeps -/

/-- A step from a part with no command waiting is a next state. -/
theorem step_node : step node = .next node.accessPeriod := rfl

theorem witness_StepKeepsQueues : node.QueuesKept := by
  refine ⟨⟨by decide, fun _ => ⟨rfl, rfl⟩, fun f h => by simp [node, State.reset, LinkPort.reset] at h⟩,
    ⟨by decide, fun _ => ⟨rfl, rfl⟩, fun f h => by simp [node, State.reset, LinkPort.reset] at h⟩, fun i w h => ?_, by unfold Merger.Kept; decide, ?_, ?_⟩
  · simp [node, State.reset, Conditioner.reset] at h
  · unfold Management.Kept; decide
  · unfold State.LoaderKept; decide

/-- A port with a sample frame waiting, and the slot it takes, are as their rules have them. -/
theorem witness_Fed : sampleWaits.uPort.Kept Config.uBufferSize ∧ converting.conditioner.Fed := by
  refine ⟨⟨by decide, fun h => absurd rfl h, by decide⟩, fun i w h => ?_⟩
  have hs : ∀ i : SlotId, converting.conditioner.slots[i] = if i = 0 then some ⟨.converting 0, 3, 9, 4, 1, [50]⟩ else none := by decide +kernel
  rw [hs] at h
  split at h
  · cases h; exact ⟨by decide, by decide⟩
  · cases h

theorem witness_StepKeepsNotices : node.notices.Kept := by
  unfold NoticeUnit.Kept NoticeUnit.Sized NoticeUnit.Consecutive NoticeUnit.Ordered NoticeUnit.InRange NoticeUnit.Timed
  decide

theorem witness_StepKeepsPages : node.PagesKept := by
  have hc : ∀ c, node.curve c = .reset := by simp [State.curve, node, State.reset, CurveStore.reset]
  refine ⟨?_, fun c _ => by rw [hc]; exact ⟨rfl, rfl⟩, ?_, fun r h => by simp [node, State.reset, Management.reset] at h,
    fun c h => absurd (by rw [hc]; rfl) h, by unfold StoreArbiter.Kept; decide,
    by decide, fun l h => by simp [node, State.reset, Loader.reset] at h, by decide, by decide, fun _ p h => by
      simp [node, State.reset, CurveStore.reset] at h⟩
  · unfold CurveStore.Partitioned; decide +kernel
  · unfold State.MarkedByWrite; decide

/-- A LIVE curve of two knots, and an order check that has read one knot, are as chapters 03 and 05 have them. -/
theorem witness_KnotsKept :
    conditioning.KnotsKept ∧
    ∃ r, (checking 2).accessPeriod.mgmt.readBack = some r ∧ r.got = [⟨0, 0⟩] ∧ (checking 2).accessPeriod.store.knotAt r.pages 0 = some ⟨0, 0⟩ := by
  refine ⟨fun c h => ?_, ⟨.orderCheck none, 4, 0, [1], 2, 0, 2, [⟨0, 0⟩]⟩, by decide +kernel, rfl, by decide +kernel⟩
  have hs : ∀ c : CurveId, conditioning.curve c = if c = 4 then ⟨.live, 2, [1], 1, 1, 0, 0⟩ else .reset := by decide +kernel
  rw [hs] at h ⊢
  split at h
  · rename_i hc
    rw [if_pos hc]
    refine ⟨by decide, by decide, fun i hi => ?_⟩
    obtain rfl : i = 0 := by simp at hi; omega
    exact ⟨⟨0, 0⟩, ⟨100, 200⟩, by decide +kernel, by decide +kernel, by decide⟩
  · exact absurd rfl h

theorem witness_StepKeepsChannels : node.ChannelsKept := by
  refine ⟨fun c k => ?_, fun k h => ?_, fun b h => ?_, fun h => ?_⟩
  · simp [node, State.reset, ChannelTable.lookup, ChannelTable.reset, Context.reset]
  · simp [node, State.reset, ChannelTable.reset, Context.reset] at h
  · simp [node, State.reset] at h
  · simp [node, State.reset, Management.reset] at h

/-- The part with one frame converting has slots, orders, units and accumulators as chapter 04 has them. -/
theorem witness_ConditionerKept :
    converting.conditioner.AgeKept ∧ converting.conditioner.ReadyKept ∧ converting.conditioner.Paired ∧ converting.AveragesKept := by
  have hs : ∀ i : SlotId, converting.conditioner.slots[i] = if i = 0 then some ⟨.converting 0, 3, 9, 4, 1, [50]⟩ else none := by decide +kernel
  have hu : ∀ u : UnitId, converting.conditioner.units[u] = if u = 0 then some ⟨0, .start .reset⟩ else none := by decide +kernel
  have hc : ∀ k : ContextId, (converting.context k).acc.count < (converting.context k).decimation := by decide +kernel
  have ha : converting.conditioner.age = [0] := by decide +kernel
  have hr : converting.conditioner.ready = [] := by decide +kernel
  refine ⟨⟨by simp [ha], fun i => ?_⟩, ⟨by simp [hr], fun i => ?_⟩, fun u i => ?_, hc, fun u b w h => ?_⟩
  · rw [ha, hs]; revert i; decide
  · rw [hr, hs]; revert i; simp
  · rw [hs, hu]; revert u i; decide
  · unfold State.busySlot at h
    rw [hu u] at h
    split at h
    · rename_i b' hb
      split at hb
      · cases hb
        simp only [Option.map_eq_some_iff] at h
        obtain ⟨w', -, e⟩ := h
        cases e
        exact Nat.lt_of_le_of_lt (Nat.zero_le _) (hc _)
      · cases hb
    · cases h

theorem witness_StepKeepsCounts : node.CountsKept := by
  refine ⟨witness_StepKeepsChannels, fun b h => ?_, fun c => ⟨?_, ?_, ?_⟩, fun c => ?_, fun k => ?_,
    ⟨⟨by decide, by decide⟩, ⟨by decide, fun i => ?_⟩, fun u i => ?_, fun k => ?_, fun u b w h => ?_⟩, fun r h => ?_⟩
  · simp [node, State.reset] at h
  · have : (node.curve c).refs = 0 := by simp [State.curve, node, State.reset, CurveStore.reset, Curve.reset]
    rw [this]; simp [node, State.reset, ChannelTable.reset, Context.reset]
  · have : (node.curve c).pins = 0 := by simp [State.curve, node, State.reset, CurveStore.reset, Curve.reset]
    rw [this]; simp [node, State.reset, Conditioner.reset]
  · have : (node.curve c).reservations = 0 := by simp [State.curve, node, State.reset, CurveStore.reset, Curve.reset]
    rw [this]; rfl
  · simp [State.curve, node, State.reset, CurveStore.reset, Curve.reset, Curve.CountsFit]
  · simp [State.context, node, State.reset, ChannelTable.reset, Context.reset, Conditioner.reset]
  · simp [node, State.reset, Conditioner.reset]
  · simp [node, State.reset, Conditioner.reset]
  · simp [State.context, node, State.reset, ChannelTable.reset, Context.reset, Accumulator.empty]
  · simp [State.busySlot, node, State.reset, Conditioner.reset] at h
  · simp [node, State.reset, Management.reset] at h

/-- The part with one frame converting has its counts as chapters 02 to 04 have them: what ConversionsConvert asks of its state. -/
theorem witness_CountsKept_converting : converting.CountsKept := by
  have hk : ∀ k : ContextId, converting.context k =
      if k = 3 then { Context.reset with channel := some 9, mode := .cond, curve := some 4, expected := some 4, inFlight := 1 } else .reset := by decide +kernel
  have hm : ∀ c : Byte, converting.table.lookup c = if c = 9 then some 3 else none := by decide +kernel
  have hb : converting.bind = none := by decide +kernel
  refine ⟨⟨fun c k => ?_, fun k h => ?_, fun b h => ?_, fun h => ?_⟩, fun b h => ?_, fun c => ⟨?_, ?_, ?_⟩, fun c => ?_, fun k => ?_,
    witness_ConditionerKept, fun r h => ?_⟩
  · have := hk k
    unfold State.context at this
    rw [hm, this]
    by_cases hc : c = 9 <;> by_cases h3 : k = 3 <;> simp [hc, h3, Context.reset, eq_comm]
  · have := hk k
    unfold State.context at this
    rw [this] at h ⊢
    by_cases h3 : k = 3 <;> simp [h3, Context.reset] at h ⊢
  · rw [hb] at h; cases h
  · exact absurd h (by decide +kernel)
  · rw [hb] at h; cases h
  · revert c; decide +kernel
  · revert c; decide +kernel
  · revert c; decide +kernel
  · have hc : ∀ c : CurveId, converting.curve c = if c = 4 then ⟨.live, 2, [1], 1, 1, 1, 0⟩ else .reset := by decide +kernel
    rw [hc]
    by_cases h4 : c = 4 <;> simp [h4, Curve.CountsFit, Curve.reset]
  · revert k; decide +kernel
  · exact absurd h (by rw [show converting.mgmt.readBack = none by decide +kernel]; simp)

end Sys2Proof.Tests
end

section
/-! The CRC, what a transmitter sends, and the receive checks: O6, O7, O9. -/

namespace Sys2Proof.Machine

/-! ### The CRC -/

theorem crcShift_eq_registerStep (r : Half) : crcShift r = crcRegisterStep r := by
  simp [crcShift, crcRegisterStep, BitVec.msb_eq_getLsbD_last]

theorem crcByte_eq_iterate (r : Half) (b : Byte) : crcByte r b = crcRegisterStep^[8] (r ^^^ (b ++ (0 : Byte))) := by
  simp only [crcByte, crcShift_eq_registerStep]
  rfl

/-! ### Two-byte fields and kind codes -/

theorem halfBytes_halfOf (high low : Byte) : halfBytes (halfOf high low) = [high, low] :=
  congrArg₂ (fun a b => [a, b]) BitVec.extractLsb'_append_eq_left BitVec.extractLsb'_append_eq_right

theorem halfOf_halfBytes (v : Half) : halfOf (v.extractLsb' 8 8) (v.extractLsb' 0 8) = v :=
  BitVec.extractLsb'_append_extractLsb' (w := 8) (len := 8)

/-- The receiver's comparison: the two bytes are those of the field exactly when they spell it. -/
theorem halfBytes_eq_iff (v : Half) (high low : Byte) : halfBytes v = [high, low] ↔ halfOf high low = v := by
  constructor
  · intro h
    obtain ⟨rfl, rfl⟩ : v.extractLsb' 8 8 = high ∧ v.extractLsb' 0 8 = low := by simpa [halfBytes] using h
    exact halfOf_halfBytes v
  · rintro rfl
    exact halfBytes_halfOf high low

@[simp] theorem halfBytes_length (v : Half) : (halfBytes v).length = 2 := rfl

@[simp] theorem FrameKind.ofCode_code (k : FrameKind) : FrameKind.ofCode k.code = some k := by cases k <;> rfl

theorem FrameKind.code_of_ofCode {b : Byte} {k : FrameKind} (h : FrameKind.ofCode b = some k) : b = k.code := by
  unfold FrameKind.ofCode at h
  split_ifs at h with h1 h2 h3 h4 h5 h6 <;> (cases h; assumption)

/-- A byte outside 1..6 is no kind's code. -/
theorem FrameKind.ofCode_eq_none {b : Byte} (h : b.toNat < 1 ∨ 6 < b.toNat) : FrameKind.ofCode b = none := by
  cases hk : FrameKind.ofCode b with
  | none => rfl
  | some k =>
    obtain rfl := FrameKind.code_of_ofCode hk
    cases k <;> exact absurd h (by decide)

/-! ### The length checks in words -/

theorem runLengthOk_iff (bytes n : Nat) : runLengthOk bytes n = true ↔ bytes ≤ 56 ∧ 8 ≤ bytes ∧ n ≤ 48 ∧ bytes = 8 + n := by
  simp [runLengthOk, and_assoc]

/-- A length field fails its kind's rule exactly in the cases of 01 Table 1-10, order 4. -/
theorem kindLengthOk_eq_false_iff (kind : FrameKind) (x : Byte) (n : Nat) :
    kindLengthOk kind x n = false ↔
      (kind = .sample ∧ ((x.toNat < 1 ∨ 8 < x.toNat) ∨ n ≠ 2 + 2 * x.toNat)) ∨
      (kind = .csample ∧ ((x.toNat < 1 ∨ 8 < x.toNat) ∨ n ≠ 2 + 3 * x.toNat)) ∨
      (kind = .notice ∧ n < 2) ∨ (kind = .enum ∧ n ≠ 0) := by
  cases kind <;> simp only [kindLengthOk, reduceCtorEq, false_and, true_and, false_or, or_false, Bool.and_eq_false_iff,
    decide_eq_false_iff_not, beq_eq_false_iff_ne, not_le]

/-! ### The receive checks -/

/-- A run with a header goes through the four checks in order; its length field is byte 1. -/
theorem receive_header (k n a q x c : Byte) (rest : List Byte) :
    receive (k :: n :: a :: q :: x :: c :: rest) =
      if runLengthOk (rest.length + 6) n.toNat then
        if halfBytes (crc ((k :: n :: a :: q :: x :: c :: rest).take (6 + n.toNat))) =
            (k :: n :: a :: q :: x :: c :: rest).drop (6 + n.toNat) then
          match FrameKind.ofCode k with
          | some kind =>
            if kindLengthOk kind x n.toNat then .ok ⟨kind, a, q, x, c, rest.take n.toNat⟩ else .error .lengthErr
          | none => .error .kindErr
        else .error .crcErr
      else .error .lengthErr := rfl

/-- A run is at least a header, or shorter. -/
theorem run_cases (run : List Byte) :
    run.length < 6 ∨ ∃ k n a q x c rest, run = k :: n :: a :: q :: x :: c :: rest := by
  match run with
  | k :: n :: a :: q :: x :: c :: rest => exact .inr ⟨k, n, a, q, x, c, rest, rfl⟩
  | [] | [_] | [_, _] | [_, _, _] | [_, _, _, _] | [_, _, _, _, _] => exact .inl (by simp)

theorem receive_short {run : List Byte} (h : run.length < 8) : receive run = .error .lengthErr := by
  obtain h6 | ⟨k, n, a, q, x, c, rest, rfl⟩ := run_cases run
  · match run with
    | k :: n :: a :: q :: x :: c :: rest => simp +arith at h6
    | [] | [_] | [_, _] | [_, _, _] | [_, _, _, _] | [_, _, _, _, _] => rfl
  · rw [receive_header, if_neg]
    rw [runLengthOk_iff]
    simp at h
    omega

/-- A header's six bytes and its payload are what the CRC covers. -/
theorem take_header (k n a q x c : Byte) (rest : List Byte) (m : Nat) :
    (k :: n :: a :: q :: x :: c :: rest).take (6 + m) = k :: n :: a :: q :: x :: c :: rest.take m := by
  rw [Nat.add_comm]
  rfl

theorem drop_header (k n a q x c : Byte) (rest : List Byte) (m : Nat) :
    (k :: n :: a :: q :: x :: c :: rest).drop (6 + m) = rest.drop m := by
  rw [Nat.add_comm]
  rfl

/-- A run of the right length fails the CRC check exactly when its two last bytes are not the CRC of those before. -/
theorem receive_eq_crcErr_iff {k n a q x c : Byte} {p : List Byte} (hn : n.toNat ≤ 48) (hp : p.length = n.toNat) (high low : Byte) :
    receive (k :: n :: a :: q :: x :: c :: (p ++ [high, low])) = .error .crcErr ↔
      halfOf high low ≠ crc (k :: n :: a :: q :: x :: c :: p) := by
  rw [receive_header, take_header, drop_header, ← hp, List.take_left, List.drop_left,
    if_pos (by rw [runLengthOk_iff]; simp; omega), ne_eq, ← halfBytes_eq_iff]
  by_cases h : halfBytes (crc (k :: n :: a :: q :: x :: c :: p)) = [high, low]
  · rw [if_pos h]
    split
    · split_ifs <;> simp [h]
    · simp [h]
  · simp [h]

/-- What a run that passes the receive checks is: a header whose length field counts the payload, the payload, and the CRC of both. -/
theorem receive_eq_ok_iff (k n a q x c : Byte) (rest : List Byte) (f : Frame) :
    receive (k :: n :: a :: q :: x :: c :: rest) = .ok f ↔
      (n.toNat ≤ 48 ∧ rest.length = 2 + n.toNat) ∧
      halfBytes (crc (k :: n :: a :: q :: x :: c :: rest.take n.toNat)) = rest.drop n.toNat ∧
      ∃ kind, k = kind.code ∧ kindLengthOk kind x n.toNat = true ∧ f = ⟨kind, a, q, x, c, rest.take n.toNat⟩ := by
  rw [receive_header, take_header, drop_header]
  have hlen : runLengthOk (rest.length + 6) n.toNat = true ↔ n.toNat ≤ 48 ∧ rest.length = 2 + n.toNat := by
    rw [runLengthOk_iff]
    omega
  constructor
  · intro h
    split_ifs at h with h1 h2
    split at h
    next kind hk =>
      split_ifs at h with h3
      cases h
      exact ⟨hlen.1 h1, h2, kind, FrameKind.code_of_ofCode hk, h3, rfl⟩
    next => cases h
  · rintro ⟨h1, h2, kind, rfl, h3, rfl⟩
    rw [if_pos (hlen.2 h1), if_pos h2]
    simp [h3]

/-- A received run is what a transmitter sends of the frame, which keeps the length rules. -/
theorem wire_of_receive {run : List Byte} {f : Frame} (h : receive run = .ok f) :
    run = f.wire ∧ f.payload.length ≤ 48 ∧ kindLengthOk f.kind f.aux f.payload.length = true := by
  obtain h6 | ⟨k, n, a, q, x, c, rest, rfl⟩ := run_cases run
  · rw [receive_short (by omega)] at h
    cases h
  · obtain ⟨⟨hn, hrest⟩, hcrc, kind, rfl, hkind, rfl⟩ := (receive_eq_ok_iff ..).1 h
    have hp : (rest.take n.toNat).length = n.toNat := by simp; omega
    have hbody : Frame.body ⟨kind, a, q, x, c, rest.take n.toNat⟩ = kind.code :: n :: a :: q :: x :: c :: rest.take n.toNat := by
      simp [Frame.body, byteOf, hp]
    refine ⟨?_, hp.trans_le hn, by rwa [hp]⟩
    rw [Frame.wire, hbody, hcrc]
    simp

/-- What a transmitter sends is received as the frame sent. -/
theorem receive_wire {f : Frame} (hp : f.payload.length ≤ 48) (hk : kindLengthOk f.kind f.aux f.payload.length = true) :
    receive f.wire = .ok f := by
  have hn : (byteOf f.payload.length).toNat = f.payload.length := by
    rw [byteOf, BitVec.toNat_ofNat]
    omega
  refine (receive_eq_ok_iff ..).2 ⟨?_, ?_, f.kind, rfl, ?_, ?_⟩
  all_goals rw [hn]
  · exact ⟨hp, by simp; omega⟩
  · simp [Frame.body]
  · exact hk
  · simp

/-- Settles O6: the register step is the model's, byte by byte, and the receiver compares the two last bytes with the CRC of the bytes before. -/
theorem crcRule : Obligations.CrcRule := by
  refine ⟨fun bytes => ?_, by decide +kernel, fun f => rfl, fun body high low h => ?_⟩
  · exact congrArg (fun g => bytes.foldl g 0xFFFF) (funext₂ crcByte_eq_iterate)
  · obtain ⟨-, h8, hn, hlen⟩ := (runLengthOk_iff ..).1 h
    obtain h6 | ⟨k, n, a, q, x, c, p, rfl⟩ := run_cases body
    · simp at h8
      omega
    · have hp : p.length = n.toNat := by simpa +arith using hlen
      exact receive_eq_crcErr_iff hn hp high low

/-- Settles O7: both directions are `receive_eq_ok_iff` read at the bytes a transmitter sends. -/
theorem framesAndTheirBytesAgree : Obligations.FramesAndTheirBytesAgree :=
  ⟨fun _ => receive_wire, fun _ _ => wire_of_receive⟩

/-- Settles O9: each check is a branch of `receive_header`, the earlier ones passed. -/
theorem receiveCheckOrder : Obligations.ReceiveCheckOrder := by
  refine ⟨fun _ => receive_short, ⟨rfl, rfl, rfl, rfl, rfl, rfl, fun _ => FrameKind.ofCode_eq_none⟩, ?_⟩
  intro k n a q x c rest run bad covered crcBad
  have hbad : runLengthOk (rest.length + 6) n.toNat = true ↔ ¬ bad := by
    rw [runLengthOk_iff]
    simp only [bad, run, List.length_cons]
    omega
  refine ⟨fun h => ?_, fun h hc => ?_, fun h hc hk => ?_, fun h hc kind hk => ⟨fun hf => ?_, fun hf => ?_⟩⟩
  · rw [receive_header, if_neg (hbad.not.2 (not_not.2 h))]
  · rw [receive_header, if_pos (hbad.2 h), if_neg hc]
  · rw [receive_header, if_pos (hbad.2 h), if_pos (not_not.1 hc), FrameKind.ofCode_eq_none hk]
  · rw [receive_header, if_pos (hbad.2 h), if_pos (not_not.1 hc), hk]
    exact if_neg (Bool.eq_false_iff.1 ((kindLengthOk_eq_false_iff ..).2 hf))
  · rw [receive_header, if_pos (hbad.2 h), if_pos (not_not.1 hc), hk]
    exact if_pos (Bool.not_eq_false _ ▸ (kindLengthOk_eq_false_iff ..).not.2 hf)

end Sys2Proof.Machine
end

section
/-! The link ports and the power-on state: O8, O10, O5. -/

namespace Sys2Proof.Machine

/-! ### Frame arrival -/

/-- A port takes the kinds that travel its way: CMD and ENUM at the D-port, the others at the U-port (01 R12). -/
theorem rightDirection_iff (p : Port) (k : FrameKind) : rightDirection p k = true ↔ ¬ (p = .uPort ↔ k = .cmd ∨ k = .enum) := by
  cases p
  case uPort => cases k <;> decide
  case dPort => cases k <;> decide

theorem execFrameArrival_of_not_up {p : Port} {s : State} (run : List Byte) (h : (s.port p).link ≠ .up) :
    execFrameArrival p run s = .next s := if_neg h

theorem execFrameArrival_of_up {p : Port} {s : State} (run : List Byte) (h : (s.port p).link = .up) :
    execFrameArrival p run s = .next (s.arrive p run) := if_pos h

theorem State.arrive_error (s : State) (p : Port) {run : List Byte} {e : ReceiveError} (h : receive run = .error e) :
    s.arrive p run = s.countPort p fun c => c.countError e := by
  simp [State.arrive, h]

theorem State.arrive_ok (s : State) (p : Port) {run : List Byte} {f : Frame} (h : receive run = .ok f) :
    s.arrive p run = if rightDirection p f.kind then s.joinBuffer p f
      else s.countPort p fun c => { c with direction := c.direction + 1 } := by
  simp [State.arrive, h]

/-- Settles O8: the branches of `State.arrive`, the direction in the words of `rightDirection_iff`. -/
theorem frameArrivalResult : Obligations.FrameArrivalResult := by
  intro p run s
  refine ⟨execFrameArrival_of_not_up run, fun hup => ?_, rfl, rfl, fun c => ⟨rfl, rfl, rfl⟩⟩
  have hexec : exec (.frameArrival p run) s = .next (s.arrive p run) := execFrameArrival_of_up run hup
  rw [hexec]
  refine ⟨fun e he => by rw [s.arrive_error p he], fun f hf => ?_⟩
  rw [s.arrive_ok p hf]
  refine ⟨fun hwrong => ?_, fun hright => ?_⟩
  · rw [if_neg ((rightDirection_iff ..).not.2 (not_not.2 hwrong))]
  · rw [if_pos ((rightDirection_iff ..).2 hright)]
    exact ⟨fun hfull => congrArg _ (if_neg (Nat.not_lt.2 hfull)), fun hroom => congrArg _ (if_pos hroom)⟩

/-! ### Link states -/

theorem Transmitter.abandoned_eq (t : Transmitter) : t.abandoned = if t = .idle then 0 else 1 := by
  cases t <;> simp [Transmitter.abandoned]

/-- What CARRIER_LOSS does to a port in UP, spelled out (01 R10, R14, R15). -/
theorem State.leaveUp_eq (s : State) (p : Port) :
    s.leaveUp p = ((s.setPort p ⟨.down, [], .idle⟩).countPort p fun c =>
      { c with
        linkFlush := c.linkFlush + BitVec.ofNat 32 (s.port p).buffer.length
        outDiscard := c.outDiscard + (if (s.port p).tx = .idle then 0 else 1) }).raise .linkChange (portSubject p) [0] := by
  rw [← Transmitter.abandoned_eq]
  rfl

/-- Settles O10: each event's row at each link state. -/
theorem linkEventResults : Obligations.LinkEventResults := by
  intro p s
  have hdetect : exec (.carrierDetect p) s = execCarrierDetect p s := rfl
  have halign : exec (.alignmentAchieved p) s = execAlignmentAchieved p s := rfl
  have hloss : exec (.carrierLoss p) s = execCarrierLoss p s := rfl
  rw [hdetect, halign, hloss]
  unfold execCarrierDetect execAlignmentAchieved execCarrierLoss
  refine ⟨fun h => ?_, fun h => ?_, fun h => ?_, rfl, rfl, rfl, rfl⟩
  · simp [h]
  · simp [h, State.raiseLink, LinkState.code]
  · simp [h, s.leaveUp_eq p]

/-! ### The release of RESETn -/

@[simp] theorem State.reset_context (k : ContextId) : State.reset.context k = .reset := by
  simp [State.context, State.reset, ChannelTable.reset]

@[simp] theorem State.reset_curve (c : CurveId) : State.reset.curve c = .reset := by
  simp [State.curve, State.reset, CurveStore.reset]

@[simp] theorem ChannelTable.reset_lookup (channel : Byte) : ChannelTable.reset.lookup channel = none := by
  simp [ChannelTable.lookup, ChannelTable.reset]

/-- No unit is BUSY, no read-back and no page write in progress, so no claim waits. -/
theorem State.reset_claims : State.reset.claims = ⟨false, false, false, false⟩ := rfl

theorem Counters.reset_read (x : Scope) : ∀ v ∈ Counters.reset.read x, v = 0 := by
  match x with
  | .port .uPort | .port .dPort => simp [Counters.read, Counters.reset, PortCounters.list, PortCounters.zero]
  | .node => simp [Counters.read, Counters.reset, NodeCounters.list, NodeCounters.zero]
  | .context k => simp [Counters.read, Counters.reset, ContextCounters.list, ContextCounters.zero]

/-- Settles O5. -/
theorem powerOnState : Obligations.PowerOnState := by
  refine ⟨fun p => ?_, ChannelTable.reset_lookup, fun k => ?_, fun p i => ?_, rfl, rfl, State.reset_curve, rfl, State.reset_claims,
    fun i => ?_, rfl, rfl, fun u => ?_, rfl, fun i => ?_, rfl, rfl, rfl, rfl, rfl, rfl, rfl, rfl, rfl, rfl, rfl, fun m => ?_, rfl, rfl, rfl,
    Counters.reset_read⟩
  · cases p <;> exact ⟨rfl, rfl, rfl⟩
  · simp [Context.reset, Accumulator.empty]
  · simp [State.reset, CurveStore.reset, blankPage]
  · simp [State.reset, Conditioner.reset]
  · simp [State.reset, Conditioner.reset]
  · simp [State.reset, Loader.reset, Staging.cleared, blankPage]
  · simp [State.reset, Management.reset]

end Sys2Proof.Machine
end

section
/-! The two classifiers: O11, O12. -/

namespace Sys2Proof.Machine

/-! ### The data classifier's decision -/

theorem State.decide_other (s : State) {f : Frame} (h : f.kind ≠ .sample) : s.decide f = .passOther := if_neg h

theorem State.decide_forward {s : State} {f : Frame} (h : f.kind = .sample) (hl : s.table.lookup f.addr = none)
    (hp : s.mgmt.params.unmappedPolicy = .forward) : s.decide f = .passUnmapped := by
  simp only [State.decide, h, hl, hp, if_true]

theorem State.decide_drop {s : State} {f : Frame} (h : f.kind = .sample) (hl : s.table.lookup f.addr = none)
    (hp : s.mgmt.params.unmappedPolicy = .drop) : s.decide f = .dropUnmapped := by
  simp only [State.decide, h, hl, hp, if_true]

theorem State.decide_fenced {s : State} {f : Frame} {k : ContextId} (h : f.kind = .sample) (hl : s.table.lookup f.addr = some k)
    (hf : (s.context k).fenced = true) : s.decide f = .fenced := by
  simp only [State.decide, h, hl, hf, if_true]

section
variable {s : State} {f : Frame} {k : ContextId} (h : f.kind = .sample) (hl : s.table.lookup f.addr = some k)
  (hf : (s.context k).fenced = false)
include h hl hf

theorem State.decide_off (hm : (s.context k).mode = .off) : s.decide f = .dropOff k := by
  simp only [State.decide, h, hl, hf, hm, if_true, Bool.false_eq_true, if_false]

theorem State.decide_pass (hm : (s.context k).mode = .pass) : s.decide f = .passContext k := by
  simp only [State.decide, h, hl, hf, hm, if_true, Bool.false_eq_true, if_false]

theorem State.decide_cond (hm : (s.context k).mode = .cond) : s.decide f = .offered := by
  simp only [State.decide, h, hl, hf, hm, if_true, Bool.false_eq_true, if_false]

end

/-! ### What the data classifier makes of a decision -/

theorem State.forwardFull_iff (s : State) : s.forwardFull = true ↔ 8 ≤ s.merger.fq.length := decide_eq_true_iff

section
variable {s : State} {f : Frame} {rest : List Frame} {d : DataDecision} (h : s.uPort.buffer = f :: rest) (hd : s.decide f = d)
include h hd

/-- A frame for the forward queue is counted and joins its tail, or waits while the queue is full. -/
theorem State.classifyData_passes (hp : d.passes = true) :
    s.classifyData =
      let taken := ({ s with uPort := { s.uPort with buffer := rest } }).countDecision d
      if s.merger.fq.length < 8 then { taken with merger := { taken.merger with fq := taken.merger.fq ++ [f] } } else s := by
  have hfull : s.forwardFull = true ↔ ¬ s.merger.fq.length < 8 := by rw [s.forwardFull_iff, Nat.not_lt]
  simp only [State.classifyData, h, hd]
  cases d
  case passOther | passUnmapped | passContext => simp only [hfull, ite_not]
  case dropUnmapped | dropOff | fenced | offered => cases hp

theorem State.classifyData_drops (hp : d = .dropUnmapped ∨ ∃ k, d = .dropOff k) :
    s.classifyData = ({ s with uPort := { s.uPort with buffer := rest } }).countDecision d := by
  obtain rfl | ⟨k, rfl⟩ := hp <;> simp only [State.classifyData, h, hd]

theorem State.classifyData_waits (hp : d = .fenced ∨ d = .offered) : s.classifyData = s := by
  rcases hp with rfl | rfl <;> simp only [State.classifyData, h, hd]

end

/-- Settles O11: the decision in each case, and what the classifier makes of it. -/
theorem dataClassifierResult : Obligations.DataClassifierResult := by
  intro s f rest hbuf taken forwarded result
  have hresult : result = .next s.classifyData := rfl
  rw [hresult]
  refine ⟨fun hk => ?_, fun hk => ⟨fun hl => ⟨fun hp => ?_, fun hp => ?_⟩, fun k hl => ⟨fun hf => ?_,
    fun hf => ⟨fun hm => ?_, fun hm => ?_, fun hm => ?_⟩⟩⟩⟩
  · rw [State.classifyData_passes hbuf (s.decide_other hk) rfl]; rfl
  · rw [State.classifyData_passes hbuf (State.decide_forward hk hl hp) rfl]; rfl
  · rw [State.classifyData_drops hbuf (State.decide_drop hk hl hp) (.inl rfl)]; rfl
  · rw [State.classifyData_waits hbuf (State.decide_fenced hk hl hf) (.inl rfl)]
  · rw [State.classifyData_drops hbuf (State.decide_off hk hl hf hm) (.inr ⟨k, rfl⟩)]; rfl
  · rw [State.classifyData_passes hbuf (State.decide_pass hk hl hf hm) rfl]; rfl
  · rw [State.classifyData_waits hbuf (State.decide_cond hk hl hf hm) (.inr rfl)]

/-! ### The command classifier's decision -/

theorem State.decideCommand_badManager (s : State) {f : Frame} (hk : f.kind = .cmd) (hm : 3 < f.aux.toNat) :
    s.decideCommand f = .badManager := by
  rw [State.decideCommand, hk, if_neg (by decide), if_pos hm]

/-- A broadcast, whatever the node's address. -/
theorem State.decideCommand_broadcast {s : State} {f : Frame} (hk : f.kind = .cmd) (hm : f.aux.toNat ≤ 3) (ha : f.addr = 63) :
    s.decideCommand f = .broadcast := by
  rw [State.decideCommand, hk, if_neg (by decide), if_neg (Nat.not_lt.2 hm)]
  exact if_pos ha

/-- The decision on a CMD frame that is no broadcast lies with the two addresses. -/
theorem State.decideCommand_target {s : State} {f : Frame} (hk : f.kind = .cmd) (hm : f.aux.toNat ≤ 3) (ha : f.addr ≠ 63) :
    s.decideCommand f =
      if s.mgmt.address = 0 then .other else if f.addr = s.mgmt.address then .addressed
      else if f.addr.toNat ≤ 62 then .other else .stray := by
  rw [State.decideCommand, hk, if_neg (by decide), if_neg (Nat.not_lt.2 hm)]
  exact if_neg ha

section
variable {s : State} {f : Frame} (hk : f.kind = .cmd) (hm : f.aux.toNat ≤ 3)
include hk hm

theorem State.decideCommand_addressed (ha : f.addr ≠ 63) (ho : f.addr = s.mgmt.address) (h0 : s.mgmt.address ≠ 0) :
    s.decideCommand f = .addressed := by
  rw [State.decideCommand_target hk hm ha, if_neg h0, if_pos ho]

theorem State.decideCommand_other (ha : f.addr ≠ 63) (ho : s.mgmt.address = 0 ∨ f.addr ≠ s.mgmt.address ∧ f.addr.toNat ≤ 62) :
    s.decideCommand f = .other := by
  rw [State.decideCommand_target hk hm ha]
  by_cases h0 : s.mgmt.address = 0
  · rw [if_pos h0]
  · obtain ⟨h1, h2⟩ := ho.resolve_left h0
    rw [if_neg h0, if_neg h1, if_pos h2]

theorem State.decideCommand_stray (ha : 64 ≤ f.addr.toNat) (h0 : s.mgmt.address ≠ 0) (ho : f.addr ≠ s.mgmt.address) :
    s.decideCommand f = .stray := by
  have h63 : f.addr ≠ 63 := fun h => absurd (h ▸ ha) (by decide)
  rw [State.decideCommand_target hk hm h63, if_neg h0, if_neg ho, if_neg (by omega)]

end

/-! ### What the command classifier makes of a decision -/

theorem State.upFull_iff (s : State) : s.upFull = true ↔ 4 ≤ s.merger.uq.length := decide_eq_true_iff

theorem Management.commandFull_iff (m : Management) : m.commandFull = true ↔ 4 ≤ m.commandQueue.length := decide_eq_true_iff

theorem State.takeUp_eq (s taken : State) (go : State → State) :
    s.takeUp taken go = if s.merger.uq.length < 4 then go taken else s := by
  simp only [State.takeUp, State.upFull_iff, ← Nat.not_lt, ite_not]

section
variable {s : State} {f : Frame} {rest : List Frame} (h : s.dPort.buffer = f :: rest)
include h

theorem State.classifyCommand_badManager (hd : s.decideCommand f = .badManager) :
    s.classifyCommand = ({ s with dPort := { s.dPort with buffer := rest } }).countNode fun c => { c with badManager := c.badManager + 1 } := by
  simp only [State.classifyCommand, h, hd]

theorem State.classifyCommand_addressed (hd : s.decideCommand f = .addressed) :
    s.classifyCommand = ({ s with dPort := { s.dPort with buffer := rest } }).arriveCommand f := by
  simp only [State.classifyCommand, h, hd]

theorem State.classifyCommand_broadcast (hd : s.decideCommand f = .broadcast) :
    s.classifyCommand = if s.merger.uq.length < 4 then
      (({ s with dPort := { s.dPort with buffer := rest } }).joinUp f).arriveBroadcast f else s := by
  simp only [State.classifyCommand, h, hd, State.takeUp_eq]

theorem State.classifyCommand_other (hd : s.decideCommand f = .other) :
    s.classifyCommand = if s.merger.uq.length < 4 then ({ s with dPort := { s.dPort with buffer := rest } }).joinUp f else s := by
  simp only [State.classifyCommand, h, hd, State.takeUp_eq]

theorem State.classifyCommand_stray (hd : s.decideCommand f = .stray) :
    s.classifyCommand = s.takeStray { s with dPort := { s.dPort with buffer := rest } } f := by
  simp only [State.classifyCommand, h, hd]

end

/-- A stray CMD frame is dropped, or goes the way of another node's, by a free value (log 12). -/
theorem State.takeStray_cases (s taken : State) (f : Frame) :
    s.takeStray taken f = { taken with fresh := s.fresh + 1 } ∨
    s.takeStray taken f = if s.merger.uq.length < 4 then { taken.joinUp f with fresh := s.fresh + 1 } else s := by
  unfold State.takeStray
  split
  · exact .inr (State.takeUp_eq ..)
  · exact .inl rfl

theorem State.arriveCommand_full {s : State} (f : Frame) (h : 4 ≤ s.mgmt.commandQueue.length) : s.arriveCommand f = s.dropCommand :=
  if_pos ((Management.commandFull_iff _).2 h)

theorem State.arriveCommand_room {s : State} (f : Frame) (h : s.mgmt.commandQueue.length < 4) :
    s.arriveCommand f = if s.mgmt.repeatsUnanswered f then s.countNode fun c => { c with dupInProgress := c.dupInProgress + 1 }
      else { s with mgmt := s.mgmt.join f } :=
  if_neg ((Management.commandFull_iff _).not.2 (Nat.not_le.2 h))

/-- The copy of a broadcast this node acts on joins the command queue, or finds it full. -/
theorem State.arriveBroadcast_acts {s : State} {f : Frame} (h : f.code = 0x42 ∨ f.code = 0x43) :
    s.arriveBroadcast f = if s.mgmt.commandQueue.length < 4 then { s with mgmt := s.mgmt.join f } else s.dropCommand := by
  have ha : f.actsByBroadcast = true := by simpa [Frame.actsByBroadcast, codeApplyBind, codeCancelBind] using h
  simp only [State.arriveBroadcast, ha, Management.commandFull_iff, ← Nat.not_lt, ite_not, if_true]

theorem State.arriveBroadcast_ignored {s : State} {f : Frame} (h : f.code ≠ 0x42) (h' : f.code ≠ 0x43) :
    s.arriveBroadcast f = s.countNode fun c => { c with bcastIgnored := c.bcastIgnored + 1 } :=
  if_neg (by simpa [Frame.actsByBroadcast, codeApplyBind, codeCancelBind] using ⟨h, h'⟩)

/-- Settles O12: the decision in each case, and what the classifier makes of it. -/
theorem commandClassifierResult : Obligations.CommandClassifierResult := by
  intro s f rest hbuf hk taken up joined dropped repeats result
  have hresult : result = .next s.classifyCommand := rfl
  rw [hresult]
  refine ⟨fun hm => ?_, fun hm => ⟨fun ha => ?_, fun ha ho h0 => ?_, fun ha ho => ?_, fun ha h0 ho => ?_⟩⟩
  · rw [State.classifyCommand_badManager hbuf (s.decideCommand_badManager hk hm)]
  · rw [State.classifyCommand_broadcast hbuf (State.decideCommand_broadcast hk hm ha)]
    refine ⟨fun hfull => by rw [if_neg (Nat.not_lt.2 hfull)], fun hroom => ?_⟩
    rw [if_pos hroom]
    exact ⟨fun hc => congrArg _ (State.arriveBroadcast_acts hc), fun h1 h2 => congrArg _ (State.arriveBroadcast_ignored h1 h2)⟩
  · rw [State.classifyCommand_addressed hbuf (State.decideCommand_addressed hk hm ha ho h0)]
    refine ⟨fun hfull => congrArg _ (State.arriveCommand_full f hfull), fun hroom => ?_⟩
    have hjoin := State.arriveCommand_room (s := taken) f hroom
    have hrep : s.mgmt.repeatsUnanswered f = true ↔ repeats := s.mgmt.repeatsUnanswered_iff f
    exact ⟨fun h => congrArg _ (hjoin.trans (if_pos (hrep.2 h))), fun h => congrArg _ (hjoin.trans (if_neg (hrep.not.2 h)))⟩
  · rw [State.classifyCommand_other hbuf (State.decideCommand_other hk hm ha ho)]
    rfl
  · rw [State.classifyCommand_stray hbuf (State.decideCommand_stray hk hm ha h0 ho)]
    exact (s.takeStray_cases taken f).imp (congrArg _) (congrArg _)

end Sys2Proof.Machine
end

section
/-! The engine's response path, and RESET_NODE: O30, O34. -/

namespace Sys2Proof.Machine

/-! ### The engine and its responses -/

/-- A frame that joins the queue of an engine at work waits there. -/
theorem Management.join_busy {m : Management} (f : Frame) (h : m.state ≠ .idle) :
    m.join f = { m with commandQueue := m.commandQueue ++ [f] } := if_neg h

/-- A frame that joins the empty queue of an IDLE engine is current at once (log 3). -/
theorem Management.join_idle {m : Management} (f : Frame) (h : m.state = .idle) (hq : m.commandQueue = []) :
    m.join f = { m with state := .executing, current := some f, readBack := none } := by
  have hjoin : m.join f = { m with commandQueue := m.commandQueue ++ [f] }.leave := if_pos h
  rw [hjoin, Management.leave_cons (f := f) (rest := []) (by rw [hq]; rfl), ← hq]

theorem State.respond_stored {s : State} {f : Frame} (st : Status) (p : List Byte) (h : s.mgmt.entry f.aux = .inProgress f.seq) :
    s.respond f st p =
      let r := responseFrame s.mgmt.address f.seq f.aux st p
      { s with mgmt := (s.mgmt.setEntry f.aux (.answered f.seq r)).offer r } :=
  congrArg (fun m : Management => ({ s with mgmt := m.offer (responseFrame s.mgmt.address f.seq f.aux st p) } : State))
    (Management.store_of_inProgress (r := responseFrame s.mgmt.address f.seq f.aux st p) h)

theorem State.respond_unstored {s : State} {f : Frame} (st : Status) (p : List Byte) (h : s.mgmt.entry f.aux ≠ .inProgress f.seq) :
    s.respond f st p = { s with mgmt := s.mgmt.offer (responseFrame s.mgmt.address f.seq f.aux st p) } :=
  congrArg (fun m : Management => ({ s with mgmt := m.offer (responseFrame s.mgmt.address f.seq f.aux st p) } : State))
    (Management.store_of_ne (r := responseFrame s.mgmt.address f.seq f.aux st p) h)

theorem Management.setEntry_setEntry (m : Management) (b : Byte) (d e : CacheEntry) :
    (m.setEntry b d).setEntry b e = m.setEntry b e := by
  simp [Management.setEntry, vmod]

/-- A command answered, its entry taken first, leaves what its response alone would. -/
theorem State.answered_eq (s : State) (f : Frame) (st : Status) (p : List Byte) :
    s.answered f st p =
      let r := responseFrame s.mgmt.address f.seq f.aux st p
      { s with mgmt := (s.mgmt.setEntry f.aux (.answered f.seq r)).offer r } :=
  (State.respond_stored st p (s.begun_entry f)).trans
    (congrArg (fun m : Management => ({ s with mgmt := m.offer (responseFrame s.mgmt.address f.seq f.aux st p) } : State))
      (s.mgmt.setEntry_setEntry ..))

/-- Settles O30: the equations of the engine's operations, and of an answer made of them. -/
theorem engineAndResponses : Obligations.EngineAndResponses := by
  refine ⟨fun m => ⟨Management.leave_nil, fun g rest => Management.leave_cons, fun r => Management.offer_placed r,
    fun r h => Management.offer_held r (Nat.not_lt.2 h), fun f => Management.join_busy f, fun f => Management.join_idle f⟩, fun s f st p => ?_, rfl⟩
  exact ⟨State.respond_stored st p, State.respond_unstored st p, s.answered_eq f st p, s.begun_entry f, rfl,
    fun h => Nat.mod_eq_of_lt (Nat.lt_succ_of_le h)⟩

/-! ### RESET_NODE -/

/-- A RESET_NODE of the other level is the other row's; every other one is this row's (log 20). -/
theorem Frame.resetsBut_eq_true {f : Frame} {level : Byte} (hc : f.code = 0x04) (hp : f.payload ≠ [level]) : f.resetsBut level = true := by
  simp [Frame.resetsBut, Frame.hasCode, codeResetNode, hc, hp]

theorem Frame.payload_ne {f : Frame} {level x : Byte} (hp : f.payload = [level]) (h : level ≠ x) : f.payload ≠ [x] := by
  simpa [hp] using h

section
variable {s : State} {f : Frame} {level : Byte} (h : s.Takes f) (hc : f.code = 0x04) (hp : f.payload = [level])
include h hc hp

/-- The row of level SOFT carries out every RESET_NODE with one level byte, that of level FULL excepted. -/
theorem execResetNodeSoft_taken (h2 : level ≠ 2) : exec .resetNodeSoft s = .next (resetNodeBody f (s.begun f)) :=
  State.command_taken h (Frame.resetsBut_eq_true hc (Frame.payload_ne hp h2)) (by simp [lengthIs, hp])

/-- The row of level FULL carries out every RESET_NODE with one level byte, that of level SOFT excepted. -/
theorem execResetNodeFull_taken (h1 : level ≠ 1) : exec .resetNodeFull s = .next (resetNodeBody f (s.begun f)) :=
  State.command_taken h (Frame.resetsBut_eq_true hc (Frame.payload_ne hp h1)) (by simp [lengthIs, hp])

end

theorem resetNodeBody_soft {f : Frame} (s : State) (hp : f.payload = [1]) : resetNodeBody f s = s.resetSoft f := if_pos hp

theorem resetNodeBody_full {f : Frame} (s : State) (hp : f.payload = [2]) : resetNodeBody f s = s.resetFull f := by
  unfold resetNodeBody
  rw [if_neg (by rw [hp]; decide)]
  exact if_pos hp

theorem resetNodeBody_refused {f : Frame} (s : State) {level : Byte} (hp : f.payload = [level]) (h1 : level ≠ 1) (h2 : level ≠ 2) :
    resetNodeBody f s = s.respond f .badArg [] := by
  unfold resetNodeBody
  rw [if_neg (Frame.payload_ne (x := levelSoft) hp h1), if_neg (Frame.payload_ne (x := levelFull) hp h2)]

/-- The engine after RESET_NODE, field by field. -/
theorem Management.resetNode_eq (m : Management) (q : Params) (f : Frame) (level : Byte) (held : List Frame) :
    m.resetNode q f level held =
      let r : Frame := ⟨.resp, m.address, f.seq, f.aux, 0, [level]⟩
      ⟨m.address, q, [], .idle, none, none, [],
        (Vector.replicate 4 CacheEntry.empty).set (managerIndex f.aux) (.answered f.seq r), r :: held⟩ := rfl

@[simp] theorem State.map_resetSoft (s : State) (f : Frame) : (s.resetSoft f).table.map = s.table.map := by
  simp only [State.resetSoft]

@[simp] theorem State.context_resetSoft (s : State) (f : Frame) (k : ContextId) :
    (s.resetSoft f).context k = (s.context k).resetSoft (s.unsent k) := by
  simp [State.context, State.resetSoft]

@[simp] theorem State.curve_resetSoft (s : State) (f : Frame) (c : CurveId) :
    (s.resetSoft f).curve c = (s.curve c).resetSoft := by
  simp [State.curve, State.resetSoft, CurveStore.resetSoft]

/-- The descriptors in ascending curve id order. -/
theorem State.curves_toList (s : State) : s.store.curves.toList = (List.finRange 48).map s.curve := by
  refine List.ext_getElem (by simp) fun i h1 h2 => ?_
  simp [State.curve]

/-- The pages of the RETIRING curves, in ascending curve id order. -/
theorem State.retiringPages_eq (s : State) :
    (s.store.curves.toList.filter fun d => d.state == .retiring).flatMap Curve.pages =
      (List.finRange 48).flatMap fun c => if (s.curve c).state = .retiring then (s.curve c).pages else [] := by
  rw [s.curves_toList]
  induction List.finRange 48 with
  | nil => rfl
  | cons c l ih =>
    by_cases h : (s.curve c).state = .retiring <;> simp [h, ih]

/-- The output sequence of a slot's frame, when the slot is READY and of the context. -/
theorem unsentSeq_eq (x : Option WorkSlot) (k : ContextId) :
    (x.bind fun w => if w.context = k then w.built.map Frame.seq else none) =
      match x with
      | some ⟨.ready _ q, k', _, _, _, _⟩ => if k' = k then some q else none
      | _ => none := by
  match x with
  | none => rfl
  | some ⟨.ready _ _, _, _, _, _, _⟩ => rfl
  | some ⟨.queued, _, _, _, _, _⟩ | some ⟨.converting _, _, _, _, _, _⟩ => simp [WorkSlot.built]

/-- Settles O34: each row's body at each level; the fields a SOFT reset writes by an index are read off their operations. -/
theorem resetNodeResults : Obligations.ResetNodeResults := by
  intro s f h hc r cache
  refine ⟨fun level hp h1 h2 => ?_, fun hp => ?_, fun hp => ⟨(s.begun f).resetSoft f, ?_, rfl, rfl, State.map_resetSoft .., fun k => ?_,
    rfl, rfl, rfl, ?_, fun c => ?_, rfl, rfl, rfl, ?_, rfl, rfl, rfl, rfl, rfl⟩, fun k => ?_⟩
  · rw [execResetNodeSoft_taken h hc hp h2, execResetNodeFull_taken h hc hp h1, resetNodeBody_refused _ hp h1 h2]
    exact ⟨rfl, rfl⟩
  · rw [execResetNodeFull_taken h hc hp (by decide), resetNodeBody_full _ hp]
    rfl
  · rw [execResetNodeSoft_taken h hc hp (by decide), resetNodeBody_soft _ hp]
  · exact State.context_resetSoft ..
  · exact congrArg (s.store.free ++ ·) s.retiringPages_eq
  · exact State.curve_resetSoft ..
  · exact Management.resetNode_eq ..
  · exact congrArg _ (congrArg (List.filterMap · _) (funext fun i => unsentSeq_eq _ k))

end Sys2Proof.Machine
end

section
/-! What the management engine's operations keep of its queues, its state and the held responses (07 R133, R134, R142, R143, 05 R103). -/

namespace Sys2Proof.Machine

/-! ### The engine alone -/

/-- The engine's queues and held responses: what `Management.Kept` says without the engine's own state. -/
structure Management.QueuesFit (m : Management) : Prop where
  address : m.address.toNat ≤ 62
  commands : m.commandQueue.length ≤ Config.commandQueueSize
  responses : m.responseQueue.length ≤ Config.responseQueueSize
  full : m.waiting ≠ [] → m.responseQueue.length = Config.responseQueueSize
  holders : m.holders.Nodup

/-- The engine's own state beside its current command, its read-back and the response it holds. -/
structure Management.StateFits (m : Management) : Prop where
  current : m.state = .idle ↔ m.current = none
  idle : m.state = .idle → m.commandQueue = []
  posting : Holder.engine ∈ m.holders ↔ m.state = .posting
  readBack : m.readBack.isSome → m.state = .executing

theorem Management.kept_iff (m : Management) : m.Kept ↔ m.QueuesFit ∧ m.StateFits := by
  constructor
  · rintro ⟨ha, hc, hr, hcur, hidle, hfull, hnd, hpost, hrb⟩
    exact ⟨⟨ha, hc, hr, hfull, hnd⟩, ⟨hcur, hidle, hpost, hrb⟩⟩
  · rintro ⟨⟨ha, hc, hr, hfull, hnd⟩, ⟨hcur, hidle, hpost, hrb⟩⟩
    exact ⟨ha, hc, hr, hcur, hidle, hfull, hnd, hpost, hrb⟩

/-- The engine has a command that it may answer: it has one in hand or fenced, and neither a read-back of it nor its response under way. -/
structure Management.MayAnswer (m : Management) : Prop where
  busy : m.state = .executing ∨ m.state = .fenceWait
  readBack : m.readBack = none

/-- No response waits while the response queue has a place. -/
theorem Management.QueuesFit.waiting_nil {m : Management} (h : m.QueuesFit) (hroom : m.responseQueue.length < Config.responseQueueSize) :
    m.waiting = [] := by
  by_contra hne
  exact absurd (h.full hne) (Nat.ne_of_lt hroom)

/-- An engine that holds no response leaves its command with everything kept. -/
theorem Management.QueuesFit.leave {m : Management} (h : m.QueuesFit) (he : Holder.engine ∉ m.holders) : m.leave.Kept := by
  rw [Management.kept_iff]
  cases hq : m.commandQueue with
  | nil =>
    rw [Management.leave_nil hq]
    exact ⟨⟨h.address, h.commands, h.responses, h.full, h.holders⟩, ⟨by simp, fun _ => hq, iff_of_false he (by simp), by simp⟩⟩
  | cons f rest =>
    have hlen : rest.length ≤ Config.commandQueueSize := (Nat.le_succ _).trans (by simpa [hq] using h.commands)
    rw [Management.leave_cons hq]
    exact ⟨⟨h.address, hlen, h.responses, h.full, h.holders⟩, ⟨by simp, by simp, iff_of_false he (by simp), by simp⟩⟩

/-- A response joins a queue that has a place, and then none waits. -/
theorem Management.QueuesFit.push {m : Management} (h : m.QueuesFit) (hroom : m.responseQueue.length < Config.responseQueueSize) (r : Frame) :
    ({ m with responseQueue := m.responseQueue ++ [r] } : Management).QueuesFit where
  address := h.address
  commands := h.commands
  responses := by simpa using hroom
  full := fun hne => absurd (h.waiting_nil hroom) hne
  holders := h.holders

/-- A response waits behind a full queue, its holder holding no other. -/
theorem Management.QueuesFit.wait {m : Management} (h : m.QueuesFit) (hfull : ¬ m.responseQueue.length < Config.responseQueueSize)
    (x : HeldResponse) (hx : x.holder ∉ m.holders) : ({ m with waiting := m.waiting ++ [x] } : Management).QueuesFit where
  address := h.address
  commands := h.commands
  responses := h.responses
  full := fun _ => Nat.le_antisymm h.responses (Nat.not_lt.1 hfull)
  holders := by
    have hnd := h.holders
    unfold Management.holders at hnd hx ⊢
    rw [List.map_append, List.nodup_append]
    refine ⟨hnd, by simp, fun a ha b hb hab => hx ?_⟩
    simp only [List.map_cons, List.map_nil, List.mem_singleton] at hb
    exact (hab.trans hb) ▸ ha

section
variable {m : Management} (ha : m.MayAnswer) (h : m.Kept)
include ha h

theorem Management.MayAnswer.engine_not_mem : Holder.engine ∉ m.holders := by
  rw [((Management.kept_iff m).1 h).2.posting]
  rcases ha.busy with hs | hs <;> simp [hs]

theorem Management.MayAnswer.leave_kept : m.leave.Kept :=
  ((Management.kept_iff m).1 h).1.leave (ha.engine_not_mem h)

/-- An engine that may answer offers a response with everything kept. -/
theorem Management.MayAnswer.offer_kept (r : Frame) : (m.offer r).Kept := by
  obtain ⟨hq, hs⟩ := (Management.kept_iff m).1 h
  have he := ha.engine_not_mem h
  by_cases hroom : m.responseQueue.length < Config.responseQueueSize
  · rw [Management.offer_placed r hroom]
    exact (hq.push hroom r).leave he
  · rw [Management.offer_held r hroom, Management.kept_iff]
    obtain ⟨hqa, hqc, hqr, hqf, hqn⟩ := hq.wait hroom ⟨.engine, r⟩ he
    have hcur : m.current ≠ none := by
      rw [ne_eq, ← hs.current]
      rcases ha.busy with hb | hb <;> simp [hb]
    exact ⟨⟨hqa, hqc, hqr, hqf, hqn⟩, ⟨by simp [hcur], by simp, by simp [Management.holders], by simp [ha.readBack]⟩⟩

end

/-- The cache and the parameters are no part of what the engine keeps. -/
theorem Management.store_eq (m : Management) (r : Frame) : ∃ c, m.store r = { m with cache := c } := by
  unfold Management.store
  split
  · exact ⟨_, rfl⟩
  · exact ⟨m.cache, rfl⟩

@[simp] theorem Management.leave_holders (m : Management) : m.leave.holders = m.holders := by
  obtain ⟨-, -, -, hw, -, -⟩ := m.leave_frame
  rw [Management.holders, hw, Management.holders]

/-- The engine's offer leaves the loader's held response as it was. -/
theorem Management.loader_mem_offer (m : Management) (r : Frame) : Holder.loader ∈ (m.offer r).holders ↔ Holder.loader ∈ m.holders := by
  unfold Management.offer
  split
  · rw [Management.leave_holders]
    rfl
  · simp [Management.holders]

theorem Management.MayAnswer.respond_kept {m : Management} (ha : m.MayAnswer) (h : m.Kept) (f : Frame) (st : Status) (p : List Byte) :
    (m.respond f st p).Kept ∧ (Holder.loader ∈ (m.respond f st p).holders ↔ Holder.loader ∈ m.holders) := by
  unfold Management.respond
  obtain ⟨c, hc⟩ := m.store_eq (responseFrame m.address f.seq f.aux st p)
  dsimp only
  rw [hc]
  have hk : ({ m with cache := c } : Management).Kept := h
  have ha' : ({ m with cache := c } : Management).MayAnswer := ⟨ha.busy, ha.readBack⟩
  exact ⟨ha'.offer_kept hk _, Management.loader_mem_offer _ _⟩

/-- A frame joins a command queue that has a place. -/
theorem Management.Kept.join {m : Management} (h : m.Kept) (f : Frame) (hroom : ¬ m.commandFull = true) :
    (m.join f).Kept ∧ (m.join f).holders = m.holders := by
  rw [Management.commandFull_iff, Nat.not_le] at hroom
  obtain ⟨hq, hs⟩ := (Management.kept_iff m).1 h
  by_cases hi : m.state = .idle
  · have he : Holder.engine ∉ m.holders := by simp [hs.posting, hi]
    rw [Management.join_idle f hi (hs.idle hi)]
    refine ⟨(Management.kept_iff _).2 ⟨{ hq with },
      ⟨by simp, by simp, iff_of_false he (by simp), by simp⟩⟩, rfl⟩
  · rw [Management.join_busy f hi]
    exact ⟨(Management.kept_iff _).2 ⟨⟨hq.address, by rw [List.length_append]; exact hroom, hq.responses, hq.full, hq.holders⟩,
      ⟨hs.current, fun h => absurd h hi, hs.posting, hs.readBack⟩⟩, rfl⟩

/-! ### The part: what agrees in ports, slots, queues and engine is kept together -/

/-- Two states agree in all that `State.QueuesKept` speaks of. -/
structure State.SameQueues (s t : State) : Prop where
  uPort : t.uPort = s.uPort
  dPort : t.dPort = s.dPort
  conditioner : t.conditioner = s.conditioner
  merger : t.merger = s.merger
  mgmt : t.mgmt = s.mgmt
  loaderState : t.loader.state = s.loader.state
  loaderWrite : t.loader.write = s.loader.write

section
variable (s : State)

@[simp] theorem State.renewLease_loaderState : s.renewLease.loader.state = s.loader.state := rfl
@[simp] theorem State.renewLease_loaderWrite : s.renewLease.loader.write = s.loader.write := rfl
@[simp] theorem State.openLease_loaderState (owner : Byte) : (s.openLease owner).loader.state = s.loader.state := rfl
@[simp] theorem State.openLease_loaderWrite (owner : Byte) : (s.openLease owner).loader.write = s.loader.write := rfl
@[simp] theorem State.endLease_loaderState : s.endLease.loader.state = s.loader.state := rfl
@[simp] theorem State.endLease_loaderWrite : s.endLease.loader.write = s.loader.write := rfl

end

theorem State.LoaderKept.congr {s t : State} (h : s.LoaderKept) (hm : Holder.loader ∈ t.mgmt.holders ↔ Holder.loader ∈ s.mgmt.holders)
    (hs : t.loader.state = s.loader.state) (hw : t.loader.write = s.loader.write) : t.LoaderKept := by
  unfold State.LoaderKept
  rw [hm, hs, hw]
  exact h

theorem State.QueuesKept.same {s t : State} (h : s.QueuesKept) (e : s.SameQueues t) : t.QueuesKept := by
  obtain ⟨hu, hd, hc, hm, he, hl⟩ := h
  exact ⟨e.uPort ▸ hu, e.dPort ▸ hd, e.conditioner ▸ hc, e.merger ▸ hm, e.mgmt ▸ he, hl.congr (by rw [e.mgmt]) e.loaderState e.loaderWrite⟩

section
variable {s : State} (h : s.QueuesKept)
include h

theorem State.QueuesKept.engine : s.mgmt.Kept := h.2.2.2.2.1

theorem State.QueuesKept.withMgmt {m : Management} (hm : m.Kept) (hl : Holder.loader ∈ m.holders ↔ Holder.loader ∈ s.mgmt.holders) :
    ({ s with mgmt := m } : State).QueuesKept := by
  obtain ⟨hu, hd, hc, hg, -, hk⟩ := h
  exact ⟨hu, hd, hc, hg, hm, hk.congr hl rfl rfl⟩

theorem State.QueuesKept.withConditioner {c : Conditioner} (hc : c.Fed) : ({ s with conditioner := c } : State).QueuesKept := by
  obtain ⟨hu, hd, -, hg, hm, hk⟩ := h
  exact ⟨hu, hd, hc, hg, hm, hk⟩

theorem State.QueuesKept.withMerger {x : Merger} (hx : x.Kept) : ({ s with merger := x } : State).QueuesKept := by
  obtain ⟨hu, hd, hc, -, hm, hk⟩ := h
  exact ⟨hu, hd, hc, hx, hm, hk⟩

theorem State.QueuesKept.fed : s.conditioner.Fed := h.2.2.1

theorem State.QueuesKept.merged : s.merger.Kept := h.2.2.2.1

end

/-! ### Answers -/

/-- The part is kept and its engine may answer the command it has. -/
structure State.MayAnswer (s : State) : Prop where
  kept : s.QueuesKept
  engine : s.mgmt.MayAnswer

namespace State.MayAnswer
variable {s t : State}

theorem same (h : s.MayAnswer) (e : s.SameQueues t) : t.MayAnswer := ⟨h.kept.same e, e.mgmt ▸ h.engine⟩

theorem respond_kept (h : s.MayAnswer) (f : Frame) (st : Status) (p : List Byte) : (s.respond f st p).QueuesKept := by
  obtain ⟨hm, hl⟩ := h.engine.respond_kept h.kept.engine f st p
  exact h.kept.withMgmt hm hl

theorem offer_kept (h : s.MayAnswer) (r : Frame) : ({ s with mgmt := s.mgmt.offer r } : State).QueuesKept :=
  h.kept.withMgmt (h.engine.offer_kept h.kept.engine r) (Management.loader_mem_offer _ _)

theorem leave_kept (h : s.MayAnswer) : s.leave.QueuesKept :=
  h.kept.withMgmt (h.engine.leave_kept h.kept.engine) (by rw [Management.leave_holders])

theorem begun (h : s.MayAnswer) (f : Frame) : (s.begun f).MayAnswer :=
  ⟨h.kept.withMgmt h.kept.engine Iff.rfl, ⟨h.engine.busy, h.engine.readBack⟩⟩

/-- A command in hand may wait for its context's fence (02 R36). -/
theorem fence_kept (h : s.MayAnswer) (k : ContextId) : (s.fence k).QueuesKept := by
  have hk : (s.setFence k true).QueuesKept := h.kept.same (by constructor <;> simp)
  obtain ⟨hq, hs⟩ := (Management.kept_iff _).1 h.kept.engine
  have he : Holder.engine ∉ s.mgmt.holders := h.engine.engine_not_mem h.kept.engine
  have hne : s.mgmt.state ≠ .idle := by rcases h.engine.busy with hb | hb <;> simp [hb]
  refine hk.withMgmt ((Management.kept_iff _).2 ⟨{ hq with }, ⟨?_, ?_, ?_, ?_⟩⟩) Iff.rfl
  · exact iff_of_false (by simp) (hs.current.not.1 hne)
  · simp
  · exact iff_of_false he (by simp)
  · simp [h.engine.readBack]

/-- A command in hand may begin a read-back (03 R57, 05 R105). -/
theorem startReadBack_kept (h : s.MayAnswer) (he : s.mgmt.state = .executing) (r : ReadBack) : (s.startReadBack r).QueuesKept := by
  obtain ⟨hq, hs⟩ := (Management.kept_iff _).1 h.kept.engine
  exact h.kept.withMgmt ((Management.kept_iff _).2 ⟨{ hq with },
    ⟨hs.current, hs.idle, hs.posting, fun _ => he⟩⟩) Iff.rfl

end State.MayAnswer

/-- The engine of a command in hand may answer it. -/
theorem State.QueuesKept.mayAnswer_of_inHand {s : State} (h : s.QueuesKept) {f : Frame} (hf : s.mgmt.inHand = some f) :
    s.MayAnswer ∧ s.mgmt.state = .executing := by
  unfold Management.inHand at hf
  split at hf
  next hc => exact ⟨⟨h, ⟨.inl hc.1, hc.2⟩⟩, hc.1⟩
  next => cases hf

/-- An engine whose read-back is taken from it may answer the command the read-back served. -/
theorem State.QueuesKept.mayAnswer_of_readBack {s : State} (h : s.QueuesKept) (hr : s.mgmt.readBack.isSome) :
    ({ s with mgmt := { s.mgmt with readBack := none } } : State).MayAnswer := by
  obtain ⟨hq, hs⟩ := (Management.kept_iff _).1 h.engine
  exact ⟨h.withMgmt ((Management.kept_iff _).2 ⟨{ hq with },
    ⟨hs.current, hs.idle, hs.posting, by simp⟩⟩) Iff.rfl, ⟨.inl (hs.readBack hr), rfl⟩⟩

/-- The engine of a command that waits for its fence may answer it. -/
theorem State.QueuesKept.mayAnswer_of_fenceWait {s : State} (h : s.QueuesKept) (hw : s.mgmt.state = .fenceWait) : s.MayAnswer := by
  refine ⟨h, ⟨.inr hw, ?_⟩⟩
  cases hr : s.mgmt.readBack with
  | none => rfl
  | some r =>
    have he := ((Management.kept_iff _).1 h.engine).2.readBack (by simp [hr])
    rw [hw] at he
    cases he

end Sys2Proof.Machine
end

section
/-! The command rows keep the queues: what each command's body does before it answers touches no queue, or one whose rule is proved here. -/

namespace Sys2Proof.Machine

/-! ### Outcomes -/

/-- Where the outcome is a next state, its ports, queues and engine are as their rules have them. -/
def NextKept (o : Host.Outcome State Fault Refusal) : Prop := ∀ t, o = .next t → t.QueuesKept

theorem nextKept_next {t : State} (h : t.QueuesKept) : NextKept (.next t) := by
  rintro _ ⟨⟩
  exact h

theorem nextKept_ite {c : Prop} [Decidable c] {a b : State} (ha : c → a.QueuesKept) (hb : ¬ c → b.QueuesKept) :
    NextKept (if c then .next a else .next b) := by
  split
  next hc => exact nextKept_next (ha hc)
  next hc => exact nextKept_next (hb hc)

/-! ### The common path of a command -/

/-- A command row keeps the queues when its body does, on a part whose engine holds the command and may answer it. -/
theorem State.QueuesKept.command {s : State} (h : s.QueuesKept) (accepts : Frame → Bool) (ok : List Byte → Bool)
    {body : Frame → State → State} (hbody : ∀ f t, t.MayAnswer → t.mgmt.state = .executing → (body f t).QueuesKept) :
    NextKept (s.command accepts ok body) := by
  unfold State.command
  split
  next f hf =>
    obtain ⟨ha, he⟩ := h.mayAnswer_of_inHand hf
    have hnew : ((s.begun f).lengthCheck f ok (body f)).QueuesKept := by
      unfold State.lengthCheck
      split
      · exact hbody f _ (ha.begun f) he
      · exact (ha.begun f).respond_kept f _ _
    refine nextKept_ite (fun _ => ?_) fun _ => h
    unfold State.cacheCheck
    split
    · split
      · exact (ha.same (t := s.countNode _) (by constructor <;> simp)).offer_kept _
      · exact hnew
    · split
      · exact (ha.same (t := s.countNode _) (by constructor <;> simp)).leave_kept
      · exact hnew
    · exact hnew
  next => exact nextKept_next h

/-- The lease checks end in an answer, or go on with the lease timer restarted or as it was. -/
theorem State.MayAnswer.leaseCheck_kept {s : State} (h : s.MayAnswer) (f : Frame) (renews : Bool) {go : State → State}
    (hgo : ∀ t, t.MayAnswer → t.mgmt.state = s.mgmt.state → (go t).QueuesKept) : (s.leaseCheck f renews go).QueuesKept := by
  obtain ⟨st, p, e⟩ | e | e := s.leaseCheck_cases f renews go
  · exact e ▸ h.respond_kept f st p
  · exact e ▸ hgo _ (h.same (by constructor <;> simp)) (by simp)
  · exact e ▸ hgo _ h rfl

/-- A broadcast copy's row keeps the queues when its body does. -/
theorem State.QueuesKept.broadcastCopy {s : State} (h : s.QueuesKept) (code : Byte) {body : Frame → State → State}
    (hbody : ∀ f, s.MayAnswer → (body f s).QueuesKept) : NextKept (s.broadcastCopy code body) := by
  unfold State.broadcastCopy
  split
  next f hf =>
    obtain ⟨ha, -⟩ := h.mayAnswer_of_inHand hf
    refine nextKept_ite (fun _ => ?_) fun _ => h
    split
    · exact hbody f ha
    · exact (ha.same (t := s.countNode _) (by constructor <;> simp)).leave_kept
  next => exact nextKept_next h

/-! ### The bodies -/

namespace State.MayAnswer
variable {s : State} (h : s.MayAnswer) (f : Frame)
include h

/-- A broadcast copy that applies or cancels nothing is counted and left. -/
theorem applyMiss_kept : s.applyMiss.QueuesKept := (h.same (t := s.countNode _) (by constructor <;> simp)).leave_kept

theorem getStatusBody_kept : (getStatusBody f s).QueuesKept := by
  unfold getStatusBody
  split
  · split
    · split
      · exact (h.same (by constructor <;> simp)).respond_kept ..
      · exact h.respond_kept ..
    · exact h.respond_kept ..
  · exact h.respond_kept ..

/-- A fenced command is carried out, or waits for its context (02 R36). -/
theorem finishFenced_kept : (s.finishFenced f).QueuesKept := by
  unfold State.finishFenced
  split
  · split
    · split
      · exact (h.same (t := s.applyMap ..) (by constructor <;> simp)).respond_kept ..
      · exact h.kept
    · exact h.kept
  · split
    · exact (h.same (t := s.applySettings _) (by constructor <;> simp)).respond_kept ..
    · exact h.kept

theorem fenceOrFinish_kept : (mapChannelBody.fenceOrFinish f s).QueuesKept := by
  unfold mapChannelBody.fenceOrFinish
  split
  · split
    · exact h.finishFenced_kept f
    · exact h.fence_kept _
  · exact h.finishFenced_kept f

theorem mapChannelBody_kept : (mapChannelBody f s).QueuesKept := by
  unfold mapChannelBody
  split
  · split
    · exact h.respond_kept ..
    · dsimp only
      split
      · exact h.respond_kept ..
      · split
        · split
          · exact h.respond_kept ..
          · exact h.fenceOrFinish_kept f
        · exact h.fenceOrFinish_kept f
  · exact h.respond_kept ..

theorem setChannelBody_kept : (setChannelBody f s).QueuesKept := by
  unfold setChannelBody
  split
  · exact h.respond_kept ..
  · dsimp only
    split
    · exact h.respond_kept ..
    · split
      · exact h.respond_kept ..
      · split
        · exact (h.same (t := s.applySettings _) (by constructor <;> simp)).respond_kept ..
        · exact h.fence_kept _

theorem getChannelBody_kept : (getChannelBody f s).QueuesKept := by
  unfold getChannelBody
  split <;> exact h.respond_kept ..

theorem openLeaseBody_kept : (openLeaseBody f s).QueuesKept := by
  unfold openLeaseBody
  split
  · split
    · exact h.respond_kept ..
    · exact (h.same (t := s.openLease _) (by constructor <;> simp)).respond_kept ..
  · split
    · exact (h.same (t := s.renewLease) (by constructor <;> simp)).respond_kept ..
    · exact h.respond_kept ..

theorem closeLeaseChecked_kept : (closeLeaseChecked f s).QueuesKept := by
  unfold closeLeaseChecked
  split
  · exact h.respond_kept ..
  · exact (h.same (t := s.endLease) (by constructor <;> simp)).respond_kept ..

theorem stageKnotsChecked_kept : (stageKnotsChecked f s).QueuesKept := by
  unfold stageKnotsChecked
  split
  · split
    · exact h.respond_kept ..
    · split
      · exact h.respond_kept ..
      · exact (h.same (by constructor <;> simp)).respond_kept ..
  · exact h.respond_kept ..

theorem clearStagingChecked_kept : (clearStagingChecked f s).QueuesKept := by
  unfold clearStagingChecked
  split
  · exact h.respond_kept ..
  · exact (h.same (by constructor <;> simp)).respond_kept ..

theorem readStagingChecked_kept : (readStagingChecked f s).QueuesKept := by
  unfold readStagingChecked
  split
  · dsimp only
    split <;> exact h.respond_kept ..
  · exact h.respond_kept ..

/-- A page write starts at an IDLE loader, which holds no response and has a record from here on. -/
theorem startWrite_kept (hi : s.loader.state = .idle) (p : PageId) : (s.startWrite f p).QueuesKept := by
  obtain ⟨hu, hd, hc, hm, he, hpost, -⟩ := h.kept
  have hn : Holder.loader ∉ s.mgmt.holders := by simp [hpost, hi]
  refine ⟨hu, hd, hc, hm, h.engine.leave_kept he, iff_of_false ?_ (by simp [State.startWrite, State.leave]), by simp [State.startWrite, State.leave]⟩
  simpa [State.startWrite, State.leave] using hn

theorem writePageChecked_kept : (writePageChecked f s).QueuesKept := by
  unfold writePageChecked
  split
  · exact h.respond_kept ..
  next hi =>
    split
    · exact h.respond_kept ..
    · split
      · exact h.startWrite_kept f (not_not.1 hi) _
      · split <;> exact h.respond_kept ..

theorem defineCurveChecked_kept (he : s.mgmt.state = .executing) : (defineCurveChecked f s).QueuesKept := by
  unfold defineCurveChecked
  split
  · exact h.respond_kept ..
  · exact h.startReadBack_kept he _

theorem getCurveBody_kept : (getCurveBody f s).QueuesKept := by
  unfold getCurveBody
  split <;> exact h.respond_kept ..

theorem readKnotsBody_kept (he : s.mgmt.state = .executing) : (readKnotsBody f s).QueuesKept := by
  unfold readKnotsBody
  split
  · split
    · exact h.respond_kept ..
    · split
      · exact h.respond_kept ..
      · dsimp only
        split
        · exact h.respond_kept ..
        · split
          · exact h.respond_kept ..
          · exact h.startReadBack_kept he _
  · exact h.respond_kept ..

theorem deleteCurveBody_kept : (deleteCurveBody f s).QueuesKept := by
  unfold deleteCurveBody
  split
  · exact h.respond_kept ..
  · dsimp only
    split
    · exact h.respond_kept ..
    · exact h.respond_kept ..
    · exact h.respond_kept ..
    · split
      · exact h.respond_kept ..
      · exact (h.same (t := s.deleteCurve _) (by constructor <;> simp)).respond_kept ..

theorem bindChannelsBody_kept : (bindChannelsBody f s).QueuesKept := by
  unfold bindChannelsBody
  split
  · exact h.respond_kept ..
  · dsimp only
    split
    · exact h.respond_kept ..
    · exact (h.same (t := s.bindNow _) (by constructor <;> simp)).respond_kept ..

theorem prepareBindBody_kept : (prepareBindBody f s).QueuesKept := by
  unfold prepareBindBody
  split
  · split
    · exact h.respond_kept ..
    · split
      · exact h.respond_kept ..
      · split
        · exact h.respond_kept ..
        · exact (h.same (by constructor <;> simp)).respond_kept ..
  · exact h.respond_kept ..

theorem applyBindBody_kept : (applyBindBody f s).QueuesKept := by
  unfold applyBindBody
  split
  · exact h.respond_kept ..
  · split
    · exact (h.same (t := s.applyPending _) (by constructor <;> simp)).respond_kept ..
    · exact h.respond_kept ..

theorem cancelBindBody_kept : (cancelBindBody f s).QueuesKept := by
  unfold cancelBindBody
  split
  · exact h.respond_kept ..
  · split
    · exact (h.same (t := s.cancelPending _) (by constructor <;> simp)).respond_kept ..
    · exact h.respond_kept ..

theorem applyBindBroadcastBody_kept : (applyBindBroadcastBody f s).QueuesKept := by
  unfold applyBindBroadcastBody
  split
  · split
    · exact (h.same (t := s.applyPending _) (by constructor <;> simp)).leave_kept
    · exact h.applyMiss_kept
  · exact h.applyMiss_kept

theorem cancelBindBroadcastBody_kept : (cancelBindBroadcastBody f s).QueuesKept := by
  unfold cancelBindBroadcastBody
  split
  · split
    · exact (h.same (t := s.cancelPending _) (by constructor <;> simp)).leave_kept
    · exact h.applyMiss_kept
  · exact h.applyMiss_kept

theorem ackNoticesBody_kept : (ackNoticesBody f s).QueuesKept := by
  unfold ackNoticesBody
  split
  · split
    · exact h.respond_kept ..
    · exact (h.same (by constructor <;> simp)).respond_kept ..
  · exact h.respond_kept ..

theorem readCountersBody_kept : (readCountersBody f s).QueuesKept := by
  unfold readCountersBody
  split
  · split
    · exact h.respond_kept ..
    · split
      · exact h.respond_kept ..
      · exact (h.same (t := s.clearScope ..) (by constructor <;> simp)).respond_kept ..
  · exact h.respond_kept ..

end State.MayAnswer

end Sys2Proof.Machine
end

section
/-! The links, the classifiers and the node commands keep the queues. -/

namespace Sys2Proof.Machine

/-! ### Ports -/

namespace LinkPort.Kept
variable {x : LinkPort} {size : Nat}

/-- A head frame taken out of the buffer. -/
theorem tail (h : x.Kept size) {f : Frame} {rest : List Frame} (hb : x.buffer = f :: rest) : ({ x with buffer := rest } : LinkPort).Kept size := by
  obtain ⟨hlen, hdown, hform⟩ := h
  rw [hb] at hlen hform
  refine ⟨(Nat.le_succ _).trans hlen, fun hl => ?_, fun g hg => hform g (List.mem_cons_of_mem _ hg)⟩
  rw [hb] at hdown
  cases (hdown hl).1

/-- The head frame keeps its kind's length rule. -/
theorem head (h : x.Kept size) {f : Frame} {rest : List Frame} (hb : x.buffer = f :: rest) :
    kindLengthOk f.kind f.aux f.payload.length = true := h.2.2 f (by simp [hb])

/-- A checked frame joins a buffer with room, the port being UP. -/
theorem push (h : x.Kept size) (hup : x.link = .up) (hroom : x.buffer.length < size) {f : Frame}
    (hf : kindLengthOk f.kind f.aux f.payload.length = true) : ({ x with buffer := x.buffer ++ [f] } : LinkPort).Kept size := by
  refine ⟨by simpa using hroom, fun hl => absurd hup hl, fun g hg => ?_⟩
  rcases List.mem_append.1 hg with hg | hg
  · exact h.2.2 g hg
  · obtain rfl := List.mem_singleton.1 hg
    exact hf

/-- A port that is not UP is empty and may go to any state. -/
theorem relink (h : x.Kept size) (hl : x.link ≠ .up) (l : LinkState) : ({ x with link := l } : LinkPort).Kept size :=
  ⟨h.1, fun _ => h.2.1 hl, h.2.2⟩

theorem sent (h : x.Kept size) : ({ x with tx := .idle } : LinkPort).Kept size :=
  ⟨h.1, fun hl => ⟨(h.2.1 hl).1, rfl⟩, h.2.2⟩

/-- A port in UP takes a frame to send. -/
theorem send (h : x.Kept size) (hup : x.link = .up) (run : List Byte) : ({ x with tx := .sending run } : LinkPort).Kept size :=
  ⟨h.1, fun hl => absurd hup hl, h.2.2⟩

theorem resetNode (h : x.Kept size) : x.resetNode.Kept size :=
  ⟨Nat.zero_le _, fun hl => ⟨rfl, (h.2.1 hl).2⟩, by simp [LinkPort.resetNode]⟩

end LinkPort.Kept

/-- An empty port that is DOWN is as its rules have it. -/
theorem LinkPort.reset_kept (size : Nat) : LinkPort.reset.Kept size :=
  ⟨Nat.zero_le _, fun _ => ⟨rfl, rfl⟩, by simp [LinkPort.reset]⟩

section
variable {s : State} (h : s.QueuesKept)
include h

theorem State.QueuesKept.port (p : Port) : (s.port p).Kept (bufferSize p) := by
  obtain ⟨hu, hd, -⟩ := h
  cases p
  · exact hu
  · exact hd

theorem State.QueuesKept.setPort (p : Port) {x : LinkPort} (hx : x.Kept (bufferSize p)) : (s.setPort p x).QueuesKept := by
  obtain ⟨hu, hd, hrest⟩ := h
  cases p
  · exact ⟨hx, hd, hrest⟩
  · exact ⟨hu, hx, hrest⟩

theorem State.QueuesKept.frameArrival (p : Port) (run : List Byte) : NextKept (execFrameArrival p run s) := by
  refine nextKept_ite (fun hup => ?_) fun _ => h
  unfold State.arrive
  split
  · exact h.same (by constructor <;> simp)
  next f hf =>
    obtain ⟨-, -, hk⟩ := wire_of_receive hf
    split
    · unfold State.joinBuffer
      dsimp only
      split
      next hroom => exact h.setPort p ((h.port p).push hup hroom hk)
      next => exact h.same (by constructor <;> simp)
    · exact h.same (by constructor <;> simp)

theorem State.QueuesKept.carrierDetect (p : Port) : NextKept (execCarrierDetect p s) :=
  nextKept_ite (fun hl => h.setPort p ((h.port p).relink (by simp [hl]) _)) fun _ => h

theorem State.QueuesKept.alignmentAchieved (p : Port) : NextKept (execAlignmentAchieved p s) :=
  nextKept_ite (fun hl => (h.setPort p ((h.port p).relink (by simp [hl]) .up)).same (by constructor <;> simp)) fun _ => h

theorem State.QueuesKept.carrierLoss (p : Port) : NextKept (execCarrierLoss p s) := by
  unfold execCarrierLoss
  split
  · rw [s.leaveUp_eq]
    exact nextKept_next ((h.setPort p (x := ⟨.down, [], .idle⟩) (LinkPort.reset_kept _)).same (by constructor <;> simp))
  next hl => exact nextKept_next (h.setPort p ((h.port p).relink (by simp [hl]) _))
  · exact nextKept_next h

theorem State.QueuesKept.frameSent (p : Port) : NextKept (execFrameSent p s) :=
  nextKept_next (h.setPort p (h.port p).sent)

/-! ### The data classifier -/

/-- The data classifier or the lookup takes the head frame. -/
theorem State.QueuesKept.takeUHead {f : Frame} {rest : List Frame} (hb : s.uPort.buffer = f :: rest) :
    ({ s with uPort := { s.uPort with buffer := rest } } : State).QueuesKept := by
  obtain ⟨hu, hrest⟩ := h
  exact ⟨hu.tail hb, hrest⟩

/-- The command classifier takes the head frame. -/
theorem State.QueuesKept.takeDHead {f : Frame} {rest : List Frame} (hb : s.dPort.buffer = f :: rest) :
    ({ s with dPort := { s.dPort with buffer := rest } } : State).QueuesKept := by
  obtain ⟨hu, hd, hrest⟩ := h
  exact ⟨hu, hd.tail hb, hrest⟩

/-- A frame joins a forward queue with room. -/
theorem State.QueuesKept.pushForward (hroom : s.merger.fq.length < 8) (f : Frame) :
    ({ s with merger := { s.merger with fq := s.merger.fq ++ [f] } } : State).QueuesKept := by
  obtain ⟨hcq, -, huq⟩ := h.merged
  exact h.withMerger ⟨hcq, by rw [List.length_append]; exact hroom, huq⟩

theorem State.QueuesKept.joinUp (hroom : s.merger.uq.length < 4) (f : Frame) : (s.joinUp f).QueuesKept := by
  obtain ⟨hcq, hfq, -⟩ := h.merged
  exact h.withMerger ⟨hcq, hfq, by rw [List.length_append]; exact hroom⟩

theorem State.QueuesKept.classifyData : s.classifyData.QueuesKept := by
  cases hb : s.uPort.buffer with
  | nil => simpa only [State.classifyData, hb] using h
  | cons f rest =>
    have htaken : (({ s with uPort := { s.uPort with buffer := rest } } : State).countDecision (s.decide f)).QueuesKept :=
      (h.takeUHead hb).same (by constructor <;> simp)
    cases hd : s.decide f with
    | passOther | passUnmapped | passContext =>
      rw [State.classifyData_passes hb hd rfl, ← hd]
      dsimp only
      split
      next hroom => exact htaken.pushForward (by simpa using hroom) f
      next => exact h
    | dropUnmapped => exact State.classifyData_drops hb hd (.inl rfl) ▸ hd ▸ htaken
    | dropOff k => exact State.classifyData_drops hb hd (.inr ⟨k, rfl⟩) ▸ hd ▸ htaken
    | fenced => rwa [State.classifyData_waits hb hd (.inl rfl)]
    | offered => rwa [State.classifyData_waits hb hd (.inr rfl)]

/-! ### The command classifier -/

/-- A command joins the queue, or finds it full and is dropped. -/
theorem State.QueuesKept.joinCommand (f : Frame) (hroom : ¬ s.mgmt.commandFull = true) :
    ({ s with mgmt := s.mgmt.join f } : State).QueuesKept := by
  obtain ⟨hm, hh⟩ := h.engine.join f hroom
  exact h.withMgmt hm (by rw [hh])

theorem State.QueuesKept.arriveCommand (f : Frame) : (s.arriveCommand f).QueuesKept := by
  unfold State.arriveCommand
  split
  · exact h.same (by constructor <;> simp)
  next hroom =>
    split
    · exact h.same (by constructor <;> simp)
    · exact h.joinCommand f hroom

theorem State.QueuesKept.arriveBroadcast (f : Frame) : (s.arriveBroadcast f).QueuesKept := by
  unfold State.arriveBroadcast
  split
  · split
    · exact h.same (by constructor <;> simp)
    next hroom => exact h.joinCommand f hroom
  · exact h.same (by constructor <;> simp)

end

/-- An enumeration leaves an own address of at most 62, also where it is a free value (07 R128, log 11). -/
theorem enumerationOf_own_le (fresh : Nat) (a : Byte) : (enumerationOf fresh a).own.toNat ≤ 62 := by
  unfold enumerationOf
  split_ifs with h0 h62 h63
  · decide
  · exact h62
  · decide
  · have hlt := (Config.enumBeyondOwn fresh a).isLt
    simp only [byteOf, BitVec.toNat_ofNat]
    omega

theorem Management.Kept.setAddress {m : Management} (h : m.Kept) {a : Byte} (ha : a.toNat ≤ 62) : (m.setAddress a).Kept := by
  obtain ⟨-, hrest⟩ := h
  exact ⟨ha, hrest⟩

section
variable {s : State} (h : s.QueuesKept)
include h

theorem State.QueuesKept.enumerate (hroom : s.merger.uq.length < 4) (f : Frame) : (s.enumerate f).QueuesKept := by
  have haddr : ({ s with mgmt := s.mgmt.setAddress (enumerationOf s.fresh f.addr).own } : State).QueuesKept :=
    h.withMgmt (h.engine.setAddress (enumerationOf_own_le ..)) Iff.rfl
  exact (haddr.joinUp hroom { f with addr := (enumerationOf s.fresh f.addr).sent }).same ⟨by simp, by simp, by simp, rfl, rfl, by simp, by simp⟩

theorem State.QueuesKept.classifyCommand : s.classifyCommand.QueuesKept := by
  unfold State.classifyCommand
  split
  · exact h
  next f rest hb =>
    have ht := h.takeDHead hb
    dsimp only
    split
    · exact ht.same (by constructor <;> simp)
    · exact ht.arriveCommand f
    · rw [State.takeUp_eq]
      split
      next hroom => exact (ht.joinUp hroom f).arriveBroadcast f
      next => exact h
    · rw [State.takeUp_eq]
      split
      next hroom => exact ht.joinUp hroom f
      next => exact h
    · obtain e | e := s.takeStray_cases { s with dPort := { s.dPort with buffer := rest } } f
      · exact e ▸ ht.same (by constructor <;> simp)
      · rw [e]
        split
        next hroom => exact (ht.joinUp hroom f).same (by constructor <;> simp)
        next => exact h
    · rw [State.takeUp_eq]
      split
      next hroom => exact ht.enumerate hroom f
      next => exact h

end

/-! ### The node commands -/

/-- A parameter written leaves an engine that may answer. -/
theorem State.MayAnswer.writeParam {s : State} (h : s.MayAnswer) (p : ParamId) (v : Half) : (s.writeParam p v).MayAnswer := by
  have hk : ({ s with mgmt := { s.mgmt with params := s.mgmt.params.set p v } } : State).QueuesKept := h.kept.withMgmt h.kept.engine Iff.rfl
  unfold State.writeParam
  dsimp only
  split
  · exact ⟨hk.classifyData, by simpa using ⟨h.engine.busy, h.engine.readBack⟩⟩
  · exact ⟨hk, ⟨h.engine.busy, h.engine.readBack⟩⟩

theorem State.MayAnswer.setParamBody_kept {s : State} (h : s.MayAnswer) (f : Frame) : (setParamBody f s).QueuesKept := by
  unfold setParamBody
  split
  · split
    · exact h.respond_kept ..
    · dsimp only
      split
      · exact (h.writeParam ..).respond_kept ..
      · exact h.respond_kept ..
  · exact h.respond_kept ..

/-- A new engine at the node's address, with its reset's response in the queue and at most one behind it. -/
theorem Management.Kept.resetNode {m : Management} (h : m.Kept) (q : Params) (f : Frame) (level : Byte) {held : List Frame}
    (hlen : held.length ≤ 1) : (m.resetNode q f level held).Kept := by
  obtain ⟨ha, -⟩ := h
  rw [Management.resetNode_eq]
  refine ⟨ha, Nat.zero_le _, ?_, by simp, by simp, by simp, by simp [Management.holders], by simp [Management.holders], by simp⟩
  simp only [List.length_cons, Config.responseQueueSize]
  omega

/-- The loader holds at most one response. -/
theorem Management.Kept.heldByLoader_length {m : Management} (h : m.Kept) : m.heldByLoader.length ≤ 1 := by
  have hcount : m.heldByLoader.length = m.holders.count .loader := by
    rw [Management.heldByLoader, List.length_map, ← List.countP_eq_length_filter, Management.holders, List.count, List.countP_map]
    rfl
  rw [hcount]
  exact List.nodup_iff_count_le_one.1 ((Management.kept_iff m).1 h).1.holders _

theorem Conditioner.reset_fed : Conditioner.reset.Fed := by
  intro i w hw
  simp [Conditioner.reset] at hw

theorem Merger.reset_kept : Merger.reset.Kept := ⟨Nat.zero_le _, Nat.zero_le _, Nat.zero_le _⟩

section
variable {s : State} (h : s.QueuesKept) (f : Frame)
include h

theorem State.QueuesKept.resetFull : (s.resetFull f).QueuesKept := by
  obtain ⟨hu, hd, -, -, hm, -⟩ := h
  refine ⟨hu.resetNode, hd.resetNode, Conditioner.reset_fed, Merger.reset_kept, hm.resetNode _ _ _ (Nat.zero_le _), ?_⟩
  exact ⟨iff_of_false (by simp [State.resetFull, Management.resetNode_eq, Management.holders]) (by simp [State.resetFull, State.reset, Loader.reset]),
    by simp [State.resetFull, State.reset, Loader.reset]⟩

/-- A response the loader held goes out behind the reset's, and the loader is IDLE; a write in flight goes on (05 R110). -/
theorem State.QueuesKept.resetSoft : (s.resetSoft f).QueuesKept := by
  obtain ⟨hu, hd, -, -, hm, -, hw⟩ := h
  refine ⟨hu.resetNode, hd.resetNode, Conditioner.reset_fed, Merger.reset_kept, hm.resetNode _ _ _ hm.heldByLoader_length, ?_, ?_⟩
  · refine iff_of_false (by simp [State.resetSoft, Management.resetNode_eq, Management.holders]) ?_
    show s.loader.resetSoft.state ≠ .posting
    unfold Loader.resetSoft
    split
    · simp
    next hp => exact hp
  · show s.loader.resetSoft.write = none ↔ s.loader.resetSoft.state = .idle
    unfold Loader.resetSoft
    split
    · simp
    · exact hw

end

theorem State.MayAnswer.resetNodeBody_kept {s : State} (h : s.MayAnswer) (f : Frame) : (resetNodeBody f s).QueuesKept := by
  unfold resetNodeBody
  split
  · exact h.kept.resetSoft f
  · split
    · exact h.kept.resetFull f
    · exact h.respond_kept ..

/-- The release of RESETn leaves every port, queue and slot empty. -/
theorem State.reset_queuesKept : State.reset.QueuesKept := by
  refine ⟨LinkPort.reset_kept _, LinkPort.reset_kept _, Conditioner.reset_fed, Merger.reset_kept, ?_, ?_⟩
  · unfold Management.Kept
    decide
  · unfold State.LoaderKept
    decide

end Sys2Proof.Machine
end

section
/-! The conditioning engine, the access periods, the takings and the timers keep the queues; and so every step does: O55. -/

namespace Sys2Proof.Machine

/-! ### Work slots -/

/-- A slot made FREE, or given to a frame of 1..8 samples, leaves the others as they were. -/
theorem Conditioner.Fed.setSlot {c d : Conditioner} (h : c.Fed) (i : SlotId) (x : Option WorkSlot) (hd : d.slots = vmod c.slots i fun _ => x)
    (hx : ∀ w, x = some w → 1 ≤ w.samples.length ∧ w.samples.length ≤ 8) : d.Fed := by
  intro j w hw
  rw [hd, vmod_getElem] at hw
  split at hw
  · exact hx w hw
  · exact h j w hw

theorem Conditioner.Fed.free {c : Conditioner} (h : c.Fed) (i : SlotId) : (c.free i).Fed := h.setSlot i none rfl (by simp)

theorem halvesOf_length (l : List Byte) : (halvesOf l).length = l.length / 2 := by
  induction l using halvesOf.induct with
  | case1 high low rest ih => simp only [halvesOf, List.length_cons, ih]; omega
  | case2 l hl =>
    match l with
    | [] | [_] => simp [halvesOf]
    | high :: low :: rest => exact absurd rfl (hl high low rest)

/-- A SAMPLE frame that keeps its length rule has 1..8 samples (01 R4). -/
theorem Frame.samples_length {f : Frame} (hk : f.kind = .sample) (hl : kindLengthOk f.kind f.aux f.payload.length = true) :
    1 ≤ f.samples.length ∧ f.samples.length ≤ 8 := by
  simp only [hk, kindLengthOk, Bool.and_eq_true, decide_eq_true_eq, beq_iff_eq] at hl
  rw [Frame.samples, halvesOf_length, List.length_drop]
  omega

theorem State.busySlot_slot {s : State} {u : UnitId} {b : BusyUnit} {w : WorkSlot} (h : s.busySlot u = some (b, w)) :
    s.conditioner.slots[b.slot] = some w := by
  unfold State.busySlot at h
  split at h
  next b' _ =>
    obtain ⟨w', hw, e⟩ := Option.map_eq_some_iff.1 h
    cases e
    exact hw
  next => cases h

/-! ### The conditioning engine's events -/

theorem State.fenceDue_state {s : State} {x : Frame × ContextId} (h : s.fenceDue = some x) : s.mgmt.state = .fenceWait := by
  unfold State.fenceDue at h
  split at h
  next hw => exact hw
  next => cases h

/-- A frame enters a conditioned queue with room. -/
theorem State.QueuesKept.pushCq {s : State} (h : s.QueuesKept) (hroom : s.merger.cq.length < Config.cqSize) (e : CqEntry) :
    ({ s with merger := { s.merger with cq := s.merger.cq ++ [e] } } : State).QueuesKept := by
  obtain ⟨-, hfq, huq⟩ := h.merged
  exact h.withMerger ⟨by rw [List.length_append]; exact hroom, hfq, huq⟩

section
variable {s : State} (h : s.QueuesKept)
include h

theorem State.QueuesKept.settleFence : s.settleFence.QueuesKept := by
  unfold State.settleFence
  split
  next f k hd =>
    have ha := h.mayAnswer_of_fenceWait (State.fenceDue_state hd)
    exact (ha.same (t := s.setFence k false) (by constructor <;> simp)).finishFenced_kept f
  next => exact h

theorem State.QueuesKept.releaseSlot (i : SlotId) : (s.releaseSlot i).QueuesKept := by
  unfold State.releaseSlot
  split
  next w _ =>
    have hfree := h.withConditioner (h.fed.free i)
    have hunpin : (({ s with conditioner := s.conditioner.free i } : State).unpin w.curve).QueuesKept := hfree.same (by constructor <;> simp)
    exact (hunpin.same (by constructor <;> simp)).settleFence
  next => exact h

theorem State.QueuesKept.enterCq : s.enterCq.QueuesKept := by
  unfold State.enterCq
  split
  · split
    next hroom => exact (h.pushCq hroom _).releaseSlot _
    next => exact h
  · exact h

theorem State.QueuesKept.startOne : s.startOne.QueuesKept := by
  obtain e | ⟨u, i, w, -, -, hw, -, e⟩ := s.startOne_cases
  · rwa [e]
  · rw [e, State.startOn, hw]
    exact h.withConditioner (h.fed.setSlot i (some { w with phase := .converting u }) rfl (by rintro _ ⟨⟩; exact h.fed i w hw))

theorem State.QueuesKept.startConversions : s.startConversions.QueuesKept := State.QueuesKept.startOne h.startOne

/-- An admitted frame's samples go into a slot (04 R69). -/
theorem State.QueuesKept.occupy (k : ContextId) (i : SlotId) (curve : CurveId) {f : Frame}
    (hf : 1 ≤ f.samples.length ∧ f.samples.length ≤ 8) : (s.occupy k i curve f).QueuesKept := by
  have hc : (s.occupy k i curve f).conditioner.Fed :=
    h.fed.setSlot i (some ⟨.queued, k, f.addr, curve, f.timestamp, f.samples⟩) rfl (by rintro _ ⟨⟩; exact hf)
  exact (h.withConditioner hc).same ⟨by simp, by simp, rfl, by simp, by simp, by simp, by simp⟩

/-- A converted frame's slot is READY, its samples kept. -/
theorem State.QueuesKept.makeReady (i : SlotId) {w : WorkSlot} (outputs : List Output) (hw : 1 ≤ w.samples.length ∧ w.samples.length ≤ 8) :
    (s.makeReady i w outputs).QueuesKept := by
  have hc : (s.makeReady i w outputs).conditioner.Fed :=
    h.fed.setSlot i (some { w with phase := .ready outputs (s.context w.context).outSeq }) rfl (by rintro _ ⟨⟩; exact hw)
  exact (h.withConditioner hc).same ⟨by simp, by simp, rfl, by simp, by simp, by simp, by simp⟩

theorem State.QueuesKept.settleSlot (i : SlotId) {w : WorkSlot} (outputs : List Output) (hw : 1 ≤ w.samples.length ∧ w.samples.length ≤ 8) :
    (s.settleSlot i w outputs).QueuesKept := by
  unfold State.settleSlot
  split
  · exact h.releaseSlot i
  · have hready := h.makeReady i outputs hw
    dsimp only
    split
    · exact hready.enterCq
    · exact hready

theorem State.QueuesKept.endConversion (u : UnitId) : (s.endConversion u).QueuesKept := by
  unfold State.endConversion
  split
  · split
    next b w hb =>
      have hcommit : (s.commit w b.work).QueuesKept := h.same (by constructor <;> simp)
      have hidle : ((s.commit w b.work).idleUnit u).QueuesKept := hcommit.withConditioner hcommit.fed
      exact (hidle.settleSlot b.slot b.work.outputs (h.fed _ _ (State.busySlot_slot hb))).startConversions
    next => exact h
  · exact h

theorem State.QueuesKept.lookup : NextKept (execLookup s) := by
  unfold execLookup
  split
  next f rest k i hr =>
    unfold State.lookupReady at hr
    split at hr
    next f' rest' hb =>
      split at hr
      next k' i' hk _ =>
        cases hr
        have hsample : f.kind = .sample := by
          unfold State.conditioned at hk
          split at hk
          next hs => exact hs
          next => cases hk
        have ht := h.takeUHead hb
        dsimp only
        split
        · exact nextKept_next (ht.same (by constructor <;> simp))
        · split
          · refine nextKept_next (State.QueuesKept.startConversions (State.QueuesKept.occupy ?_ _ _ _ (f.samples_length hsample (h.1.head hb))))
            exact ht.same (by constructor <;> simp)
          · rintro _ ⟨⟩
      next => cases hr
    next => cases hr
  next => exact nextKept_next h

/-! ### What ends in an access period, and its grant -/

theorem State.QueuesKept.endReadBack (hr : s.mgmt.readBack.isSome) (st : Status) (p : List Byte) : (s.endReadBack st p).QueuesKept := by
  unfold State.endReadBack
  split
  next f _ => exact (h.mayAnswer_of_readBack hr).respond_kept f st p
  next => exact h

theorem State.QueuesKept.finishReadBack : s.finishReadBack.QueuesKept := by
  unfold State.finishReadBack
  split
  next r hr =>
    have hsome : s.mgmt.readBack.isSome := by simp [hr]
    split
    · split
      · exact h.endReadBack hsome ..
      · exact h.endReadBack hsome ..
      · have hdef : ({ s with store := s.store.define r.curve r.pages r.knots } : State).QueuesKept := h.same (by constructor <;> simp)
        exact hdef.endReadBack hsome ..
    · exact h
  next => exact h

/-- A loader that is WRITING offers its response: it is IDLE, or POSTING with the one response it holds (05 R101, R103). -/
theorem State.QueuesKept.offerLoader (hw : s.loader.state = .writing) (r : Frame) : (s.offerLoader r).QueuesKept := by
  obtain ⟨hu, hd, hc, hg, hm, hpost, hrec⟩ := h
  obtain ⟨hq, hs⟩ := (Management.kept_iff _).1 hm
  have hl : Holder.loader ∉ s.mgmt.holders := by simp [hpost, hw]
  have hne : s.loader.write ≠ none := by simp [hrec, hw]
  unfold State.offerLoader
  split
  next hroom =>
    exact ⟨hu, hd, hc, hg, (Management.kept_iff _).2 ⟨hq.push hroom r, { hs with }⟩, iff_of_false hl (by simp), by simp⟩
  next hfull =>
    refine ⟨hu, hd, hc, hg, (Management.kept_iff _).2 ⟨hq.wait hfull ⟨.loader, r⟩ hl, { hs with posting := ?_ }⟩,
      iff_of_true (by simp [Management.holders]) rfl, iff_of_false hne (by simp)⟩
    rw [← hs.posting]
    simp [Management.holders]

theorem State.QueuesKept.answerWrite (hw : s.loader.state = .writing) (r : WriteRecord) (st : Status) : (s.answerWrite r st).QueuesKept := by
  unfold State.answerWrite
  obtain ⟨c, hc⟩ := s.mgmt.store_eq (responseFrame s.mgmt.address r.tag r.manager st [byteOf r.page.val, flagByte r.saturated])
  dsimp only
  rw [hc]
  have hk : ({ s with mgmt := { s.mgmt with cache := c } } : State).QueuesKept := h.withMgmt h.engine Iff.rfl
  exact hk.offerLoader hw _

theorem State.QueuesKept.completeOpen (hw : s.loader.state = .writing) (r : WriteRecord) : (s.completeOpen r).QueuesKept := by
  unfold State.completeOpen
  refine State.QueuesKept.answerWrite ?_ ?_ r .ok
  · exact h.same (by constructor <;> simp)
  · exact hw

theorem State.QueuesKept.completeLost (hw : s.loader.state = .writing) (r : WriteRecord) : (s.completeLost r).QueuesKept := by
  unfold State.completeLost
  refine State.QueuesKept.answerWrite ?_ ?_ r .leaseLost
  · exact h.same (by constructor <;> simp)
  · exact hw

theorem State.QueuesKept.completeWrite : s.completeWrite.QueuesKept := by
  unfold State.completeWrite
  split
  next hdone =>
    have hw : s.loader.state = .writing := by
      simp only [State.pageWriteDone, Bool.and_eq_true, beq_iff_eq] at hdone
      exact hdone.1
    split
    next r _ =>
      split
      · exact h.completeOpen hw r
      · exact h.completeLost hw r
    next => exact h
  next => exact h

theorem State.QueuesKept.grantUnit (u : UnitId) : (s.grantUnit u).QueuesKept := by
  unfold State.grantUnit
  split
  · exact h.withConditioner h.fed
  · exact h

theorem State.QueuesKept.grantReadBack : s.grantReadBack.QueuesKept := by
  unfold State.grantReadBack
  split
  next r k hr _ =>
    obtain ⟨hq, hs⟩ := (Management.kept_iff _).1 h.engine
    exact h.withMgmt ((Management.kept_iff _).2 ⟨{ hq with }, { hs with readBack := fun _ => hs.readBack (by simp [hr]) }⟩) Iff.rfl
  next => exact h

/-- A slot written leaves the loader WRITING with its record. -/
theorem State.QueuesKept.grantPageWrite : s.grantPageWrite.QueuesKept := by
  unfold State.grantPageWrite
  split
  next r i hc =>
    obtain ⟨hu, hd, hf, hg, hm, hpost, -⟩ := h
    have hw : s.loader.state = .writing := by
      unfold State.pageWriteClaim at hc
      split at hc
      next hw => exact hw
      next => cases hc
    exact ⟨hu, hd, hf, hg, hm, hpost, iff_of_false (by simp) (by simp [hw])⟩
  next => exact h

theorem State.QueuesKept.grantPeriod : s.grantPeriod.QueuesKept := by
  have hacc : ∀ g, (s.access g).QueuesKept := fun g =>
    match g with
    | some (.unit u) => h.grantUnit u
    | some (.other .readBack) => h.grantReadBack
    | some (.other .pageWrite) => h.grantPageWrite
    | none => h
  exact (hacc (s.store.arbiter.choose s.claims)).same ⟨by simp, by simp, rfl, by simp, rfl, rfl, rfl⟩

theorem State.QueuesKept.accessPeriod : s.accessPeriod.QueuesKept :=
  State.accessPeriod_keeps (fun _ u hs => hs.endConversion u) (fun _ hs => hs.finishReadBack) (fun _ hs => hs.completeWrite)
    (fun _ hs => hs.grantPeriod) h

theorem State.QueuesKept.passUntil (done : State → Bool) (n : Nat) : (s.passUntil done n).QueuesKept :=
  State.passUntil_keeps (fun _ hs => hs.accessPeriod) done n h

theorem State.QueuesKept.conversionEnd (unit : Nat) : NextKept (execConversionEnd unit s) := by
  unfold execConversionEnd
  split
  · exact nextKept_ite (fun _ => h) fun _ => (h.passUntil ..).endConversion _
  · exact nextKept_next h

theorem State.QueuesKept.completeDefine : s.completeDefine.QueuesKept := by
  unfold State.completeDefine
  split
  · exact (h.passUntil ..).finishReadBack
  · exact h

/-! ### The takings -/

/-- After a full response queue gives up its head, the response formed first takes the place, and its holder leaves POSTING (07 R143). -/
theorem State.QueuesKept.placePosted_after {f : Frame} {rest : List Frame} (hq : s.mgmt.responseQueue = f :: rest) :
    ({ s with mgmt := { s.mgmt with responseQueue := rest } } : State).placePosted.QueuesKept := by
  obtain ⟨hu, hd, hc, hg, hm, hpost, hrec⟩ := h
  obtain ⟨hfit, hs⟩ := (Management.kept_iff _).1 hm
  unfold State.placePosted
  split
  next hnil =>
    have hrest : rest.length ≤ Config.responseQueueSize := (Nat.le_succ _).trans (by simpa [hq] using hfit.responses)
    exact ⟨hu, hd, hc, hg, (Management.kept_iff _).2 ⟨{ hfit with responses := hrest, full := fun hne => absurd hnil hne }, { hs with }⟩, hpost, hrec⟩
  next holder r more hw =>
    have hw' : s.mgmt.waiting = ⟨holder, r⟩ :: more := hw
    have hholders : s.mgmt.holders = holder :: more.map HeldResponse.holder := by rw [Management.holders, hw']; rfl
    have hlen : rest.length + 1 = Config.responseQueueSize := by simpa [hq] using hfit.full (by simp [hw'])
    obtain ⟨hfresh, hnodup⟩ := List.nodup_cons.1 (hholders ▸ hfit.holders)
    have hplaced : ({ s.mgmt with waiting := more, responseQueue := rest ++ [r] } : Management).QueuesFit :=
      { hfit with
        responses := by simp [hlen]
        full := fun _ => by simp [hlen]
        holders := hnodup }
    rw [hholders, List.mem_cons] at hpost
    rw [if_pos (by simp only; omega)]
    cases holder with
    | engine =>
      refine ⟨hu, hd, hc, hg, hplaced.leave hfresh, ?_, hrec⟩
      have hleave : Holder.loader ∈ more.map HeldResponse.holder ↔ s.loader.state = .posting := by simpa using hpost
      exact (Iff.of_eq (congrArg _ (Management.leave_holders _))).trans hleave
    | loader =>
      refine ⟨hu, hd, hc, hg, (Management.kept_iff _).2 ⟨hplaced, { hs with posting := ?_ }⟩, iff_of_false hfresh (by simp), by simp⟩
      rw [← hs.posting, hholders, List.mem_cons]
      simp [Management.holders]

/-- With a response waiting the queue is full, so that none is placed out of its turn. -/
theorem State.QueuesKept.placePosted : s.placePosted.QueuesKept := by
  unfold State.placePosted
  split
  · exact h
  next holder r rest hw =>
    have hfull := ((Management.kept_iff _).1 h.engine).1.full (by simp [hw])
    rw [if_neg (by rw [hfull]; exact Nat.lt_irrefl _)]
    exact h

/-- A source other than the response queue gives its frame without touching port or engine. -/
theorem State.QueuesKept.takeFrom {src : Source} (hsrc : src ≠ .rq) {f : Frame} {t : State} (ht : s.takeFrom src = some (f, t)) :
    t.QueuesKept ∧ t.dPort = s.dPort := by
  obtain ⟨hcq, hfq, huq⟩ := h.merged
  cases src with
  | cq =>
    simp only [State.takeFrom] at ht
    split at ht
    next e rest hq =>
      cases ht
      rw [hq] at hcq
      exact ⟨h.withMerger ⟨(Nat.le_succ _).trans hcq, hfq, huq⟩, rfl⟩
    next => cases ht
  | fq =>
    simp only [State.takeFrom] at ht
    split at ht
    next e rest hq =>
      cases ht
      rw [hq] at hfq
      exact ⟨h.withMerger ⟨hcq, (Nat.le_succ _).trans hfq, huq⟩, rfl⟩
    next => cases ht
  | rq => exact absurd rfl hsrc
  | nu =>
    obtain ⟨⟨g, u⟩, -, e⟩ := Option.map_eq_some_iff.1 ht
    cases e
    exact ⟨h.same (by constructor <;> simp), rfl⟩

theorem State.QueuesKept.fillPlace (src : Source) (passWaited : Bool) : (s.fillPlace src passWaited).QueuesKept := by
  cases src with
  | cq => exact h.enterCq
  | fq =>
    unfold State.fillPlace
    dsimp only
    split
    · exact h.classifyData
    · exact h
  | rq => exact h.placePosted
  | nu => exact h

/-- A taking at the D-port keeps the queues when what it does with the frame writes the port and its counters alone, and keeps the port. -/
theorem State.QueuesKept.dPortTake {use : Frame → State → State}
    (huse : ∀ f t, t.dPort = s.dPort → ∃ x c, x.Kept Config.dBufferSize ∧ use f t = { t with dPort := x, counters := c }) :
    (s.dPortTake use).QueuesKept := by
  have hused : ∀ (t : State) (x : LinkPort) c src, t.QueuesKept → x.Kept Config.dBufferSize →
      (({ t with dPort := x, counters := c } : State).pointPast src).QueuesKept := by
    rintro t x c src ⟨hu, -, hrest⟩ hx
    exact ⟨hu, hx, hrest⟩
  unfold State.dPortTake
  split
  · exact h
  next src _ =>
    split
    · exact h
    next f taken ht =>
      by_cases hsrc : src = .rq
      · subst hsrc
        simp only [State.takeFrom] at ht
        split at ht
        next g rest hq =>
          cases ht
          obtain ⟨x, c, hx, e⟩ := huse f { s with mgmt := { s.mgmt with responseQueue := rest } } rfl
          rw [e]
          exact (hused s x c .rq h hx).placePosted_after hq
        next => cases ht
      · obtain ⟨hk, hd⟩ := h.takeFrom hsrc ht
        obtain ⟨x, c, hx, e⟩ := huse f taken hd
        rw [e]
        exact (hused taken x c src hk hx).fillPlace src _

theorem State.QueuesKept.dPortTaking : NextKept (execDPortTaking s) :=
  nextKept_ite (fun hc => h.dPortTake fun f t ht => ⟨{ s.dPort with tx := .sending f.wire }, t.counters, h.2.1.send hc.1 _, by rw [← ht]; rfl⟩) fun _ => h

theorem State.QueuesKept.dPortDiscardTaking : NextKept (execDPortDiscardTaking s) :=
  nextKept_ite (fun _ => h) fun _ => h.dPortTake fun f t ht => ⟨s.dPort, _, h.2.1, by rw [← ht]; rfl⟩

theorem State.QueuesKept.upQueueTake : NextKept (execUpQueueTake s) := by
  unfold execUpQueueTake
  split
  next f rest hq =>
    refine nextKept_ite (fun hc => ?_) fun _ => h
    obtain ⟨hu, hd, hf, ⟨hcq, hfq, huq⟩, hrest⟩ := h
    rw [hq] at huq
    exact ⟨hu.send hc.1 _, hd, hf, ⟨hcq, hfq, (Nat.le_succ _).trans huq⟩, hrest⟩
  next => exact nextKept_next h

theorem State.QueuesKept.upQueueDiscard : NextKept (execUpQueueDiscard s) := by
  unfold execUpQueueDiscard
  split
  next f rest hq =>
    refine nextKept_ite (fun _ => h) fun _ => ?_
    obtain ⟨hcq, hfq, huq⟩ := h.merged
    rw [hq] at huq
    have hrest := h.withMerger (x := { s.merger with uq := rest }) ⟨hcq, hfq, (Nat.le_succ _).trans huq⟩
    exact hrest.same (by constructor <;> simp)
  next => exact nextKept_next h

/-! ### The timers -/

theorem State.QueuesKept.endLease : s.endLease.QueuesKept := h.same (by constructor <;> simp)

theorem State.QueuesKept.tickLease : s.tickLease.QueuesKept := by
  have hcount : ∀ t : State, t.QueuesKept → t.countLease.QueuesKept := by
    intro t ht
    unfold State.countLease State.expireLease
    split
    · split
      · exact ht.endLease.same (by constructor <;> simp)
      · exact ht
    · exact ht.same (by constructor <;> simp)
  unfold State.tickLease
  split
  · exact hcount _ h.completeDefine
  · exact hcount _ h

theorem State.QueuesKept.tick : s.tick.QueuesKept :=
  h.tickLease.same (t := s.tickLease.tickRetry) (by constructor <;> simp)

end

/-! ### Every command, and every step -/

/-- Every command keeps the queues. -/
theorem State.QueuesKept.exec {s : State} (h : s.QueuesKept) (c : Instr) : NextKept (exec c s) := by
  cases c with
  | resetnRelease => exact nextKept_next (State.reset_queuesKept.same (by constructor <;> simp))
  | carrierDetect p => exact h.carrierDetect p
  | alignmentAchieved p => exact h.alignmentAchieved p
  | carrierLoss p => exact h.carrierLoss p
  | frameArrival p run => exact h.frameArrival p run
  | dataClassifierTake => exact nextKept_next h.classifyData
  | lookup => exact h.lookup
  | conversionEnd unit => exact h.conversionEnd unit
  | cqEntry => exact nextKept_next h.enterCq
  | fenceApply => exact nextKept_next h.settleFence
  | commandClassifierTake => exact nextKept_next h.classifyCommand
  | unknownCommand => exact h.command _ _ fun f _ ht _ => ht.respond_kept f _ _
  | ping => exact h.command _ _ fun f _ ht _ => ht.respond_kept f _ _
  | getStatus => exact h.command _ _ fun f _ ht _ => ht.getStatusBody_kept f
  | setParam => exact h.command _ _ fun f _ ht _ => ht.setParamBody_kept f
  | resetNodeSoft => exact h.command _ _ fun f _ ht _ => ht.resetNodeBody_kept f
  | resetNodeFull => exact h.command _ _ fun f _ ht _ => ht.resetNodeBody_kept f
  | mapChannel => exact h.command _ _ fun f _ ht _ => ht.mapChannelBody_kept f
  | setChannel => exact h.command _ _ fun f _ ht _ => ht.setChannelBody_kept f
  | getChannel => exact h.command _ _ fun f _ ht _ => ht.getChannelBody_kept f
  | openLease => exact h.command _ _ fun f _ ht _ => ht.openLeaseBody_kept f
  | stageKnots => exact h.command _ _ fun f _ ht _ => ht.leaseCheck_kept f _ fun _ hu _ => hu.stageKnotsChecked_kept f
  | clearStaging => exact h.command _ _ fun f _ ht _ => ht.leaseCheck_kept f _ fun _ hu _ => hu.clearStagingChecked_kept f
  | readStaging => exact h.command _ _ fun f _ ht _ => ht.leaseCheck_kept f _ fun _ hu _ => hu.readStagingChecked_kept f
  | writePage => exact h.command _ _ fun f _ ht _ => ht.leaseCheck_kept f _ fun _ hu _ => hu.writePageChecked_kept f
  | pageWriteCompletion => exact nextKept_ite (fun _ => (h.passUntil ..).completeWrite) fun _ => h
  | defineCurve => exact h.command _ _ fun f _ ht he => ht.leaseCheck_kept f _ fun _ hu hs => hu.defineCurveChecked_kept f (hs.trans he)
  | defineCurveCheckDone => exact nextKept_next h.completeDefine
  | closeLease => exact h.command _ _ fun f _ ht _ => ht.leaseCheck_kept f _ fun _ hu _ => hu.closeLeaseChecked_kept f
  | leaseExpiry => exact nextKept_ite (fun _ => h.tick) fun _ => h
  | getCurve => exact h.command _ _ fun f _ ht _ => ht.getCurveBody_kept f
  | readKnots => exact h.command _ _ fun f _ ht he => ht.readKnotsBody_kept f he
  | readKnotsDone => exact nextKept_ite (fun _ => (h.passUntil ..).finishReadBack) fun _ => h
  | deleteCurve => exact h.command _ _ fun f _ ht _ => ht.deleteCurveBody_kept f
  | bindChannels => exact h.command _ _ fun f _ ht _ => ht.bindChannelsBody_kept f
  | prepareBind => exact h.command _ _ fun f _ ht _ => ht.prepareBindBody_kept f
  | applyBind => exact h.command _ _ fun f _ ht _ => ht.applyBindBody_kept f
  | applyBindBroadcast => exact h.broadcastCopy _ fun f hs => hs.applyBindBroadcastBody_kept f
  | cancelBind => exact h.command _ _ fun f _ ht _ => ht.cancelBindBody_kept f
  | cancelBindBroadcast => exact h.broadcastCopy _ fun f hs => hs.cancelBindBroadcastBody_kept f
  | ackNotices => exact h.command _ _ fun f _ ht _ => ht.ackNoticesBody_kept f
  | resumeNotices => exact h.command _ _ fun f _ ht _ => State.MayAnswer.respond_kept (ht.same (by constructor <;> simp)) f _ _
  | readCounters => exact h.command _ _ fun f _ ht _ => ht.readCountersBody_kept f
  | noticeRetryExpiry => exact nextKept_ite (fun _ => h.tick) fun _ => h
  | dPortTaking => exact h.dPortTaking
  | dPortDiscardTaking => exact h.dPortDiscardTaking
  | frameSent p => exact h.frameSent p
  | upQueueTake => exact h.upQueueTake
  | upQueueDiscard => exact h.upQueueDiscard
  | postedResponsePlaced => exact nextKept_next h.placePosted
  | millisecondTick => exact nextKept_next h.tick

/-- Settles O55: a step is one access period, or the front command on the part with the rest of the commands waiting. -/
theorem stepKeepsQueues : Obligations.StepKeepsQueues := by
  intro s t h hstep
  unfold step at hstep
  split at hstep
  · cases hstep
    exact h.accessPeriod
  next c rest _ =>
    have hrest : ({ s with pending := rest } : State).QueuesKept := h.same (by constructor <;> simp)
    exact hrest.exec c t hstep

end Sys2Proof.Machine
end

section
/-! What most events leave alone, said once: the channel table, the descriptors, the slots and the pending set. Whatever the remaining events keep, every
command keeps. -/

namespace Sys2Proof.Machine

/-! ### The engine enters no wait -/

/-- The engine goes on without entering FENCE_WAIT and without beginning a read-back: where it is in one of the two it was so before, for the same command. -/
structure Management.Eases (m n : Management) : Prop where
  fence : n.state = .fenceWait → m.state = .fenceWait ∧ n.current = m.current
  readBack : ∀ r, n.readBack = some r → m.readBack = some r ∧ n.current = m.current

theorem Management.Eases.of_eq {m n : Management} (hs : n.state = m.state) (hc : n.current = m.current) (hr : n.readBack = m.readBack) :
    m.Eases n := ⟨fun h => ⟨hs ▸ h, hc⟩, fun _ h => ⟨hr ▸ h, hc⟩⟩

@[simp] theorem Management.Eases.refl (m : Management) : m.Eases m := .of_eq rfl rfl rfl

theorem Management.Eases.trans {m n o : Management} (h : m.Eases n) (h' : n.Eases o) : m.Eases o where
  fence ho := by
    obtain ⟨hn, hc⟩ := h'.fence ho
    obtain ⟨hm, hc'⟩ := h.fence hn
    exact ⟨hm, hc.trans hc'⟩
  readBack r ho := by
    obtain ⟨hn, hc⟩ := h'.readBack r ho
    obtain ⟨hm, hc'⟩ := h.readBack r hn
    exact ⟨hm, hc.trans hc'⟩

@[simp] theorem Management.leave_eases (m : Management) : m.Eases m.leave := by
  cases hq : m.commandQueue with
  | nil => rw [Management.leave_nil hq]; constructor <;> simp
  | cons f rest => rw [Management.leave_cons hq]; constructor <;> simp

@[simp] theorem Management.offer_eases (m : Management) (r : Frame) : m.Eases (m.offer r) := by
  by_cases hroom : m.responseQueue.length < Config.responseQueueSize
  · rw [Management.offer_placed r hroom]
    exact Management.Eases.trans (n := { m with responseQueue := m.responseQueue ++ [r] }) (.of_eq rfl rfl rfl) (by simp)
  · rw [Management.offer_held r hroom]
    exact ⟨by simp, fun _ h => ⟨h, rfl⟩⟩

theorem Management.store_eases (m : Management) (r : Frame) : m.Eases (m.store r) := by
  obtain ⟨c, e⟩ := m.store_eq r
  rw [e]
  exact .of_eq rfl rfl rfl

@[simp] theorem Management.respond_eases (m : Management) (f : Frame) (st : Status) (p : List Byte) : m.Eases (m.respond f st p) :=
  (m.store_eases _).trans (Management.offer_eases _ _)

@[simp] theorem Management.join_eases (m : Management) (f : Frame) : m.Eases (m.join f) := by
  unfold Management.join
  dsimp only
  split
  · exact Management.Eases.trans (n := { m with commandQueue := m.commandQueue ++ [f] }) (.of_eq rfl rfl rfl) (by simp)
  · exact .of_eq rfl rfl rfl

/-- A command in hand is current, with the engine EXECUTING and no read-back. -/
theorem Management.inHand_eq_some {m : Management} {f : Frame} (h : m.inHand = some f) :
    m.state = .executing ∧ m.readBack = none ∧ m.current = some f := by
  unfold Management.inHand at h
  split at h
  next hc => exact ⟨hc.1, hc.2, h⟩
  next => cases h

/-! ### Quiet events -/

/-- From `s` to `t` the part has changed nothing of the channel table, the descriptors, the work slots, the pending set and the model's own fields, and the engine
has entered no wait. -/
structure State.Quiet (s t : State) : Prop where
  table : t.table = s.table
  curves : t.store.curves = s.store.curves
  conditioner : t.conditioner = s.conditioner
  bind : t.bind = s.bind
  mgmt : s.mgmt.Eases t.mgmt
  pending : t.pending = s.pending
  fresh : t.fresh = s.fresh

theorem State.Quiet.refl (s : State) : s.Quiet s := by constructor <;> simp

theorem State.Quiet.trans {s t u : State} (h : s.Quiet t) (h' : t.Quiet u) : s.Quiet u :=
  ⟨h'.table.trans h.table, h'.curves.trans h.curves, h'.conditioner.trans h.conditioner, h'.bind.trans h.bind, h.mgmt.trans h'.mgmt,
    h'.pending.trans h.pending, h'.fresh.trans h.fresh⟩

theorem State.Quiet.context {s t : State} (h : s.Quiet t) (k : ContextId) : t.context k = s.context k := by
  unfold State.context
  rw [h.table]

theorem State.Quiet.curve {s t : State} (h : s.Quiet t) (c : CurveId) : t.curve c = s.curve c := by
  unfold State.curve
  rw [h.curves]

namespace State.Quiet
variable (s : State)

theorem withMgmt {m : Management} (h : s.mgmt.Eases m) : s.Quiet { s with mgmt := m } := ⟨rfl, rfl, rfl, rfl, h, rfl, rfl⟩

theorem respond (f : Frame) (st : Status) (p : List Byte) : s.Quiet (s.respond f st p) := withMgmt s (by simp)

theorem leave : s.Quiet s.leave := withMgmt s (by simp)

theorem begun (f : Frame) : s.Quiet (s.begun f) := withMgmt s (.of_eq rfl rfl rfl)

theorem applyMiss : s.Quiet s.applyMiss := trans (t := s.countNode _) (by constructor <;> simp) (leave _)

theorem renewLease : s.Quiet s.renewLease := by constructor <;> simp

theorem endLease : s.Quiet s.endLease := ⟨by simp, rfl, by simp, by simp, by simp, by simp, by simp⟩

theorem raise (k : NoticeKind) (b : Byte) (l : List Byte) : s.Quiet (s.raise k b l) := by constructor <;> simp

theorem countContext (k : ContextId) (f : ContextCounters → ContextCounters) : s.Quiet (s.countContext k f) := by constructor <;> simp

theorem raiseLimits (on : Bool) (b : Byte) (l : List Transition) : s.Quiet (s.raiseLimits on b l) := by constructor <;> simp

theorem countGap (k : ContextId) (b : Byte) (n : Nat) : s.Quiet (s.countGap k b n) := by constructor <;> simp

theorem classifyData : s.Quiet s.classifyData := by constructor <;> simp

theorem setPort (p : Port) (x : LinkPort) : s.Quiet (s.setPort p x) := by constructor <;> simp

theorem arrive (p : Port) (run : List Byte) : s.Quiet (s.arrive p run) := by constructor <;> simp

theorem leaveUp (p : Port) : s.Quiet (s.leaveUp p) := by constructor <;> simp

theorem tickRetry : s.Quiet s.tickRetry := by constructor <;> simp

/-- The loader's formed response joins the queue or waits; the engine goes on as it was. -/
theorem offerLoader (r : Frame) : s.Quiet (s.offerLoader r) := by
  refine ⟨by simp, by simp, by simp, by simp, ?_, by simp, by simp⟩
  unfold State.offerLoader
  split <;> exact .of_eq rfl rfl rfl

theorem answerWrite (r : WriteRecord) (st : Status) : s.Quiet (s.answerWrite r st) :=
  (withMgmt s (s.mgmt.store_eases _)).trans (offerLoader _ _)

theorem completeWrite : s.Quiet s.completeWrite := by
  unfold State.completeWrite
  split
  · split
    · split
      · unfold State.completeOpen
        exact trans (by constructor <;> simp [CurveStore.writeDone]) (answerWrite _ _ _)
      · unfold State.completeLost
        exact trans (by constructor <;> simp [CurveStore.returnWriting]) (answerWrite _ _ _)
    · exact refl s
  · exact refl s

theorem placePosted : s.Quiet s.placePosted := by
  refine ⟨by simp, by simp, by simp, by simp, ?_, by simp, by simp⟩
  unfold State.placePosted
  split
  · exact .refl _
  next holder response rest hw =>
    split
    · dsimp only
      split
      · exact Management.Eases.trans (n := { s.mgmt with waiting := rest, responseQueue := s.mgmt.responseQueue ++ [response] })
          (.of_eq rfl rfl rfl) (Management.leave_eases _)
      · exact .of_eq rfl rfl rfl
    · exact .refl _

theorem countLease : s.Quiet s.countLease := by
  unfold State.countLease State.expireLease
  split
  · split
    · exact (endLease s).trans (raise _ _ _ _)
    · exact refl s
  · constructor <;> simp

theorem grantPageWrite : s.Quiet s.grantPageWrite := by
  unfold State.grantPageWrite
  split
  · exact ⟨rfl, rfl, rfl, rfl, .refl _, rfl, rfl⟩
  · exact refl s

theorem writeParam (p : ParamId) (v : Half) : s.Quiet (s.writeParam p v) := by
  have hset : s.Quiet { s with mgmt := { s.mgmt with params := s.mgmt.params.set p v } } := withMgmt s (.of_eq rfl rfl rfl)
  unfold State.writeParam
  dsimp only
  split
  · exact hset.trans (classifyData _)
  · exact hset

theorem startWrite (f : Frame) (p : PageId) : s.Quiet (s.startWrite f p) := by
  unfold State.startWrite
  exact trans (by constructor <;> simp [CurveStore.takeForWrite]) (leave _)

theorem arriveCommand (f : Frame) : s.Quiet (s.arriveCommand f) := by
  unfold State.arriveCommand
  split
  · constructor <;> simp
  · split
    · constructor <;> simp
    · exact withMgmt s (by simp)

theorem arriveBroadcast (f : Frame) : s.Quiet (s.arriveBroadcast f) := by
  unfold State.arriveBroadcast
  split
  · split
    · constructor <;> simp
    · exact withMgmt s (by simp)
  · constructor <;> simp

theorem pointPast (x : Source) : s.Quiet (s.pointPast x) := by constructor <;> simp

theorem joinUp (f : Frame) : s.Quiet (s.joinUp f) := by constructor <;> simp

end State.Quiet

/-- A command classifier taking is quiet but for the counter of free values. -/
theorem State.classifyCommand_quiet (s : State) : s.Quiet { s.classifyCommand with fresh := s.fresh } := by
  refine ⟨by simp, by simp, by simp, by simp, ?_, by simp, rfl⟩
  unfold State.classifyCommand
  split
  · exact .refl _
  next f rest _ =>
    dsimp only
    split
    · exact .refl _
    · exact (State.Quiet.arriveCommand { s with dPort := { s.dPort with buffer := rest } } f).mgmt
    · rw [State.takeUp_eq]
      split
      · exact (State.Quiet.arriveBroadcast (({ s with dPort := { s.dPort with buffer := rest } } : State).joinUp f) f).mgmt
      · exact .refl _
    · rw [State.takeUp_eq]
      split <;> exact .refl _
    · obtain e | e := s.takeStray_cases { s with dPort := { s.dPort with buffer := rest } } f <;> rw [e]
      · exact .refl _
      · split <;> exact .refl _
    · rw [State.takeUp_eq]
      split <;> exact .of_eq rfl rfl rfl

/-! ### The events that are not quiet -/

/-- The checks of 02 R30 and R33 that a fenced command has passed and that must still hold when it is applied (02 R38). -/
def State.FencePassed (s : State) (f : Frame) : Prop :=
  (f.code = codeMapChannel → ∀ channel target t, f.payload = [channel, target] → mapTarget target = some t →
    s.channelPending channel = false ∧ ∀ k, t = some k → ∀ c, (s.context k).channel = some c → c = channel) ∧
  (f.code ≠ codeMapChannel → ∀ p, settingsOf f.payload = some p → p.mode = .cond →
    (s.context p.context).curve.isSome = true ∧ (s.context p.context).channel.any s.channelPendingNone = false)

theorem State.fenceKept_iff (s : State) :
    s.FenceKept ↔ (s.mgmt.state = .fenceWait → ∀ f, s.mgmt.current = some f → s.FencePassed f) := Iff.rfl

/-- A SET_CHANNEL payload in range begins with its context, and its N is 1..16 (02 Table 2-3). -/
theorem settingsOf_eq_some {payload : List Byte} {p : ChannelSettings} (h : settingsOf payload = some p) :
    payload.head?.bind contextOf = some p.context ∧ 1 ≤ p.decimation ∧ p.decimation ≤ 16 := by
  unfold settingsOf at h
  split at h
  · split at h
    next hk _ =>
      dsimp only at h
      split at h
      next hr =>
        obtain ⟨hlow, hhigh, -⟩ := hr
        cases h
        exact ⟨hk, hlow, hhigh⟩
      next => cases h
    next => cases h
  next => cases h

/-- A SET_CHANNEL is fenced on the context it names (02 R36). -/
theorem State.fenceTarget_settings {s : State} {f : Frame} {p : ChannelSettings} (hc : f.code = codeSetChannel)
    (hp : settingsOf f.payload = some p) : s.fenceTarget f = some p.context := by
  unfold State.fenceTarget
  rw [if_neg (by rw [hc]; decide), if_pos hc, (settingsOf_eq_some hp).1]

/-- DEFINE_CURVE's check 2: the curve is EMPTY (05 R104). -/
theorem State.checkDefinition_empty {s : State} {payload : List Byte} {d : Definition} (h : s.checkDefinition payload = .ok d) :
    (s.curve d.curve).state = .empty := by
  unfold State.checkDefinition at h
  split at h
  · split at h
    next => cases h
    next c _ =>
      split at h
      next => cases h
      next he =>
        split at h
        next => cases h
        next =>
          dsimp only at h
          split at h
          · cases h
            exact not_not.1 he
          · cases h
  next => cases h

theorem rawPairsOf_length (l : List Byte) : (rawPairsOf l).length = l.length / 3 := by
  induction l using rawPairsOf.induct with
  | case1 a b c rest ih => simp only [rawPairsOf, List.length_cons, ih]; omega
  | case2 l hl =>
    match l with
    | [] | [_] | [_, _] => simp [rawPairsOf]
    | a :: b :: c :: rest => exact absurd rfl (hl a b c rest)

/-- A source gives its frame quietly. -/
theorem State.takeFrom_quiet {s t : State} {x : Source} {f : Frame} (h : s.takeFrom x = some (f, t)) : s.Quiet t := by
  cases x with
  | cq =>
    simp only [State.takeFrom] at h
    split at h <;> cases h
    constructor <;> simp
  | fq =>
    simp only [State.takeFrom] at h
    split at h <;> cases h
    constructor <;> simp
  | rq =>
    simp only [State.takeFrom] at h
    split at h <;> cases h
    exact .withMgmt s (.of_eq rfl rfl rfl)
  | nu =>
    obtain ⟨⟨g, u⟩, -, e⟩ := Option.map_eq_some_iff.1 h
    cases e
    constructor <;> simp

/-- A lookup is of a COND context, and there is a FREE slot for it (04 R66). -/
theorem State.lookupReady_slot {s : State} {f : Frame} {rest : List Frame} {k : ContextId} {i : SlotId}
    (h : s.lookupReady = some (f, rest, k, i)) : (s.context k).mode = .cond ∧ s.conditioner.slots[i] = none := by
  unfold State.lookupReady at h
  split at h
  · split at h
    next hk hi =>
      cases h
      refine ⟨?_, by simpa using List.find?_some hi⟩
      unfold State.conditioned at hk
      split at hk
      · obtain ⟨-, hc⟩ := Option.filter_eq_some_iff.1 hk
        simpa using (Bool.and_eq_true_iff.1 hc).1
      · cases hk
    next => cases h
  next => cases h

/-- A condition of the part that every event keeps: quiet ones, and each of those that write the channel table, the descriptors, the work slots or the
pending set, or that enter a wait, with what their checks have established. -/
structure KeptByEvents (P : State → Prop) : Prop where
  quiet : ∀ s t, s.Quiet t → P s → P t
  restart : ∀ s, P s → P { State.reset with fresh := s.fresh, pending := s.pending }
  resetSoft : ∀ s f, P s → P (s.resetSoft f)
  fence : ∀ s f k, s.mgmt.inHand = some f → s.FencePassed f → P s → P (s.fence k)
  finishFenced : ∀ s f, s.mgmt.inHand = some f → f.code = codeMapChannel ∨ f.code = codeSetChannel → s.FencePassed f → (∀ k, s.fenceTarget f = some k → (s.context k).inFlight = 0) →
    P s → P (s.finishFenced f)
  settleFence : ∀ s, P s → P s.settleFence
  enterCq : ∀ s, P s → P s.enterCq
  occupy : ∀ s k i c f, s.conditioner.slots[i] = none → (s.context k).curve = some c → P s → P (s.occupy k i c f)
  startConversions : ∀ s, P s → P s.startConversions
  endConversion : ∀ s u, P s → P (s.endConversion u)
  finishReadBack : ∀ s, P s → P s.finishReadBack
  grantUnit : ∀ s u, P s → P (s.grantUnit u)
  grantReadBack : ∀ s, P s → P s.grantReadBack
  startReadBack : ∀ s f r, s.mgmt.inHand = some f → (r.purpose ≠ .readKnots → (s.curve r.curve).state = .empty) → P s → P (s.startReadBack r)
  deleteCurve : ∀ s f c, s.mgmt.inHand = some f → (s.curve c).state = .built → (s.curve c).reservations = 0 → P s → P (s.deleteCurve c)
  bindNow : ∀ s f l, s.mgmt.inHand = some f → s.validate [] l = none → P s → P (s.bindNow (l.map RawPair.pair))
  prepare : ∀ s f l tag, s.mgmt.inHand = some f → s.bind = none → l.length ≤ 8 → s.validate [] l = none → P s →
    P { s.reserve (l.map RawPair.pair) with bind := some ⟨tag, l.map RawPair.pair⟩ }
  applyPending : ∀ s f b, s.mgmt.inHand = some f → s.bind = some b → P s → P (s.applyPending b)
  cancelPending : ∀ s f b, s.mgmt.inHand = some f → s.bind = some b → P s → P (s.cancelPending b)

theorem nextIs_ite {P : State → Prop} {c : Prop} [Decidable c] {a b : State} (ha : c → P a) (hb : ¬ c → P b) :
    NextIs (if c then .next a else .next b) P := by
  split
  next hc => exact ha hc
  next hc => exact hb hc

namespace KeptByEvents
variable {P : State → Prop} (K : KeptByEvents P) {s : State} (h : P s)
include K h

/-! ### The common path of a command -/

theorem respond (f : Frame) (st : Status) (p : List Byte) : P (s.respond f st p) := K.quiet _ _ (.respond s f st p) h

/-- A command row keeps the condition when its body does, on a part whose engine holds the command. -/
theorem command (accepts : Frame → Bool) (ok : List Byte → Bool) {body : Frame → State → State}
    (hbody : ∀ f t, t.mgmt.inHand = some f → accepts f = true → ok f.payload = true → P t → P (body f t)) :
    NextIs (s.command accepts ok body) P := by
  unfold State.command
  split
  next f hf =>
    refine nextIs_ite (fun hacc => ?_) fun _ => h
    have hbegun : P (s.begun f) := K.quiet _ _ (.begun s f) h
    have hnew : P ((s.begun f).lengthCheck f ok (body f)) := by
      unfold State.lengthCheck
      split
      next hl => exact hbody f _ hf (Bool.and_eq_true_iff.1 hacc).2 hl hbegun
      next => exact K.respond hbegun _ _ _
    unfold State.cacheCheck
    split
    · split
      · exact K.quiet s _ ((State.Quiet.trans (t := s.countNode _) (by constructor <;> simp)) (.withMgmt _ (by simp))) h
      · exact hnew
    · split
      · exact K.quiet s _ ((State.Quiet.trans (t := s.countNode _) (by constructor <;> simp)) (.leave _)) h
      · exact hnew
    · exact hnew
  next => exact h

theorem leaseCheck {f : Frame} (hf : s.mgmt.inHand = some f) (renews : Bool) {go : State → State}
    (hgo : ∀ t, t.mgmt.inHand = some f → P t → P (go t)) : P (s.leaseCheck f renews go) := by
  obtain ⟨st, p, e⟩ | e | e := s.leaseCheck_cases f renews go
  · exact e ▸ K.respond h f st p
  · exact e ▸ hgo s.renewLease hf (K.quiet _ _ (.renewLease s) h)
  · exact e ▸ hgo s hf h

theorem broadcastCopy (code : Byte) {body : Frame → State → State} (hbody : ∀ f, s.mgmt.inHand = some f → P (body f s)) :
    NextIs (s.broadcastCopy code body) P := by
  obtain ⟨t, e, rfl | rfl | ⟨f, hf, -, -, -, rfl⟩⟩ := s.broadcastCopy_cases code body <;> rw [e]
  · exact h
  · exact K.quiet _ _ (.applyMiss s) h
  · exact hbody f hf

/-! ### The bodies -/

/-- A body that answers after a quiet change. -/
theorem quietly {t : State} (ht : s.Quiet t) (f : Frame) (st : Status) (p : List Byte) : P (t.respond f st p) :=
  K.respond (K.quiet _ _ ht h) f st p

theorem getStatusBody (f : Frame) : P (getStatusBody f s) := by
  unfold Machine.getStatusBody
  split
  · split
    · exact K.quietly h (by split <;> constructor <;> simp) _ _ _
    · exact K.respond h ..
  · exact K.respond h ..

theorem setParamBody (f : Frame) : P (setParamBody f s) := by
  unfold Machine.setParamBody
  split
  · split
    · exact K.respond h ..
    · dsimp only
      split
      · exact K.quietly h (.writeParam ..) _ _ _
      · exact K.respond h ..
  · exact K.respond h ..

theorem resetNodeBody (f : Frame) : P (resetNodeBody f s) := by
  unfold Machine.resetNodeBody
  split
  · exact K.resetSoft _ _ h
  · split
    · exact K.quiet { State.reset with fresh := s.fresh, pending := s.pending } (s.resetFull f) ⟨rfl, rfl, rfl, rfl, ⟨by simp [State.resetFull, Management.resetNode_eq],
        by simp [State.resetFull, Management.resetNode_eq]⟩, rfl, rfl⟩ (K.restart _ h)
    · exact K.respond h ..

/-- MAP_CHANNEL's checks establish what its fence needs. -/
theorem mapChannelBody {f : Frame} (hf : s.mgmt.inHand = some f) (hcode : f.code = codeMapChannel) : P (mapChannelBody f s) := by
  have hgo : s.FencePassed f → P (mapChannelBody.fenceOrFinish f s) := fun hp => by
    unfold mapChannelBody.fenceOrFinish
    split
    next k hk =>
      split
      next h0 => exact K.finishFenced s f hf (.inl hcode) hp (fun j hj => by rw [hk] at hj; cases hj; exact h0) h
      next => exact K.fence s f k hf hp h
    next hk => exact K.finishFenced s f hf (.inl hcode) hp (fun j hj => by rw [hk] at hj; cases hj) h
  unfold Machine.mapChannelBody
  split
  next channel target hpay =>
    split
    · exact K.respond h ..
    next t ht =>
      dsimp only
      split
      · exact K.respond h ..
      next hres =>
        obtain ⟨hfree, -⟩ := Bool.or_eq_false_iff.1 (Bool.eq_false_iff.2 hres)
        have hpassed (hheld : ∀ k, t = some k → ∀ c, (s.context k).channel = some c → c = channel) : s.FencePassed f := by
          refine ⟨fun _ channel' target' t' hpay' ht' => ?_, fun hne => absurd hcode hne⟩
          rw [hpay] at hpay'
          cases hpay'
          rw [ht] at ht'
          cases ht'
          exact ⟨hfree, hheld⟩
        split
        next other hother =>
          split
          · exact K.respond h ..
          next heq =>
            refine hgo (hpassed fun k hk c hc => ?_)
            rw [hk, Option.bind_some, hc] at hother
            cases hother
            exact not_not.1 heq
        next hnone =>
          refine hgo (hpassed fun k hk c hc => ?_)
          rw [hk, Option.bind_some, hc] at hnone
          cases hnone
  · exact K.respond h ..

/-- SET_CHANNEL's checks establish what its fence needs. -/
theorem setChannelBody {f : Frame} (hf : s.mgmt.inHand = some f) (hcode : f.code = codeSetChannel) : P (setChannelBody f s) := by
  unfold Machine.setChannelBody
  split
  · exact K.respond h ..
  next p hp =>
    have hne : f.code ≠ codeMapChannel := by rw [hcode]; decide
    dsimp only
    split
    · exact K.respond h ..
    next hbound =>
      split
      · exact K.respond h ..
      next hfree =>
        have hpassed : s.FencePassed f := by
          refine ⟨fun hc => absurd hc hne, fun _ q hq hm => ?_⟩
          rw [hp] at hq
          cases hq
          exact ⟨Option.isSome_iff_ne_none.2 fun hn => hbound ⟨hm, hn⟩, Bool.eq_false_iff.2 fun hany => hfree ⟨hm, hany⟩⟩
        split
        next h0 =>
          have hfinish := K.finishFenced s f hf (.inr hcode) hpassed (fun k hk => ?_) h
          · rwa [State.finishFenced, if_neg hne, hp] at hfinish
          · rw [State.fenceTarget_settings hcode hp] at hk
            cases hk
            exact h0
        next => exact K.fence s f _ hf hpassed h

theorem openLeaseBody (f : Frame) : P (openLeaseBody f s) := by
  unfold Machine.openLeaseBody
  split
  · split
    · exact K.respond h ..
    · exact K.quietly h (t := s.openLease _) (by constructor <;> simp) _ _ _
  · split
    · exact K.quietly h (.renewLease s) _ _ _
    · exact K.respond h ..

theorem closeLeaseChecked (f : Frame) : P (closeLeaseChecked f s) := by
  unfold Machine.closeLeaseChecked
  split
  · exact K.respond h ..
  · exact K.quietly h (.endLease s) _ _ _

theorem stageKnotsChecked (f : Frame) : P (stageKnotsChecked f s) := by
  unfold Machine.stageKnotsChecked
  split
  · split
    · exact K.respond h ..
    · split
      · exact K.respond h ..
      · exact K.quietly h (by constructor <;> simp) _ _ _
  · exact K.respond h ..

theorem clearStagingChecked (f : Frame) : P (clearStagingChecked f s) := by
  unfold Machine.clearStagingChecked
  split
  · exact K.respond h ..
  · exact K.quietly h (by constructor <;> simp) _ _ _

theorem readStagingChecked (f : Frame) : P (readStagingChecked f s) := by
  unfold Machine.readStagingChecked
  split
  · dsimp only
    split <;> exact K.respond h ..
  · exact K.respond h ..

theorem writePageChecked (f : Frame) : P (writePageChecked f s) := by
  unfold Machine.writePageChecked
  split
  · exact K.respond h ..
  · split
    · exact K.respond h ..
    · split
      · exact K.quiet _ _ (.startWrite s f _) h
      · split <;> exact K.respond h ..

/-- A definition that has passed its checks names an EMPTY curve. -/
theorem defineCurveChecked {f : Frame} (hf : s.mgmt.inHand = some f) : P (defineCurveChecked f s) := by
  unfold Machine.defineCurveChecked
  split
  · exact K.respond h ..
  next d hd => exact K.startReadBack s f _ hf (fun _ => State.checkDefinition_empty hd) h

theorem readKnotsBody {f : Frame} (hf : s.mgmt.inHand = some f) : P (readKnotsBody f s) := by
  unfold Machine.readKnotsBody
  split
  · split
    · exact K.respond h ..
    · split
      · exact K.respond h ..
      · dsimp only
        split
        · exact K.respond h ..
        · split
          · exact K.respond h ..
          · exact K.startReadBack s f _ hf (fun hne => absurd rfl hne) h
  · exact K.respond h ..

theorem getCurveBody (f : Frame) : P (getCurveBody f s) := by
  unfold Machine.getCurveBody
  split <;> exact K.respond h ..

theorem getChannelBody (f : Frame) : P (getChannelBody f s) := by
  unfold Machine.getChannelBody
  split <;> exact K.respond h ..

theorem deleteCurveBody {f : Frame} (hf : s.mgmt.inHand = some f) : P (deleteCurveBody f s) := by
  unfold Machine.deleteCurveBody
  split
  · exact K.respond h ..
  · dsimp only
    split
    · exact K.respond h ..
    · exact K.respond h ..
    · exact K.respond h ..
    next hb =>
      split
      · exact K.respond h ..
      next hr => exact K.respond (K.deleteCurve s f _ hf hb (not_not.1 hr) h) ..

theorem bindChannelsBody {f : Frame} (hf : s.mgmt.inHand = some f) : P (bindChannelsBody f s) := by
  unfold Machine.bindChannelsBody
  split
  · exact K.respond h ..
  next hv =>
    dsimp only
    split
    · exact K.respond h ..
    · exact K.respond (K.bindNow s f _ hf hv h) ..

theorem prepareBindBody {f : Frame} (hf : s.mgmt.inHand = some f) (hl : prepareBindLength f.payload = true) : P (prepareBindBody f s) := by
  unfold Machine.prepareBindBody
  split
  next tag rest hpay =>
    split
    · exact K.respond h ..
    · split
      · exact K.respond h ..
      next hnone =>
        split
        · exact K.respond h ..
        next hv =>
          have hlen : (rawPairsOf rest).length ≤ 8 := by
            rw [hpay] at hl
            simp only [prepareBindLength, List.length_cons, Bool.and_eq_true, decide_eq_true_eq] at hl
            rw [rawPairsOf_length]
            omega
          exact K.respond (K.prepare s f _ tag hf hnone hlen hv h) ..
  · exact K.respond h ..

theorem applyBindBody {f : Frame} (hf : s.mgmt.inHand = some f) : P (applyBindBody f s) := by
  unfold Machine.applyBindBody
  split
  · exact K.respond h ..
  next b hb =>
    split
    · exact K.respond (K.applyPending s f b hf hb h) ..
    · exact K.respond h ..

theorem cancelBindBody {f : Frame} (hf : s.mgmt.inHand = some f) : P (cancelBindBody f s) := by
  unfold Machine.cancelBindBody
  split
  · exact K.respond h ..
  next b hb =>
    split
    · exact K.respond (K.cancelPending s f b hf hb h) ..
    · exact K.respond h ..

theorem applyBindBroadcastBody {f : Frame} (hf : s.mgmt.inHand = some f) : P (applyBindBroadcastBody f s) := by
  unfold Machine.applyBindBroadcastBody
  split
  next b hb =>
    split
    · exact K.quiet _ _ (.leave _) (K.applyPending s f b hf hb h)
    · exact K.quiet _ _ (.applyMiss s) h
  · exact K.quiet _ _ (.applyMiss s) h

theorem cancelBindBroadcastBody {f : Frame} (hf : s.mgmt.inHand = some f) : P (cancelBindBroadcastBody f s) := by
  unfold Machine.cancelBindBroadcastBody
  split
  next b hb =>
    split
    · exact K.quiet _ _ (.leave _) (K.cancelPending s f b hf hb h)
    · exact K.quiet _ _ (.applyMiss s) h
  · exact K.quiet _ _ (.applyMiss s) h

theorem ackNoticesBody (f : Frame) : P (ackNoticesBody f s) := by
  unfold Machine.ackNoticesBody
  split
  · split
    · exact K.respond h ..
    · exact K.quietly h (by constructor <;> simp) _ _ _
  · exact K.respond h ..

theorem readCountersBody (f : Frame) : P (readCountersBody f s) := by
  unfold Machine.readCountersBody
  split
  · split
    · exact K.respond h ..
    · split
      · exact K.respond h ..
      · exact K.quietly h (t := s.clearScope ..) (by constructor <;> simp) _ _ _
  · exact K.respond h ..

/-! ### Periods, takings and timers -/

theorem accessPeriod : P s.accessPeriod := by
  refine State.accessPeriod_keeps K.endConversion K.finishReadBack (fun t => K.quiet _ _ (.completeWrite t)) (fun t ht => ?_) h
  have hacc : ∀ g, P (t.access g) := fun g =>
    match g with
    | some (.unit u) => K.grantUnit t u ht
    | some (.other .readBack) => K.grantReadBack t ht
    | some (.other .pageWrite) => K.quiet _ _ (.grantPageWrite t) ht
    | none => ht
  exact K.quiet (t.access (t.store.arbiter.choose t.claims)) _ ⟨rfl, rfl, rfl, rfl, .refl _, rfl, rfl⟩ (hacc _)

theorem passUntil (done : State → Bool) (n : Nat) : P (s.passUntil done n) :=
  State.passUntil_keeps (fun _ ht => K.accessPeriod ht) done n h

theorem completeDefine : P s.completeDefine := by
  unfold State.completeDefine
  split
  · exact K.finishReadBack _ (K.passUntil h ..)
  · exact h

theorem tick : P s.tick := by
  have hcount (t : State) (ht : P t) : P t.countLease := K.quiet _ _ (.countLease t) ht
  refine K.quiet s.tickLease _ (.tickRetry _) ?_
  unfold State.tickLease
  split
  · exact hcount _ (K.completeDefine h)
  · exact hcount _ h

theorem conversionEnd (unit : Nat) : NextIs (execConversionEnd unit s) P := by
  unfold execConversionEnd
  split
  · exact nextIs_ite (fun _ => h) fun _ => K.endConversion _ _ (K.passUntil h ..)
  · exact h

theorem dPortTake {use : Frame → State → State} (huse : ∀ (f : Frame) (t : State), t.Quiet (use f t)) : P (s.dPortTake use) := by
  unfold State.dPortTake
  split
  · exact h
  next x _ =>
    split
    · exact h
    next f taken ht =>
      have hused : P ((use f taken).pointPast x) :=
        K.quiet s _ (((State.takeFrom_quiet ht).trans (huse f taken)).trans (.pointPast _ x)) h
      unfold State.fillPlace
      split
      · exact K.enterCq _ hused
      · split
        · exact K.quiet _ _ (.classifyData _) hused
        · exact hused
      · exact K.quiet _ _ (.placePosted _) hused
      · exact hused

theorem upQueueTake : NextIs (execUpQueueTake s) P := by
  unfold execUpQueueTake
  split
  · exact nextIs_ite (fun _ => K.quiet _ _ (by constructor <;> simp) h) fun _ => h
  · exact h

theorem upQueueDiscard : NextIs (execUpQueueDiscard s) P := by
  unfold execUpQueueDiscard
  split
  · exact nextIs_ite (fun _ => h) fun _ => K.quiet _ _ (by constructor <;> simp) h
  · exact h

theorem carrierLoss (p : Port) : NextIs (execCarrierLoss p s) P := by
  unfold execCarrierLoss
  split
  · exact K.quiet _ _ (.leaveUp s p) h
  · exact K.quiet _ _ (.setPort s p _) h
  · exact h

end KeptByEvents

/-! ### LOOKUP -/

/-- What LOOKUP comes to: a next state that has the condition, or the one fault, in a state with a COND context that has no curve (log 17). -/
theorem KeptByEvents.lookup {P : State → Prop} (K : KeptByEvents P) {s : State} (h : P s) :
    NextIs (execLookup s) P ∨
      execLookup s = .fault .condWithoutCurve ∧ ∃ k, (s.context k).mode = .cond ∧ (s.context k).curve = none := by
  unfold execLookup
  split
  next f rest k i hr =>
    obtain ⟨hmode, hslot⟩ := State.lookupReady_slot hr
    have htaken : P { s with uPort := { s.uPort with buffer := rest } } := K.quiet s _ (by constructor <;> simp) h
    dsimp only
    split
    · exact .inl (K.quiet _ _ (.countContext _ _ _) htaken)
    next gap _ =>
      split
      next c hc =>
        have hgap := State.Quiet.countGap { s with uPort := { s.uPort with buffer := rest } } k f.addr gap
        exact .inl (K.startConversions _ (K.occupy _ k i c f ((congrArg (·.slots[i]) hgap.conditioner).trans hslot) ((congrArg Context.curve (hgap.context k)).trans hc)
          (K.quiet _ _ hgap htaken)))
      next hc => exact .inr ⟨rfl, k, hmode, hc⟩
  next => exact .inl h

/-! ### Every command -/

/-- What a command comes to: a next state that has the condition, or LOOKUP's fault. -/
def Follows (P : State → Prop) (c : Instr) (o : Host.Outcome State Fault Refusal) : Prop :=
  match o with
  | .next t => P t
  | .fault r => c = .lookup ∧ r = .condWithoutCurve
  | .refused _ => False

theorem follows_of_nextIs {P : State → Prop} {c : Instr} {o : Host.Outcome State Fault Refusal} (h : NextIs o P) : Follows P c o := by
  cases o with
  | next t => exact h
  | fault r => exact h.elim
  | refused r => exact h.elim

/-- Every command keeps what every event keeps; a command classifier taking, which may use a free value, is given apart. -/
theorem KeptByEvents.exec {P : State → Prop} (K : KeptByEvents P) {s : State} (h : P s) (c : Instr)
    (hclassify : c = .commandClassifierTake → P s.classifyCommand) : Follows P c (exec c s) := by
  cases c with
  | lookup =>
    obtain hn | ⟨e, -⟩ := K.lookup h
    · exact follows_of_nextIs hn
    · show Follows P _ (execLookup s)
      rw [e]
      exact ⟨rfl, rfl⟩
  | commandClassifierTake => exact hclassify rfl
  | resetnRelease => exact K.restart s h
  | carrierDetect p => exact follows_of_nextIs (nextIs_ite (fun _ => K.quiet _ _ (.setPort s p _) h) fun _ => h)
  | alignmentAchieved p =>
    exact follows_of_nextIs (nextIs_ite (fun _ => K.quiet s _ ((State.Quiet.setPort s p _).trans (.raise _ _ _ _)) h) fun _ => h)
  | carrierLoss p => exact follows_of_nextIs (K.carrierLoss h p)
  | frameArrival p run => exact follows_of_nextIs (nextIs_ite (fun _ => K.quiet _ _ (.arrive s p run) h) fun _ => h)
  | dataClassifierTake => exact K.quiet _ _ (.classifyData s) h
  | conversionEnd unit => exact follows_of_nextIs (K.conversionEnd h unit)
  | cqEntry => exact K.enterCq _ h
  | fenceApply => exact K.settleFence _ h
  | unknownCommand => exact follows_of_nextIs (K.command h _ _ fun f _ _ _ _ ht => K.respond ht f _ _)
  | ping => exact follows_of_nextIs (K.command h _ _ fun f _ _ _ _ ht => K.respond ht f _ _)
  | getStatus => exact follows_of_nextIs (K.command h _ _ fun f _ _ _ _ ht => K.getStatusBody ht f)
  | setParam => exact follows_of_nextIs (K.command h _ _ fun f _ _ _ _ ht => K.setParamBody ht f)
  | resetNodeSoft => exact follows_of_nextIs (K.command h _ _ fun f _ _ _ _ ht => K.resetNodeBody ht f)
  | resetNodeFull => exact follows_of_nextIs (K.command h _ _ fun f _ _ _ _ ht => K.resetNodeBody ht f)
  | mapChannel => exact follows_of_nextIs (K.command h _ _ fun _ _ hf ha _ ht => K.mapChannelBody ht hf (beq_iff_eq.1 ha))
  | setChannel => exact follows_of_nextIs (K.command h _ _ fun _ _ hf ha _ ht => K.setChannelBody ht hf (beq_iff_eq.1 ha))
  | getChannel => exact follows_of_nextIs (K.command h _ _ fun f _ _ _ _ ht => K.getChannelBody ht f)
  | openLease => exact follows_of_nextIs (K.command h _ _ fun f _ _ _ _ ht => K.openLeaseBody ht f)
  | stageKnots => exact follows_of_nextIs (K.command h _ _ fun f _ hf _ _ ht => K.leaseCheck ht hf _ fun _ _ hu => K.stageKnotsChecked hu f)
  | clearStaging => exact follows_of_nextIs (K.command h _ _ fun f _ hf _ _ ht => K.leaseCheck ht hf _ fun _ _ hu => K.clearStagingChecked hu f)
  | readStaging => exact follows_of_nextIs (K.command h _ _ fun f _ hf _ _ ht => K.leaseCheck ht hf _ fun _ _ hu => K.readStagingChecked hu f)
  | writePage => exact follows_of_nextIs (K.command h _ _ fun f _ hf _ _ ht => K.leaseCheck ht hf _ fun _ _ hu => K.writePageChecked hu f)
  | pageWriteCompletion => exact follows_of_nextIs (nextIs_ite (fun _ => K.quiet _ _ (.completeWrite _) (K.passUntil h ..)) fun _ => h)
  | defineCurve => exact follows_of_nextIs (K.command h _ _ fun _ _ hf _ _ ht => K.leaseCheck ht hf _ fun _ hg hu => K.defineCurveChecked hu hg)
  | defineCurveCheckDone => exact K.completeDefine h
  | closeLease => exact follows_of_nextIs (K.command h _ _ fun f _ hf _ _ ht => K.leaseCheck ht hf _ fun _ _ hu => K.closeLeaseChecked hu f)
  | leaseExpiry => exact follows_of_nextIs (nextIs_ite (fun _ => K.tick h) fun _ => h)
  | getCurve => exact follows_of_nextIs (K.command h _ _ fun f _ _ _ _ ht => K.getCurveBody ht f)
  | readKnots => exact follows_of_nextIs (K.command h _ _ fun _ _ hf _ _ ht => K.readKnotsBody ht hf)
  | readKnotsDone => exact follows_of_nextIs (nextIs_ite (fun _ => K.finishReadBack _ (K.passUntil h ..)) fun _ => h)
  | deleteCurve => exact follows_of_nextIs (K.command h _ _ fun _ _ hf _ _ ht => K.deleteCurveBody ht hf)
  | bindChannels => exact follows_of_nextIs (K.command h _ _ fun _ _ hf _ _ ht => K.bindChannelsBody ht hf)
  | prepareBind => exact follows_of_nextIs (K.command h _ _ fun _ _ hf _ hl ht => K.prepareBindBody ht hf hl)
  | applyBind => exact follows_of_nextIs (K.command h _ _ fun _ _ hf _ _ ht => K.applyBindBody ht hf)
  | applyBindBroadcast => exact follows_of_nextIs (K.broadcastCopy h _ fun _ hf => K.applyBindBroadcastBody h hf)
  | cancelBind => exact follows_of_nextIs (K.command h _ _ fun _ _ hf _ _ ht => K.cancelBindBody ht hf)
  | cancelBindBroadcast => exact follows_of_nextIs (K.broadcastCopy h _ fun _ hf => K.cancelBindBroadcastBody h hf)
  | ackNotices => exact follows_of_nextIs (K.command h _ _ fun f _ _ _ _ ht => K.ackNoticesBody ht f)
  | resumeNotices => exact follows_of_nextIs (K.command h _ _ fun f _ _ _ _ ht => K.quietly ht (by constructor <;> simp) f _ _)
  | readCounters => exact follows_of_nextIs (K.command h _ _ fun f _ _ _ _ ht => K.readCountersBody ht f)
  | noticeRetryExpiry => exact follows_of_nextIs (nextIs_ite (fun _ => K.tick h) fun _ => h)
  | dPortTaking => exact follows_of_nextIs (nextIs_ite (fun _ => K.dPortTake h fun _ _ => by constructor <;> simp [State.sendDown]) fun _ => h)
  | dPortDiscardTaking =>
    exact follows_of_nextIs (nextIs_ite (fun _ => h) fun _ => K.dPortTake h fun _ _ => by constructor <;> simp [State.discardDown])
  | frameSent p => exact K.quiet _ _ (.setPort s p _) h
  | upQueueTake => exact follows_of_nextIs (K.upQueueTake h)
  | upQueueDiscard => exact follows_of_nextIs (K.upQueueDiscard h)
  | postedResponsePlaced => exact K.quiet _ _ (.placePosted s) h
  | millisecondTick => exact K.tick h

end Sys2Proof.Machine
end

section
/-! Which outcomes a command has, and what it leaves of the model's own fields: O2. -/

namespace Sys2Proof.Machine

@[simp] theorem State.fence_pending (s : State) (k : ContextId) : (s.fence k).pending = s.pending := rfl
@[simp] theorem State.fence_fresh (s : State) (k : ContextId) : (s.fence k).fresh = s.fresh := rfl
@[simp] theorem State.resetSoft_pending (s : State) (f : Frame) : (s.resetSoft f).pending = s.pending := rfl
@[simp] theorem State.resetSoft_fresh (s : State) (f : Frame) : (s.resetSoft f).fresh = s.fresh := rfl

/-- The queue and the counter of free values are those of `s`. -/
def State.KeepsQueue (s t : State) : Prop := t.pending = s.pending ∧ t.fresh = s.fresh

theorem State.keepsQueue_kept (s : State) : KeptByEvents s.KeepsQueue := by
  constructor
  case quiet => exact fun _ _ hq ⟨hp, hf⟩ => ⟨hq.pending.trans hp, hq.fresh.trans hf⟩
  all_goals
    intros
    simpa [State.KeepsQueue]

/-- A command classifier taking advances the counter of free values by one, or leaves it. -/
theorem State.classifyCommand_fresh (s : State) : s.classifyCommand.fresh = s.fresh ∨ s.classifyCommand.fresh = s.fresh + 1 := by
  unfold State.classifyCommand
  split
  · exact .inl rfl
  next f rest _ =>
    dsimp only
    split
    · exact .inl rfl
    · exact .inl (by simp)
    · rw [State.takeUp_eq]
      split <;> exact .inl (by simp)
    · rw [State.takeUp_eq]
      split <;> exact .inl rfl
    · obtain e | e := s.takeStray_cases { s with dPort := { s.dPort with buffer := rest } } f <;> rw [e]
      · exact .inr rfl
      · split
        · exact .inr rfl
        · exact .inl rfl
    · rw [State.takeUp_eq]
      split
      · unfold State.enumerate
        dsimp only
        split
        · exact .inr rfl
        · exact .inl rfl
      · exact .inl rfl

/-- Settles O2: every event keeps the queue and the counter of free values, which a command classifier taking alone advances. -/
theorem execOutcomes : Obligations.ExecOutcomes := by
  intro c s
  by_cases hc : c = .commandClassifierTake
  · subst hc
    exact ⟨by simp, s.classifyCommand_fresh.imp_right fun h => ⟨rfl, h⟩⟩
  · have hfollows := s.keepsQueue_kept.exec ⟨rfl, rfl⟩ c fun h => absurd h hc
    revert hfollows
    cases exec c s with
    | next t => exact fun ⟨hp, hf⟩ => ⟨hp, .inl hf⟩
    | fault r => exact id
    | refused r => exact id

end Sys2Proof.Machine
end

section
/-! The channel table: what MAP_CHANNEL, SET_CHANNEL and a bind make of it, and that map, back-references and the curves of COND contexts stay as chapter 02 has
them: O58. -/

namespace Sys2Proof.Machine

/-! ### What the channel commands make of the table -/

@[simp] theorem State.context_setEntry (s : State) (channel : Byte) (t : Option ContextId) (k : ContextId) :
    ({ s with table := s.table.setEntry channel t } : State).context k = s.context k := rfl

@[simp] theorem State.context_countDiscard (s : State) (j : ContextId) (n : Nat) (k : ContextId) : (s.countDiscard j n).context k = s.context k := rfl

/-- MAP_CHANNEL writes the channel's map entry and no other (02 R31). -/
theorem State.applyMap_lookup (s : State) (channel : Byte) (t : Option ContextId) (c : Byte) :
    (s.applyMap channel t).table.lookup c = if channel = c then t else s.table.lookup c := by
  have hmap : (s.applyMap channel t).table.map = (s.table.setEntry channel t).map := by
    unfold State.applyMap
    cases s.table.lookup channel <;> cases t <;> rfl
  rw [← ChannelTable.lookup_setEntry]
  unfold ChannelTable.lookup
  rw [hmap]

/-- The target context gains the channel with its live state reset, the old one loses it, every other stays (02 R31, R32). -/
theorem State.applyMap_context (s : State) (channel : Byte) (t : Option ContextId) (k : ContextId) :
    (s.applyMap channel t).context k =
      if t = some k then { (s.context k).resetLive with channel := some channel }
      else if s.table.lookup channel = some k then { s.context k with channel := none } else s.context k := by
  unfold State.applyMap
  cases s.table.lookup channel with
  | none =>
    cases t with
    | none => simp
    | some j => by_cases hj : j = k <;> simp [hj]
  | some old =>
    have hold : ({ s with table := (s.modContext old fun c => { c with channel := none }).table.setEntry channel t } : State).context k =
        if old = k then { s.context k with channel := none } else s.context k := State.context_modContext ..
    cases t with
    | none => simpa using hold
    | some j =>
      by_cases hj : j = k
      · subst hj
        refine (State.context_modContext ..).trans ?_
        rw [if_pos rfl, State.context_countDiscard]
        refine (congrArg (fun c : Context => ({ c.resetLive with channel := some channel } : Context)) hold).trans ?_
        split <;> simp [Context.resetLive]
      · refine (State.context_modContext ..).trans ?_
        rw [if_neg hj, State.context_countDiscard]
        refine hold.trans ?_
        simp [hj]

theorem State.applySettings_context (s : State) (p : ChannelSettings) (k : ContextId) :
    (s.applySettings p).context k = if p.context = k then (s.context k).settings p else s.context k := by
  simp [State.applySettings]

@[simp] theorem State.applySettings_map (s : State) (p : ChannelSettings) : (s.applySettings p).table.map = s.table.map := rfl

/-! ### What a bind makes of the table -/

/-- The change a pair makes, if any: it names a context with its curve and the pair's, which differ (06 R114). -/
theorem State.changeOf_eq_some {s : State} {p : Pair} {x : Change} (h : s.changeOf p = some x) :
    s.table.lookup p.channel = some x.context ∧ x.old = (s.context x.context).curve ∧ x.new = p.curve := by
  unfold State.changeOf at h
  split at h
  next k hk =>
    split at h
    next => cases h
    next => cases h; exact ⟨hk, rfl, rfl⟩
  next => cases h

section
variable (t : ChannelTable) (l : List Change)

@[simp] theorem ChannelTable.bindAll_cons (x : Change) :
    t.bindAll (x :: l) = ({ t with contexts := vmod t.contexts x.context fun c => { c with curve := x.new } } : ChannelTable).bindAll l := rfl

@[simp] theorem ChannelTable.bindAll_map : (t.bindAll l).map = t.map := by
  induction l generalizing t with
  | nil => rfl
  | cons x l ih => rw [ChannelTable.bindAll_cons, ih]

/-- A bind writes a context's curve and nothing else of it; the curve is that of a change of the context. -/
theorem ChannelTable.bindAll_context (k : ContextId) :
    ∃ c, (t.bindAll l).contexts[k] = { t.contexts[k] with curve := c } ∧
      (c = t.contexts[k].curve ∨ ∃ x ∈ l, x.context = k ∧ x.new = c) := by
  induction l generalizing t with
  | nil => exact ⟨_, rfl, .inl rfl⟩
  | cons x l ih =>
    rw [ChannelTable.bindAll_cons]
    obtain ⟨c, hc, hor⟩ := ih { t with contexts := vmod t.contexts x.context fun c => { c with curve := x.new } }
    refine ⟨c, ?_, ?_⟩
    · rw [hc, vmod_getElem]
      split <;> rfl
    · rcases hor with rfl | ⟨y, hy, hk, rfl⟩
      · rw [vmod_getElem]
        split
        next hk => exact .inr ⟨x, List.mem_cons_self, hk, rfl⟩
        next => exact .inl rfl
      · exact .inr ⟨y, List.mem_cons_of_mem _ hy, hk, rfl⟩

end

/-- The pairs leave the curve of every context in COND (06 R117). -/
def State.SparesCond (s : State) (l : List Pair) : Prop :=
  ∀ p ∈ l, p.curve = none → ∀ k, s.table.lookup p.channel = some k → (s.context k).mode ≠ .cond

theorem State.SparesCond.same_table {s t : State} {l : List Pair} (h : s.SparesCond l) (ht : t.table = s.table) : t.SparesCond l := by
  intro p hp hn k hk
  rw [State.context, ht]
  exact h p hp hn k (ht ▸ hk)

theorem State.pendingKept_iff (s : State) : s.PendingKept ↔ ∀ b, s.bind = some b → s.SparesCond b.pairs := Iff.rfl

/-- What validation establishes of a pair list: distinct channels not seen before, and no pair that fails (06 R112). -/
theorem State.validate_eq_none {s : State} {seen : List Byte} {l : List RawPair} (h : s.validate seen l = none) :
    (l.map RawPair.channel).Nodup ∧ ∀ p ∈ l, p.channel ∉ seen ∧ ∃ seen', s.pairFault seen' p = none := by
  induction l generalizing seen with
  | nil => simp
  | cons p l ih =>
    unfold State.validate at h
    split at h
    next => cases h
    next hp =>
      obtain ⟨hnodup, hall⟩ := ih h
      have hseen : p.channel ∉ seen := by
        unfold State.pairFault at hp
        split at hp
        · cases hp
        · split at hp
          · cases hp
          next hs => simpa using hs
      refine ⟨List.nodup_cons.2 ⟨fun hmem => ?_, hnodup⟩, fun q hq => ?_⟩
      · obtain ⟨q, hq, e⟩ := List.mem_map.1 hmem
        exact (hall q hq).1 (by simp [e])
      · rcases List.mem_cons.1 hq with rfl | hq
        · exact ⟨hseen, seen, hp⟩
        · exact ⟨fun hmem => (hall q hq).1 (List.mem_append_left _ hmem), (hall q hq).2⟩

/-- A pair that passes names a mapped channel; its curve is neither EMPTY nor RETIRING, and a curve of NONE is not for a COND context (06 Table 6-3). -/
theorem State.pairFault_eq_none {s : State} {seen : List Byte} {p : RawPair} (h : s.pairFault seen p = none) :
    ∃ k, s.table.lookup p.channel = some k ∧
      (∀ c, p.pair.curve = some c → (s.curve c).state ≠ .empty ∧ (s.curve c).state ≠ .retiring) ∧
      (p.pair.curve = none → (s.context k).mode ≠ .cond) := by
  unfold State.pairFault at h
  split at h
  · cases h
  · split at h
    · cases h
    · split at h
      · cases h
      next k hk =>
        refine ⟨k, hk, ?_⟩
        split at h
        next c hc =>
          split at h
          · cases h
          next hs =>
            obtain ⟨he, hr⟩ := not_or.1 hs
            refine ⟨fun d hd => ?_, fun hn => ?_⟩
            · rw [hc] at hd
              cases hd
              exact ⟨he, hr⟩
            · rw [hc] at hn
              cases hn
        next hn =>
          refine ⟨fun d hd => ?_, fun _ => ?_⟩
          · rw [hn] at hd
            cases hd
          · split at h
            · cases h
            next hm => exact hm

theorem State.sparesCond_of_validate {s : State} {l : List RawPair} (h : s.validate [] l = none) : s.SparesCond (l.map RawPair.pair) := by
  intro p hp hn k hk
  obtain ⟨q, hq, rfl⟩ := List.mem_map.1 hp
  obtain ⟨-, seen, hf⟩ := (State.validate_eq_none h).2 q hq
  obtain ⟨j, hj, -, hmode⟩ := State.pairFault_eq_none hf
  have hkj : some j = some k := hj.symm.trans hk
  cases hkj
  exact hmode hn

/-! ### What agrees in channels, modes and bound curves is kept together -/

/-- Two states agree in all that the conditions of chapter 02 speak of, but for the waiting command. -/
structure State.SameChannels (s t : State) : Prop where
  map : t.table.map = s.table.map
  channel : ∀ k, (t.context k).channel = (s.context k).channel
  mode : ∀ k, (t.context k).mode = (s.context k).mode
  curve : ∀ k, (t.context k).curve = (s.context k).curve
  bind : t.bind = s.bind

theorem State.SameChannels.of_table {s t : State} (ht : t.table = s.table) (hb : t.bind = s.bind) : s.SameChannels t := by
  have hc (k : ContextId) : t.context k = s.context k := by unfold State.context; rw [ht]
  exact ⟨by rw [ht], fun k => by rw [hc], fun k => by rw [hc], fun k => by rw [hc], hb⟩

/-- Changing a context in other fields. -/
theorem State.SameChannels.modContext (s : State) (j : ContextId) {f : Context → Context}
    (hf : ∀ c, (f c).channel = c.channel ∧ (f c).mode = c.mode ∧ (f c).curve = c.curve) : s.SameChannels (s.modContext j f) := by
  constructor
  case map => rfl
  case bind => rfl
  all_goals
    intro k
    rw [State.context_modContext]
    split
    · simp [hf]
    · rfl

theorem State.SameChannels.trans {s t u : State} (h : s.SameChannels t) (h' : t.SameChannels u) : s.SameChannels u :=
  ⟨h'.map.trans h.map, fun k => (h'.channel k).trans (h.channel k), fun k => (h'.mode k).trans (h.mode k),
    fun k => (h'.curve k).trans (h.curve k), h'.bind.trans h.bind⟩

section
variable {s t : State} (e : s.SameChannels t)
include e

theorem State.SameChannels.lookup (c : Byte) : t.table.lookup c = s.table.lookup c := by
  unfold ChannelTable.lookup
  rw [e.map]

theorem State.FencePassed.same {f : Frame} (h : s.FencePassed f) : t.FencePassed f := by
  have hp : t.channelPending = s.channelPending := by funext c; unfold State.channelPending; rw [e.bind]
  have hn : t.channelPendingNone = s.channelPendingNone := by funext c; unfold State.channelPendingNone; rw [e.bind]
  unfold State.FencePassed
  simp only [hp, hn, e.channel, e.curve]
  exact h

end

/-- What chapter 02 has of map, back-references, COND contexts and pending pairs, whatever command waits. -/
structure State.BindingsKept (s : State) : Prop where
  linked : s.table.Linked
  bound : s.table.CondBound
  spared : s.PendingKept

theorem State.channelsKept_iff (s : State) : s.ChannelsKept ↔ s.BindingsKept ∧ s.FenceKept := by
  constructor
  · rintro ⟨hl, hb, hp, hf⟩
    exact ⟨⟨hl, hb, hp⟩, hf⟩
  · rintro ⟨⟨hl, hb, hp⟩, hf⟩
    exact ⟨hl, hb, hp, hf⟩

theorem State.BindingsKept.same {s t : State} (h : s.BindingsKept) (e : s.SameChannels t) : t.BindingsKept where
  linked c k := by
    rw [e.lookup]
    exact (h.linked c k).trans (by rw [← State.context, ← State.context, e.channel])
  bound k hm := by
    have hb := h.bound k
    rw [← State.context] at hm hb ⊢
    rw [e.curve]
    exact hb (e.mode k ▸ hm)
  spared b hb p hp hn k hk := by
    rw [e.mode]
    exact h.spared b (e.bind ▸ hb) p hp hn k (e.lookup _ ▸ hk)

theorem State.pendingKept_of_none {s : State} (h : s.bind = none) : s.PendingKept := fun b hb => by
  rw [h] at hb
  cases hb

/-- The table as it was, with pairs pending that spare every COND context. -/
theorem State.BindingsKept.withPending {s t : State} (h : s.BindingsKept) (ht : t.table = s.table) (hp : t.PendingKept) : t.BindingsKept :=
  ⟨ht ▸ h.linked, ht ▸ h.bound, hp⟩

/-- The engine waits for no fence that it did not wait for before. -/
theorem State.FenceKept.same {s t : State} (h : s.FenceKept) (e : s.SameChannels t)
    (hw : t.mgmt.state = .fenceWait → s.mgmt.state = .fenceWait ∧ t.mgmt.current = s.mgmt.current) : t.FenceKept := by
  rw [State.fenceKept_iff] at h ⊢
  intro hs f hf
  obtain ⟨hs', hc⟩ := hw hs
  exact (h hs' f (hc ▸ hf)).same e

theorem State.fenceKept_of_ne {s : State} (h : s.mgmt.state ≠ .fenceWait) : s.FenceKept := fun hs => absurd hs h

theorem State.ChannelsKept.same {s t : State} (h : s.ChannelsKept) (e : s.SameChannels t)
    (hw : t.mgmt.state = .fenceWait → s.mgmt.state = .fenceWait ∧ t.mgmt.current = s.mgmt.current) : t.ChannelsKept := by
  obtain ⟨hb, hf⟩ := (State.channelsKept_iff s).1 h
  exact (State.channelsKept_iff t).2 ⟨hb.same e, hf.same e hw⟩

/-- Table, pending set and engine as they were. -/
theorem State.ChannelsKept.same_table {s t : State} (h : s.ChannelsKept) (ht : t.table = s.table) (hb : t.bind = s.bind)
    (hm : t.mgmt = s.mgmt) : t.ChannelsKept :=
  h.same (.of_table ht hb) fun hs => ⟨hm ▸ hs, by rw [hm]⟩

/-- Changing a context in other fields than its channel, mode and bound curve. -/
theorem State.ChannelsKept.modContext {s : State} (h : s.ChannelsKept) (j : ContextId) {f : Context → Context}
    (hf : ∀ c, (f c).channel = c.channel ∧ (f c).mode = c.mode ∧ (f c).curve = c.curve) : (s.modContext j f).ChannelsKept :=
  h.same (.modContext s j hf) fun hw => ⟨hw, rfl⟩

/-- Bindings kept by an event of a command in hand, whose engine waits for no fence. -/
theorem State.BindingsKept.channelsKept {s : State} (h : s.BindingsKept) (hs : s.mgmt.state ≠ .fenceWait) : s.ChannelsKept :=
  (State.channelsKept_iff s).2 ⟨h, State.fenceKept_of_ne hs⟩

/-! ### The events of the channel commands -/

/-- An engine that has answered waits for no fence. -/
theorem Management.respond_not_fenceWait (m : Management) (f : Frame) (st : Status) (p : List Byte) :
    (m.respond f st p).state ≠ .fenceWait := by
  unfold Management.respond Management.offer Management.leave
  dsimp only
  split
  · split <;> simp
  · simp

/-- A channel mapped to a context that is free or has it already (02 R31). -/
theorem State.BindingsKept.applyMap {s : State} (h : s.BindingsKept) {channel : Byte} {t : Option ContextId}
    (hfree : s.channelPending channel = false) (hheld : ∀ k, t = some k → ∀ c, (s.context k).channel = some c → c = channel) :
    (s.applyMap channel t).BindingsKept := by
  have hlink (c : Byte) (k : ContextId) : s.table.lookup c = some k ↔ (s.context k).channel = some c := h.linked c k
  have hother (k : ContextId) : ((s.applyMap channel t).context k).mode = (s.context k).mode ∧
      ((s.applyMap channel t).context k).curve = (s.context k).curve := by
    rw [State.applyMap_context]
    split
    · exact ⟨rfl, rfl⟩
    · split <;> exact ⟨rfl, rfl⟩
  constructor
  case linked =>
    intro c k
    show _ ↔ ((s.applyMap channel t).context k).channel = some c
    rw [State.applyMap_lookup, State.applyMap_context]
    by_cases htk : t = some k
    · rw [if_pos htk]
      by_cases hc : channel = c
      · simp [hc, htk]
      · rw [if_neg hc, hlink]
        exact iff_of_false (fun hk => hc (hheld k htk c hk).symm) (by simpa using hc)
    · rw [if_neg htk]
      by_cases hold : s.table.lookup channel = some k
      · rw [if_pos hold]
        refine iff_of_false ?_ (by simp)
        split
        · exact htk
        next hc =>
          rw [hlink, (hlink channel k).1 hold]
          simpa using hc
      · rw [if_neg hold, ← hlink]
        split
        next hc => exact hc ▸ iff_of_false htk hold
        next => exact Iff.rfl
  case bound =>
    intro k hm
    obtain ⟨hmode, hcurve⟩ := hother k
    have hb := h.bound k
    rw [← State.context] at hm hb ⊢
    rw [hcurve]
    exact hb (hmode ▸ hm)
  case spared =>
    intro b hb p hp hn k hk
    rw [State.applyMap_bind] at hb
    have hne : channel ≠ p.channel := by
      rintro rfl
      have hpending : s.channelPending p.channel = true := by
        simp only [State.channelPending, hb, Option.elim_some, List.any_eq_true, beq_iff_eq]
        exact ⟨p, hp, rfl⟩
      rw [hfree] at hpending
      cases hpending
    rw [State.applyMap_lookup, if_neg hne] at hk
    rw [(hother k).1]
    exact h.spared b hb p hp hn k hk

/-- A configuration whose mode is COND only with a curve bound that no pending pair takes (02 R34). -/
theorem State.BindingsKept.applySettings {s : State} (h : s.BindingsKept) {p : ChannelSettings}
    (hp : p.mode = .cond → (s.context p.context).curve.isSome = true ∧ (s.context p.context).channel.any s.channelPendingNone = false) :
    (s.applySettings p).BindingsKept := by
  have hsame (k : ContextId) : ((s.applySettings p).context k).channel = (s.context k).channel ∧
      ((s.applySettings p).context k).curve = (s.context k).curve := by
    rw [State.applySettings_context]
    split <;> exact ⟨rfl, rfl⟩
  have hmode (k : ContextId) : ((s.applySettings p).context k).mode = if p.context = k then p.mode else (s.context k).mode := by
    rw [State.applySettings_context]
    split <;> rfl
  constructor
  case linked =>
    intro c k
    show _ ↔ ((s.applySettings p).context k).channel = some c
    rw [(hsame k).1]
    exact h.linked c k
  case bound =>
    intro k hm
    have hb := h.bound k
    rw [← State.context] at hm hb ⊢
    rw [(hsame k).2]
    rw [hmode] at hm
    split at hm
    next hk => exact hk ▸ (hp hm).1
    next => exact hb hm
  case spared =>
    intro b hb q hq hn k hk
    rw [State.applySettings_bind] at hb
    have hk' : s.table.lookup q.channel = some k := hk
    rw [hmode]
    split
    next hpk =>
      intro hm
      have hany := (hp hm).2
      have hlink : (s.context k).channel = some q.channel := (h.linked q.channel k).1 hk'
      rw [hpk, hlink] at hany
      have hpending : s.channelPendingNone q.channel = true := by
        simp only [State.channelPendingNone, hb, Option.elim_some, List.any_eq_true, Bool.and_eq_true, beq_iff_eq, Option.isNone_iff_eq_none]
        exact ⟨q, hq, rfl, hn⟩
      rw [Option.any_some, hpending] at hany
      cases hany
    next => exact h.spared b hb q hq hn k hk'

/-- A fenced command whose checks hold is applied and answered, or, ill-formed, left. -/
theorem State.BindingsKept.finishFenced {s : State} (h : s.BindingsKept) (hf : s.FenceKept) {f : Frame} (hp : s.FencePassed f) :
    (s.finishFenced f).ChannelsKept := by
  obtain ⟨hmap, hset⟩ := hp
  have hanswered {t : State} (ht : t.BindingsKept) (st : Status) (l : List Byte) : (t.respond f st l).ChannelsKept :=
    (ht.same (t := t.respond f st l) (.of_table (by simp) (by simp))).channelsKept (Management.respond_not_fenceWait _ _ _ _)
  have hleft : s.ChannelsKept := (State.channelsKept_iff s).2 ⟨h, hf⟩
  unfold State.finishFenced
  split
  next hc =>
    split
    next channel target hpay =>
      split
      next t ht =>
        obtain ⟨hfree, hheld⟩ := hmap hc channel target t hpay ht
        exact hanswered (h.applyMap hfree hheld) _ _
      next => exact hleft
    next => exact hleft
  next hc =>
    split
    next p hpay => exact hanswered (h.applySettings (hset hc p hpay)) _ _
    next => exact hleft

theorem State.sameChannels_setFence (s : State) (k : ContextId) (b : Bool) : s.SameChannels (s.setFence k b) :=
  .modContext s k fun _ => ⟨rfl, rfl, rfl⟩

/-- The waiting command and its context, when the fence is due (02 R37). -/
theorem State.fenceDue_eq_some {s : State} {f : Frame} {k : ContextId} (h : s.fenceDue = some (f, k)) :
    s.mgmt.state = .fenceWait ∧ s.mgmt.current = some f ∧ s.fenceTarget f = some k ∧ (s.context k).fenced = true ∧ (s.context k).inFlight = 0 := by
  unfold State.fenceDue at h
  split at h
  next hs =>
    split at h
    next g hg =>
      split at h
      next j hj =>
        split at h
        next hc =>
          cases h
          exact ⟨hs, hg, hj, hc.1, hc.2⟩
        next => cases h
      next => cases h
    next => cases h
  next => cases h

namespace State.ChannelsKept
variable {s : State} (h : s.ChannelsKept)
include h

theorem settleFence : s.settleFence.ChannelsKept := by
  unfold State.settleFence
  split
  next f k hd =>
    obtain ⟨hs, hc, -⟩ := State.fenceDue_eq_some hd
    have e := s.sameChannels_setFence k false
    obtain ⟨hb, hf⟩ := (State.channelsKept_iff _).1 (h.same e fun hw => ⟨hw, rfl⟩)
    exact hb.finishFenced hf (hf hs f hc)
  next => exact h

/-! ### The conditioning engine's events -/

theorem releaseSlot (i : SlotId) : (s.releaseSlot i).ChannelsKept := by
  unfold State.releaseSlot
  split
  next w _ =>
    have hunpin : (({ s with conditioner := s.conditioner.free i } : State).unpin w.curve).ChannelsKept :=
      h.same_table (by simp) (by simp) (by simp)
    exact (hunpin.modContext w.context (f := fun c => { c with inFlight := c.inFlight - 1 }) fun _ => ⟨rfl, rfl, rfl⟩).settleFence
  next => exact h

theorem enterCq : s.enterCq.ChannelsKept := by
  unfold State.enterCq
  split
  next i w f _ =>
    have hpush : ({ s with merger := { s.merger with cq := s.merger.cq ++ [(⟨f, w.context⟩ : CqEntry)] } } : State).ChannelsKept :=
      h.same_table rfl rfl rfl
    split
    · exact hpush.releaseSlot i
    · exact h
  · exact h

theorem startConversions : s.startConversions.ChannelsKept := h.same_table (by simp) (by simp) (by simp)

theorem occupy (k : ContextId) (i : SlotId) (c : CurveId) (f : Frame) : (s.occupy k i c f).ChannelsKept := by
  have hmod := h.modContext k (f := fun c => { c with expected := some (f.seq + 1), inFlight := c.inFlight + 1 }) fun _ => ⟨rfl, rfl, rfl⟩
  exact hmod.same_table rfl rfl rfl

theorem commit (w : WorkSlot) (r : Working) : (s.commit w r).ChannelsKept := by
  unfold State.commit
  have hmod := h.modContext w.context
    (f := fun c => { c with acc := r.acc, limits := c.limits.map fun l => { l with state := r.limits.elim l.state Limits.state } })
    fun _ => ⟨rfl, rfl, rfl⟩
  exact hmod.same_table (by simp) (by simp) (by simp)

theorem settleSlot (i : SlotId) (w : WorkSlot) (outputs : List Output) : (s.settleSlot i w outputs).ChannelsKept := by
  unfold State.settleSlot
  split
  · exact h.releaseSlot i
  · have hmod := h.modContext w.context (f := fun c => { c with outSeq := c.outSeq + 1 }) fun _ => ⟨rfl, rfl, rfl⟩
    have hready : (s.makeReady i w outputs).ChannelsKept := hmod.same_table rfl rfl rfl
    dsimp only
    split
    · exact hready.enterCq
    · exact hready

theorem endConversion (u : UnitId) : (s.endConversion u).ChannelsKept := by
  unfold State.endConversion
  split
  · split
    next b w _ =>
      have hidle : ((s.commit w b.work).idleUnit u).ChannelsKept := (h.commit w b.work).same_table rfl rfl rfl
      exact (hidle.settleSlot b.slot w b.work.outputs).startConversions
    · exact h
  · exact h

end State.ChannelsKept

/-! ### The bind unit's events -/

/-- The state a bind leaves before its release requests: the changes written and claimed. -/
theorem State.applyChanges_context (s : State) (l : List Pair) (k : ContextId) :
    ∃ c, (s.applyChanges (s.changes l)).context k = { s.context k with curve := c } ∧
      (c = (s.context k).curve ∨ ∃ p ∈ l, s.table.lookup p.channel = some k ∧ p.curve = c) := by
  obtain ⟨c, hc, hor⟩ := s.table.bindAll_context (s.changes l) k
  refine ⟨c, hc, hor.imp_right ?_⟩
  rintro ⟨x, hx, rfl, rfl⟩
  obtain ⟨p, hp, hchange⟩ := List.mem_filterMap.1 hx
  obtain ⟨hl, -, hnew⟩ := State.changeOf_eq_some hchange
  exact ⟨p, hp, hl, hnew.symm⟩

theorem State.lookup_applyChanges (s : State) (l : List Change) (c : Byte) : (s.applyChanges l).table.lookup c = s.table.lookup c := by
  show (s.table.bindAll l).lookup c = _
  unfold ChannelTable.lookup
  rw [ChannelTable.bindAll_map]

/-- Pairs that spare every COND context leave each a curve (06 R114). -/
theorem State.BindingsKept.applyChanges {s : State} (h : s.BindingsKept) {l : List Pair} (hl : s.SparesCond l) :
    (s.applyChanges (s.changes l)).BindingsKept where
  linked c k := by
    obtain ⟨d, hd, -⟩ := s.applyChanges_context l k
    rw [State.lookup_applyChanges]
    refine (h.linked c k).trans ?_
    rw [← State.context, ← State.context, hd]
  bound k hm := by
    obtain ⟨d, hd, hor⟩ := s.applyChanges_context l k
    rw [← State.context, hd] at hm ⊢
    rcases hor with rfl | ⟨p, hp, hk, rfl⟩
    · exact h.bound k hm
    · exact Option.isSome_iff_ne_none.2 fun hn => hl p hp hn k hk hm
  spared b hb p hp hn k hk := by
    obtain ⟨d, hd, -⟩ := s.applyChanges_context l k
    rw [State.lookup_applyChanges] at hk
    rw [hd]
    exact h.spared b (by simpa using hb) p hp hn k hk

/-- A read-back's end is quiet, or it is quiet after the definition of its curve (03 R57, 05 R105, R106). -/
theorem State.finishReadBack_quiet (s : State) :
    s.Quiet s.finishReadBack ∨ ∃ r, s.mgmt.readBack = some r ∧ r.purpose = .orderCheck none ∧
      s.finishReadBack = s.defineCurve r := by
  have hend (st : Status) (p : List Byte) : s.Quiet (s.endReadBack st p) := by
    unfold State.endReadBack
    split
    · exact State.Quiet.trans (t := { s with mgmt := { s.mgmt with readBack := none } }) (.withMgmt s ⟨fun hw => ⟨hw, rfl⟩, by simp⟩) (.respond _ _ _ _)
    · exact .refl s
  unfold State.finishReadBack
  split
  next r hr =>
    split
    · split
      · exact .inl (hend _ _)
      · exact .inl (hend _ _)
      next hp => exact .inr ⟨r, hr, hp, rfl⟩
    · exact .inl (.refl s)
  · exact .inl (.refl s)

theorem State.ChannelsKept.quiet {s t : State} (h : s.ChannelsKept) (e : s.Quiet t) : t.ChannelsKept :=
  h.same (.of_table e.table e.bind) e.mgmt.fence

/-- The end of the command in hand by a read-back enters no wait. -/
theorem State.endReadBack_eases (s : State) (st : Status) (p : List Byte) : s.mgmt.Eases (s.endReadBack st p).mgmt := by
  unfold State.endReadBack
  split
  · exact Management.Eases.trans (n := { s.mgmt with readBack := none }) ⟨fun hw => ⟨hw, rfl⟩, by simp⟩ (Management.respond_eases _ _ _ _)
  · exact .refl _

theorem State.ChannelsKept.finishReadBack {s : State} (h : s.ChannelsKept) : s.finishReadBack.ChannelsKept := by
  obtain hq | ⟨r, -, -, e⟩ := s.finishReadBack_quiet
  · exact h.quiet hq
  · rw [e]
    exact h.same (.of_table (by simp) (by simp)) (State.endReadBack_eases _ _ _).fence

/-- A part that a bind of a command in hand has changed, its engine as it was. -/
theorem State.BindingsKept.ofHand {s t : State} (h : t.BindingsKept) {f : Frame} (hf : s.mgmt.inHand = some f) (hm : t.mgmt = s.mgmt) :
    t.ChannelsKept :=
  h.channelsKept (by rw [hm, (Management.inHand_eq_some hf).1]; simp)

theorem State.reset_channelsKept : State.reset.ChannelsKept := by
  refine ⟨fun c k => ?_, fun k hm => ?_, fun b hb => ?_, fun hs => ?_⟩
  · show ChannelTable.reset.lookup c = some k ↔ (State.reset.context k).channel = some c
    simp [Context.reset]
  · rw [← State.context, State.reset_context] at hm
    cases hm
  · cases hb
  · cases hs

/-- Every event keeps what chapter 02 has of the channels. -/
theorem State.channelsKept_keptByEvents : KeptByEvents State.ChannelsKept where
  quiet _ _ e h := h.quiet e
  restart _ _ := State.reset_channelsKept.same_table rfl rfl rfl
  resetSoft s f h := by
    refine h.same ⟨by simp, fun k => ?_, fun k => ?_, fun k => ?_, rfl⟩ fun hw => by simp [State.resetSoft, Management.resetNode_eq] at hw
    all_goals
      rw [State.context_resetSoft]
      rfl
  fence s f k hf hp h := by
    have e : s.SameChannels (s.fence k) := (s.sameChannels_setFence k true).trans (.of_table rfl rfl)
    refine (State.channelsKept_iff _).2 ⟨((State.channelsKept_iff s).1 h).1.same e, fun _ g hg => ?_⟩
    have hfg : some f = some g := (Management.inHand_eq_some hf).2.2.symm.trans hg
    cases hfg
    exact hp.same e
  finishFenced s f _ _ hp _ h := by
    obtain ⟨hb, hf⟩ := (State.channelsKept_iff s).1 h
    exact hb.finishFenced hf hp
  settleFence _ h := h.settleFence
  enterCq _ h := h.enterCq
  occupy _ k i c f _ _ h := h.occupy k i c f
  startConversions _ h := h.startConversions
  endConversion _ u h := h.endConversion u
  finishReadBack _ h := h.finishReadBack
  grantUnit _ _ h := h.same_table (by simp) (by simp) (by simp)
  grantReadBack s h := by
    refine h.same (.of_table (by simp) (by simp)) ?_
    unfold State.grantReadBack
    split <;> exact fun hw => ⟨hw, rfl⟩
  startReadBack _ _ _ _ _ h := h.same (.of_table rfl rfl) fun hw => ⟨hw, rfl⟩
  deleteCurve _ _ _ _ _ _ h := h.same_table (by simp) (by simp) (by simp)
  bindNow s f l hf hv h := by
    have hb := ((State.channelsKept_iff s).1 h).1.applyChanges (State.sparesCond_of_validate hv)
    refine State.BindingsKept.ofHand ?_ hf (State.bindNow_mgmt s _)
    unfold State.bindNow
    exact hb.same (.of_table (by simp) (by simp))
  prepare s f l tag hf _ _ hv h := by
    have hspared : ({ s.reserve (l.map RawPair.pair) with bind := some ⟨tag, l.map RawPair.pair⟩ } : State).PendingKept := by
      intro b hb
      obtain rfl : ⟨tag, l.map RawPair.pair⟩ = b := Option.some.inj hb
      exact (State.sparesCond_of_validate hv).same_table (by simp)
    exact (((State.channelsKept_iff s).1 h).1.withPending (by simp) hspared).ofHand hf (by simp)
  applyPending s f b hf hb h := by
    obtain ⟨hbind, -⟩ := (State.channelsKept_iff s).1 h
    have hnone : ({ (s.applyChanges (s.changes b.pairs)).unreserve b.pairs with bind := none } : State).BindingsKept :=
      (hbind.applyChanges (hbind.spared b hb)).withPending (by simp) (State.pendingKept_of_none rfl)
    refine State.BindingsKept.ofHand ?_ hf (State.applyPending_mgmt s b)
    unfold State.applyPending
    exact hnone.same (.of_table (by simp) (by simp))
  cancelPending s f b hf _ h := by
    have hb := ((State.channelsKept_iff s).1 h).1.withPending (State.cancelPending_table s b) (State.pendingKept_of_none rfl)
    exact hb.ofHand hf (State.cancelPending_mgmt s b)

/-! ### Every step -/

/-- What every event keeps whatever the model's own fields are, a command classifier taking keeps. -/
theorem KeptByEvents.classifyCommand {P : State → Prop} (K : KeptByEvents P) (hfresh : ∀ s n, P s → P { s with fresh := n }) {s : State}
    (h : P s) : P s.classifyCommand :=
  hfresh { s.classifyCommand with fresh := s.fresh } s.classifyCommand.fresh (K.quiet _ _ s.classifyCommand_quiet h)

/-- A step keeps what every event keeps, whatever the model's own fields are. -/
theorem KeptByEvents.step {P : State → Prop} (K : KeptByEvents P) (hfresh : ∀ s n, P s → P { s with fresh := n })
    (hpending : ∀ s l, P s → P { s with pending := l }) {s t : State} (h : P s) (hstep : step s = .next t) : P t := by
  unfold Machine.step at hstep
  split at hstep
  · cases hstep
    exact K.accessPeriod h
  next c rest _ =>
    have hrest := hpending s rest h
    have hfollows := K.exec hrest c fun _ => K.classifyCommand hfresh hrest
    rw [hstep] at hfollows
    exact hfollows

/-- Settles O58: every event keeps the channels, and a lookup then finds the curve it needs, without which alone a step would stop. -/
theorem stepKeepsChannels : Obligations.StepKeepsChannels := by
  intro s h
  have K := State.channelsKept_keptByEvents
  refine ⟨fun t hstep => K.step (fun _ _ h => h) (fun _ _ h => h) h hstep, ?_⟩
  unfold step
  split
  · exact ⟨_, rfl⟩
  next c rest _ =>
    have hrest : ({ s with pending := rest } : State).ChannelsKept := h
    have hfollows := K.exec hrest c fun _ => K.classifyCommand (fun _ _ h => h) hrest
    revert hfollows
    cases hc : exec c { s with pending := rest } with
    | next t => exact fun _ => ⟨t, rfl⟩
    | refused r => exact fun hr => hr.elim
    | fault r =>
      rintro ⟨rfl, rfl⟩
      obtain hn | ⟨-, k, hm, hn⟩ := K.lookup hrest
      · exact absurd hn (by rw [show execLookup _ = _ from hc]; exact id)
      · have hsome := h.2.1 k hm
        rw [← State.context] at hsome
        rw [show s.context k = ({ s with pending := rest } : State).context k from rfl, hn] at hsome
        cases hsome

end Sys2Proof.Machine
end

section
/-! The counts of a descriptor, one lemma for each event: they equal what the part holds, and fit the descriptor's state (03 R48 to R55). -/

namespace Sys2Proof.Machine

/-! ### Counting in a vector -/

/-- What an entry's change does to a count. -/
theorem countP_vmod {α : Type} {n : Nat} (v : Vector α n) (i : Fin n) (f : α → α) (p : α → Bool) :
    (vmod v i f).toList.countP p + (if p v[i] then 1 else 0) = v.toList.countP p + if p (f v[i]) then 1 else 0 := by
  have hlen : i.val < v.toList.length := by simp
  have hget : v.toList[i.val] = v[i] := by simp
  unfold vmod
  rw [Vector.toList_set, List.countP_set hlen, hget]
  have hpos : p v[i] = true → 1 ≤ v.toList.countP p := fun hp =>
    List.countP_pos_iff.2 ⟨v[i], by rw [← hget]; exact List.getElem_mem hlen, hp⟩
  split
  next hp => have := hpos hp; omega
  next => omega

theorem countP_pos_of_getElem {α : Type} {n : Nat} (v : Vector α n) (i : Fin n) {p : α → Bool} (h : p v[i] = true) :
    1 ≤ v.toList.countP p := by
  have hlen : i.val < v.toList.length := by simp
  have hget : v.toList[i.val] = v[i] := by simp
  exact List.countP_pos_iff.2 ⟨v[i], by rw [← hget]; exact List.getElem_mem hlen, h⟩

/-- Vectors that agree entry by entry in what is counted. -/
theorem countP_congr_getElem {α : Type} {n : Nat} (v w : Vector α n) {p : α → Bool} (h : ∀ i : Fin n, p v[i] = p w[i]) :
    v.toList.countP p = w.toList.countP p := by
  have hmap : v.toList.map p = w.toList.map p := by
    refine List.ext_getElem (by simp) fun i hi _ => ?_
    have hin : i < n := by simpa using hi
    simpa using h ⟨i, hin⟩
  have hcount (u : Vector α n) : u.toList.countP p = (u.toList.map p).countP id := by rw [List.countP_map]; rfl
  rw [hcount v, hcount w, hmap]

/-! ### What the part holds -/

/-- The contexts bound to a curve (03 R51). -/
def ChannelTable.refsHeld (t : ChannelTable) (c : CurveId) : Nat := t.contexts.toList.countP fun k => k.curve == some c

/-- The slots that pin a curve (03 R54). -/
def Conditioner.pinsHeld (x : Conditioner) (c : CurveId) : Nat := x.slots.toList.countP fun w => w.any fun w => w.curve == c

/-- The slots that hold a context's frames (02 R29). -/
def Conditioner.framesHeld (x : Conditioner) (k : ContextId) : Nat := x.slots.toList.countP fun w => w.any fun w => w.context == k

/-- The pending pairs that name a curve (03 R53). -/
def reservationsHeld (b : Option PendingBind) (c : CurveId) : Nat := b.elim 0 fun b => naming b.pairs c

/-- A descriptor has these counts, and they fit its state. -/
def Curve.Tallies (d : Curve) (refs pins reservations : Nat) : Prop :=
  d.refs = refs ∧ d.pins = pins ∧ d.reservations = reservations ∧ d.CountsFit

/-- Every descriptor's counts are what the part holds, and fit its state (03 R48). -/
def State.CurvesTallied (s : State) : Prop :=
  ∀ c, (s.curve c).Tallies (s.table.refsHeld c) (s.conditioner.pinsHeld c) (reservationsHeld s.bind c)

theorem State.curvesTallied_iff (s : State) : s.CurvesTallied ↔ (∀ c, s.Counted c) ∧ ∀ c, (s.curve c).CountsFit := by
  constructor
  · intro h
    exact ⟨fun c => ⟨(h c).1, (h c).2.1, (h c).2.2.1⟩, fun c => (h c).2.2.2⟩
  · rintro ⟨hc, hf⟩ c
    obtain ⟨hr, hp, hn⟩ := hc c
    exact ⟨hr, hp, hn, hf c⟩

/-- Contexts bound as before. -/
theorem ChannelTable.refsHeld_congr {t u : ChannelTable} (h : ∀ k : ContextId, u.contexts[k].curve = t.contexts[k].curve) (c : CurveId) :
    u.refsHeld c = t.refsHeld c :=
  countP_congr_getElem u.contexts t.contexts fun k => by rw [h k]

/-- A slot written, of which the slot's old content and the new one say whether they pin a curve. -/
theorem Conditioner.pinsHeld_set {x y : Conditioner} {i : SlotId} {w : Option WorkSlot} (h : y.slots = vmod x.slots i fun _ => w) (c : CurveId) :
    y.pinsHeld c + (if x.slots[i].any fun w => w.curve == c then 1 else 0) = x.pinsHeld c + if w.any fun w => w.curve == c then 1 else 0 := by
  unfold Conditioner.pinsHeld
  rw [h]
  exact countP_vmod ..

theorem Conditioner.framesHeld_set {x y : Conditioner} {i : SlotId} {w : Option WorkSlot} (h : y.slots = vmod x.slots i fun _ => w)
    (k : ContextId) :
    y.framesHeld k + (if x.slots[i].any fun w => w.context == k then 1 else 0) = x.framesHeld k + if w.any fun w => w.context == k then 1 else 0 := by
  unfold Conditioner.framesHeld
  rw [h]
  exact countP_vmod ..

/-- A slot that changes neither its curve nor its context changes no count. -/
theorem Conditioner.held_set {x y : Conditioner} {i : SlotId} {v w : WorkSlot} (h : y.slots = vmod x.slots i fun _ => some w)
    (hi : x.slots[i] = some v) (hc : w.curve = v.curve) (hk : w.context = v.context) :
    (∀ c, y.pinsHeld c = x.pinsHeld c) ∧ ∀ k, y.framesHeld k = x.framesHeld k := by
  refine ⟨fun c => ?_, fun k => ?_⟩
  · have hp := Conditioner.pinsHeld_set h c
    simp only [hi, Option.any_some, hc] at hp
    omega
  · have hf := Conditioner.framesHeld_set h k
    simp only [hi, Option.any_some, hk] at hf
    omega

/-! ### A descriptor's events -/

/-- A descriptor made EMPTY (03 R50). -/
def Curve.emptied (d : Curve) : Curve := { d with state := .empty, knots := 0, pages := [] }

/-- A descriptor after a pin of it is released (03 R54). -/
def Curve.unpinned (d : Curve) : Curve :=
  if d.state = .retiring ∧ d.pins - 1 = 0 then { d with pins := d.pins - 1 }.emptied else { d with pins := d.pins - 1 }

/-- A BUILT descriptor without reservations is given up: EMPTY without pins, else RETIRING (03 R52, R55). -/
def Curve.retired (d : Curve) : Curve := if d.pins = 0 then d.emptied else { d with state := .retiring }

namespace Curve.Tallies
variable {d : Curve} {r p q : Nat} (h : d.Tallies r p q)
include h

/-- A bound curve may be pinned (03 R54). -/
theorem pin (hr : 1 ≤ r) : ({ d with pins := d.pins + 1 } : Curve).Tallies r (p + 1) q := by
  obtain ⟨rfl, rfl, rfl, hf⟩ := h
  refine ⟨rfl, rfl, rfl, ?_⟩
  unfold Curve.CountsFit at hf ⊢
  cases hs : d.state <;> simp only [hs] at hf ⊢ <;> omega

theorem unpinned {p' : Nat} (hp : p = p' + 1) : d.unpinned.Tallies r p' q := by
  obtain ⟨rfl, rfl, rfl, hf⟩ := h
  have hp' : d.pins - 1 = p' := by omega
  unfold Curve.unpinned Curve.emptied
  unfold Curve.CountsFit at hf
  split
  next hlast =>
    obtain ⟨hs, hz⟩ := hlast
    simp only [hs] at hf
    exact ⟨rfl, hp', rfl, hf.1, hz, hf.2.1⟩
  next hmore =>
    refine ⟨rfl, hp', rfl, ?_⟩
    unfold Curve.CountsFit
    cases hs : d.state <;> simp only [hs, true_and, reduceCtorEq, false_and, not_false_eq_true] at hf hmore ⊢ <;> omega

theorem retired (hs : d.state = .built) (hq : d.reservations = 0) : d.retired.Tallies r p q := by
  obtain ⟨rfl, rfl, rfl, hf⟩ := h
  unfold Curve.CountsFit at hf
  simp only [hs] at hf
  unfold Curve.retired Curve.emptied
  split
  next hp => exact ⟨rfl, rfl, rfl, hf, hp, hq⟩
  next hp => exact ⟨rfl, rfl, rfl, hf, hq, Nat.pos_of_ne_zero hp⟩

/-- Pairs name curves that are neither EMPTY nor RETIRING (06 R112). -/
theorem reserve {n : Nat} (hn : n ≠ 0 → d.state ≠ .empty ∧ d.state ≠ .retiring) :
    ({ d with reservations := d.reservations + n } : Curve).Tallies r p (q + n) := by
  obtain ⟨rfl, rfl, rfl, hf⟩ := h
  refine ⟨rfl, rfl, rfl, ?_⟩
  unfold Curve.CountsFit at hf ⊢
  cases hs : d.state <;> simp only [hs] at hf hn ⊢
  · by_cases h0 : n = 0
    · omega
    · exact absurd rfl (hn h0).1
  · exact hf
  · exact hf
  · by_cases h0 : n = 0
    · omega
    · exact absurd rfl (hn h0).2

theorem unreserve : ({ d with reservations := d.reservations - q } : Curve).Tallies r p 0 := by
  obtain ⟨rfl, rfl, rfl, hf⟩ := h
  refine ⟨rfl, rfl, Nat.sub_self _, ?_⟩
  unfold Curve.CountsFit at hf ⊢
  cases hs : d.state <;> simp only [hs] at hf ⊢ <;> omega

/-- The reference claims of a bind, taken together (03 R51). -/
theorem claim (c : CurveId) (l : List Change) {r' : Nat}
    (hr : r' + l.countP (fun x => x.old == some c) = r + l.countP (fun x => x.new == some c)) : (d.claim c l).Tallies r' p q := by
  obtain ⟨rfl, rfl, rfl, hf⟩ := h
  unfold Curve.claim
  dsimp only
  split
  next hnone => exact ⟨by omega, rfl, rfl, hf⟩
  next =>
    have hrefs : d.refs + l.countP (fun x => x.new == some c) - l.countP (fun x => x.old == some c) = r' := by omega
    refine ⟨hrefs, rfl, rfl, ?_⟩
    unfold Curve.CountsFit
    rw [hrefs]
    by_cases h0 : r' = 0
    · simp [h0]
    · simp only [h0, if_false]
      omega

/-- An EMPTY descriptor is defined (03 R49). -/
theorem define (hs : d.state = .empty) (knots : Nat) (pages : List PageId) (g : Byte) :
    ({ d with state := .built, knots := knots, pages := pages, generation := g } : Curve).Tallies r p q := by
  obtain ⟨rfl, rfl, rfl, hf⟩ := h
  unfold Curve.CountsFit at hf
  simp only [hs] at hf
  exact ⟨rfl, rfl, rfl, hf.1⟩

theorem resetSoft : d.resetSoft.Tallies r 0 q := by
  obtain ⟨rfl, rfl, rfl, hf⟩ := h
  unfold Curve.resetSoft
  unfold Curve.CountsFit at hf
  split
  next hs =>
    simp only [hs] at hf
    exact ⟨rfl, rfl, rfl, hf.1, rfl, hf.2.1⟩
  next hs =>
    refine ⟨rfl, rfl, rfl, ?_⟩
    unfold Curve.CountsFit
    cases hd : d.state <;> simp only [hd] at hf hs ⊢
    · exact ⟨hf.1, trivial, hf.2.2⟩
    · exact hf
    · exact hf
    · exact absurd trivial hs

end Curve.Tallies

/-! ### Which descriptor an event writes -/

theorem State.curve_reclaim (s : State) (c d : CurveId) : (s.reclaim c).curve d = if c = d then (s.curve d).emptied else s.curve d :=
  vmod_getElem s.store.curves c d Curve.emptied

theorem State.curve_unpin (s : State) (c d : CurveId) : (s.unpin c).curve d = if c = d then (s.curve d).unpinned else s.curve d := by
  unfold State.unpin
  dsimp only
  rw [State.curve_modCurve, if_pos rfl]
  split
  next h =>
    rw [State.curve_reclaim, State.curve_modCurve]
    by_cases hd : c = d
    · subst hd
      rw [if_pos rfl, if_pos rfl, if_pos rfl, Curve.unpinned, if_pos h]
    · rw [if_neg hd, if_neg hd, if_neg hd]
  next h =>
    rw [State.curve_modCurve]
    by_cases hd : c = d
    · subst hd
      rw [if_pos rfl, if_pos rfl, Curve.unpinned, if_neg h]
    · rw [if_neg hd, if_neg hd]

theorem State.curve_deleteCurve (s : State) (c d : CurveId) : (s.deleteCurve c).curve d = if c = d then (s.curve d).retired else s.curve d := by
  unfold State.deleteCurve
  split
  next h =>
    rw [State.curve_reclaim]
    split
    next hd => rw [← hd, Curve.retired, if_pos h]
    next => rfl
  next h =>
    rw [State.curve_modCurve]
    split
    next hd => rw [← hd, Curve.retired, if_neg h]
    next => rfl

/-- A release request is the deletion of a BUILT curve without reservations, or nothing (03 R52). -/
theorem State.releaseRequest_eq (s : State) (c : CurveId) :
    s.releaseRequest c = if (s.curve c).state = .built ∧ (s.curve c).reservations = 0 then s.deleteCurve c else s := rfl

theorem State.curve_applyChanges (s : State) (l : List Change) (c : CurveId) : (s.applyChanges l).curve c = (s.curve c).claim c l := by
  simp [State.curve, State.applyChanges]

theorem State.curve_reserve (s : State) (l : List Pair) (c : CurveId) :
    (s.reserve l).curve c = { s.curve c with reservations := (s.curve c).reservations + naming l c } := by
  simp [State.curve, State.reserve]

theorem State.curve_unreserve (s : State) (l : List Pair) (c : CurveId) :
    (s.unreserve l).curve c = { s.curve c with reservations := (s.curve c).reservations - naming l c } := by
  simp [State.curve, State.unreserve]

theorem State.curve_define (s : State) (c : CurveId) (pages : List PageId) (knots : Nat) (d : CurveId) :
    ({ s with store := s.store.define c pages knots } : State).curve d =
      if c = d then { s.curve d with state := .built, knots := knots, pages := pages, generation := (s.curve d).generation + 1 } else s.curve d :=
  vmod_getElem s.store.curves c d _

end Sys2Proof.Machine
end

section
/-! The conditioning engine's slots, orders and units by themselves, one lemma for each change of a slot (04 R63 to R65). -/

namespace Sys2Proof.Machine.Conditioner
variable {x y : Conditioner}

/-! ### The age order and the ready order -/

/-- A slot that stays occupied. -/
theorem AgeKept.set (h : x.AgeKept) {i : SlotId} {w : WorkSlot} (hs : y.slots = vmod x.slots i fun _ => some w) (ha : y.age = x.age)
    (hi : x.slots[i].isSome = true) : y.AgeKept := by
  obtain ⟨hn, hm⟩ := h
  refine ⟨ha ▸ hn, fun j => ?_⟩
  rw [ha, hs, vmod_getElem, hm]
  split
  next hj => rw [← hj, hi, Option.isSome_some]
  next => exact Iff.rfl

/-- A FREE slot is occupied, the youngest (04 R69). -/
theorem AgeKept.occupy (h : x.AgeKept) {i : SlotId} {w : WorkSlot} (hs : y.slots = vmod x.slots i fun _ => some w) (ha : y.age = x.age ++ [i])
    (hi : x.slots[i] = none) : y.AgeKept := by
  obtain ⟨hn, hm⟩ := h
  have hnot : i ∉ x.age := by rw [hm, hi]; simp
  refine ⟨ha ▸ List.nodup_append.2 ⟨hn, List.nodup_singleton i, ?_⟩, fun j => ?_⟩
  · rintro a hmem b hb rfl
    rw [List.mem_singleton] at hb
    exact hnot (hb ▸ hmem)
  · rw [ha, hs, vmod_getElem, List.mem_append, List.mem_singleton, hm]
    split
    next hj => simp [← hj]
    next hj => simp [Ne.symm hj]

theorem AgeKept.free (h : x.AgeKept) (i : SlotId) : (x.free i).AgeKept := by
  obtain ⟨hn, hm⟩ := h
  refine ⟨hn.erase i, fun j => ?_⟩
  show j ∈ x.age.erase i ↔ (vmod x.slots i fun _ => none)[j].isSome = true
  rw [hn.mem_erase_iff, vmod_getElem, hm]
  split
  next hj => simp [hj]
  next hj => simp [Ne.symm hj]

/-- A slot that is not READY, before or after. -/
theorem ReadyKept.set (h : x.ReadyKept) {i : SlotId} {w : WorkSlot} (hs : y.slots = vmod x.slots i fun _ => some w) (hr : y.ready = x.ready)
    (hi : ∀ v o q, x.slots[i] = some v → v.phase ≠ .ready o q) (hw : ∀ o q, w.phase ≠ .ready o q) : y.ReadyKept := by
  obtain ⟨hn, hm⟩ := h
  refine ⟨hr ▸ hn, fun j => ?_⟩
  rw [hr, hs, vmod_getElem, hm]
  split
  next hj =>
    subst hj
    refine iff_of_false ?_ ?_
    · rintro ⟨v, o, q, hv, hp⟩
      exact hi v o q hv hp
    · rintro ⟨v, o, q, hv, hp⟩
      cases hv
      exact hw o q hp
  next => exact Iff.rfl

/-- A slot becomes READY, the last (04 R77). -/
theorem ReadyKept.push (h : x.ReadyKept) {i : SlotId} {w : WorkSlot} (hs : y.slots = vmod x.slots i fun _ => some w) (hr : y.ready = x.ready ++ [i])
    (hi : ∀ v o q, x.slots[i] = some v → v.phase ≠ .ready o q) (hw : ∃ o q, w.phase = .ready o q) : y.ReadyKept := by
  obtain ⟨hn, hm⟩ := h
  have hnot : i ∉ x.ready := by
    rw [hm]
    rintro ⟨v, o, q, hv, hp⟩
    exact hi v o q hv hp
  refine ⟨hr ▸ List.nodup_append.2 ⟨hn, List.nodup_singleton i, ?_⟩, fun j => ?_⟩
  · rintro a hmem b hb rfl
    rw [List.mem_singleton] at hb
    exact hnot (hb ▸ hmem)
  · rw [hr, hs, vmod_getElem, List.mem_append, List.mem_singleton, hm]
    split
    next hj =>
      obtain ⟨o, q, hp⟩ := hw
      exact iff_of_true (.inr hj.symm) ⟨w, o, q, rfl, hp⟩
    next hj => simp [Ne.symm hj]

theorem ReadyKept.free (h : x.ReadyKept) (i : SlotId) : (x.free i).ReadyKept := by
  obtain ⟨hn, hm⟩ := h
  refine ⟨hn.erase i, fun j => ?_⟩
  show j ∈ x.ready.erase i ↔ ∃ w o q, (vmod x.slots i fun _ => none)[j] = some w ∧ w.phase = .ready o q
  rw [hn.mem_erase_iff, vmod_getElem, hm]
  split
  next hj => simp [hj]
  next hj => simp [Ne.symm hj]

/-! ### Slots and units -/

/-- Slot `i` is no unit's, and every other slot is CONVERTING on a unit exactly when that unit is BUSY with it. -/
def PairedBut (x : Conditioner) (i : SlotId) : Prop :=
  ∀ (u : UnitId) (j : SlotId), (∃ w, x.slots[j] = some w ∧ w.phase = .converting u) ∧ j ≠ i ↔ ∃ b, x.units[u] = some b ∧ b.slot = j

/-- A slot that is not CONVERTING is no unit's. -/
theorem Paired.but (h : x.Paired) {i : SlotId} (hi : ∀ w u, x.slots[i] = some w → w.phase ≠ .converting u) : x.PairedBut i := by
  intro u j
  rw [← h u j]
  refine ⟨And.left, fun hj => ⟨hj, ?_⟩⟩
  rintro rfl
  obtain ⟨w, hw, hp⟩ := hj
  exact hi w u hw hp

/-- A unit becomes IDLE: its slot is no unit's any more (04 R76). -/
theorem Paired.idle (h : x.Paired) {u : UnitId} {b : BusyUnit} (hb : x.units[u] = some b) (hs : y.slots = x.slots)
    (hu : y.units = vmod x.units u fun _ => none) : y.PairedBut b.slot := by
  obtain ⟨w, hw, hp⟩ := (h u b.slot).2 ⟨b, hb, rfl⟩
  intro v j
  rw [hs, hu, vmod_getElem, h v j]
  split
  next huv =>
    subst huv
    refine iff_of_false ?_ (by simp)
    rintro ⟨⟨b', hb', rfl⟩, hne⟩
    rw [hb] at hb'
    cases hb'
    exact hne rfl
  next huv =>
    refine ⟨And.left, fun hj => ⟨hj, ?_⟩⟩
    rintro rfl
    obtain ⟨w', hw', hp'⟩ := (h v b.slot).2 hj
    rw [hw] at hw'
    cases hw'
    rw [hp] at hp'
    cases hp'
    exact huv rfl

/-- A slot that is no unit's is given a content that is not CONVERTING. -/
theorem PairedBut.set {i : SlotId} (h : x.PairedBut i) {w : Option WorkSlot} (hs : y.slots = vmod x.slots i fun _ => w) (hu : y.units = x.units)
    (hw : ∀ v u, w = some v → v.phase ≠ .converting u) : y.Paired := by
  intro u j
  rw [hs, hu, ← h u j, vmod_getElem]
  split
  next hj =>
    refine iff_of_false ?_ fun hc => hc.2 hj.symm
    rintro ⟨v, hv, hp⟩
    exact hw v u hv hp
  next hj => exact ⟨fun hc => ⟨hc, Ne.symm hj⟩, And.left⟩

theorem PairedBut.free {i : SlotId} (h : x.PairedBut i) : (x.free i).Paired := h.set rfl rfl (by simp)

/-- A QUEUED slot starts on an IDLE unit (04 R70). -/
theorem Paired.start (h : x.Paired) {u : UnitId} {i : SlotId} {v w : WorkSlot} {b : BusyUnit} (hidle : x.units[u] = none)
    (hi : x.slots[i] = some v) (hq : v.phase = .queued) (hs : y.slots = vmod x.slots i fun _ => some w) (hw : w.phase = .converting u)
    (hu : y.units = vmod x.units u fun _ => some b) (hb : b.slot = i) : y.Paired := by
  intro u' j
  rw [hs, hu, vmod_getElem, vmod_getElem]
  by_cases hu' : u = u'
  · subst hu'
    rw [if_pos rfl]
    by_cases hj : i = j
    · rw [if_pos hj]
      exact iff_of_true ⟨w, rfl, hw⟩ ⟨b, rfl, hb.trans hj⟩
    · rw [if_neg hj, h u j, hidle]
      refine iff_of_false (by simp) ?_
      rintro ⟨b', hb', e⟩
      cases hb'
      exact hj (hb.symm.trans e)
  · rw [if_neg hu', ← h u' j]
    split
    next hj =>
      subst hj
      refine iff_of_false ?_ ?_
      · rintro ⟨w', hw', hp⟩
        cases hw'
        rw [hw] at hp
        cases hp
        exact hu' rfl
      · rintro ⟨w', hw', hp⟩
        rw [hi] at hw'
        cases hw'
        rw [hq] at hp
        cases hp
    next => exact Iff.rfl

/-- A unit's work moves on. -/
theorem Paired.work (h : x.Paired) {u : UnitId} {b b' : BusyUnit} (hb : x.units[u] = some b) (hs : y.slots = x.slots)
    (hu : y.units = vmod x.units u fun _ => some b') (hslot : b'.slot = b.slot) : y.Paired := by
  intro v j
  rw [hs, hu, h v j, vmod_getElem]
  split
  next huv => simp [← huv, hb, hslot]
  next => exact Iff.rfl

theorem idleUnit_eq_some {u : UnitId} (h : x.idleUnit = some u) : x.units[u] = none := by
  unfold Conditioner.idleUnit at h
  split at h
  next h0 => cases h; exact h0
  next =>
    split at h
    next h1 => cases h; exact h1
    next => cases h

end Sys2Proof.Machine.Conditioner
end

section
/-! The counts, the slots, the orders, the units and the accumulators agree at every step: O59. -/

namespace Sys2Proof.Machine

/-! ### The conditions one by one -/

/-- A read-back is a current command's, and an order check's curve is EMPTY (03 R57, 05 R105). -/
def State.ReadBackKept (s : State) : Prop :=
  ∀ r, s.mgmt.readBack = some r → s.mgmt.current.isSome = true ∧
    ∀ failed, r.purpose = .orderCheck failed → (s.curve r.curve).state = .empty

/-- What chapters 02 to 04 have of the counts, but for the channels and for which unit converts which slot. -/
structure State.Tallied (s : State) : Prop where
  pending : ∀ b, s.bind = some b → (b.pairs.map Pair.channel).Nodup ∧ b.pairs.length ≤ 8
  curves : s.CurvesTallied
  inFlight : s.InFlightCounted
  age : s.conditioner.AgeKept
  ready : s.conditioner.ReadyKept
  averages : s.AveragesKept
  readBack : s.ReadBackKept

theorem State.countsKept_iff (s : State) : s.CountsKept ↔ s.ChannelsKept ∧ s.Tallied ∧ s.conditioner.Paired := by
  constructor
  · rintro ⟨hc, hp, hn, hf, hi, ⟨ha, hr, hpair, hav⟩, hrb⟩
    exact ⟨hc, ⟨hp, s.curvesTallied_iff.2 ⟨hn, hf⟩, hi, ha, hr, hav, hrb⟩, hpair⟩
  · rintro ⟨hc, ⟨hp, hcurves, hi, ha, hr, hav, hrb⟩, hpair⟩
    obtain ⟨hn, hf⟩ := s.curvesTallied_iff.1 hcurves
    exact ⟨hc, hp, hn, hf, hi, ⟨ha, hr, hpair, hav⟩, hrb⟩

/-- A BUSY unit and the slot it converts (04 R65). -/
theorem State.busySlot_iff {s : State} {u : UnitId} {b : BusyUnit} {w : WorkSlot} :
    s.busySlot u = some (b, w) ↔ s.conditioner.units[u] = some b ∧ s.conditioner.slots[b.slot] = some w := by
  unfold State.busySlot
  cases hu : s.conditioner.units[u] with
  | none => simp
  | some b' =>
    simp only [Option.map_eq_some_iff, Prod.mk.injEq, Option.some.injEq]
    constructor
    · rintro ⟨w', hw, rfl, rfl⟩
      exact ⟨rfl, hw⟩
    · rintro ⟨rfl, hw⟩
      exact ⟨w, hw, rfl, rfl⟩

theorem State.busySlot_congr {s t : State} (h : t.conditioner = s.conditioner) (u : UnitId) : t.busySlot u = s.busySlot u := by
  unfold State.busySlot
  rw [h]

/-- Accumulators kept when every context's is, and every BUSY unit's for a context whose N is what it was. -/
theorem State.AveragesKept.of_units {s t : State} (h : s.AveragesKept)
    (hc : ∀ k, (t.context k).acc.count < (t.context k).decimation)
    (hu : ∀ u b w, t.busySlot u = some (b, w) → ∃ v, s.busySlot u = some (b, v) ∧ (t.context w.context).decimation = (s.context v.context).decimation) :
    t.AveragesKept := by
  refine ⟨hc, fun u b w hb => ?_⟩
  obtain ⟨v, hv, hd⟩ := hu u b w hb
  rw [hd]
  exact h.2 u b v hv

theorem State.ReadBackKept.of_eases {s t : State} (h : s.ReadBackKept) (hm : s.mgmt.Eases t.mgmt)
    (hc : ∀ c, (s.curve c).state = .empty → (t.curve c).state = .empty) : t.ReadBackKept := by
  intro r hr
  obtain ⟨hr', hcur⟩ := hm.readBack r hr
  obtain ⟨hsome, hempty⟩ := h r hr'
  exact ⟨hcur ▸ hsome, fun failed hp => hc _ (hempty failed hp)⟩

theorem State.readBackKept_of_none {s : State} (h : s.mgmt.readBack = none) : s.ReadBackKept := fun r hr => by
  rw [h] at hr
  cases hr

theorem State.refsHeld_congr {s t : State} (h : ∀ k, (t.context k).curve = (s.context k).curve) {c : CurveId} :
    t.table.refsHeld c = s.table.refsHeld c :=
  ChannelTable.refsHeld_congr h c

/-! ### What agrees in counts is kept together -/

/-- Two states agree in curves, slots, pending pairs and the counts of the contexts, and no context with frames in flight has changed its N. -/
structure State.SameTallies (s t : State) : Prop where
  curve : ∀ k, (t.context k).curve = (s.context k).curve
  inFlight : ∀ k, (t.context k).inFlight = (s.context k).inFlight
  average : ∀ k, (t.context k).acc.count < (t.context k).decimation
  decimation : ∀ k, (t.context k).decimation = (s.context k).decimation ∨ (s.context k).inFlight = 0
  curves : t.store.curves = s.store.curves
  conditioner : t.conditioner = s.conditioner
  bind : t.bind = s.bind
  mgmt : s.mgmt.Eases t.mgmt

/-- A slot's context has frames in flight. -/
theorem State.InFlightCounted.pos {s : State} (h : s.InFlightCounted) {i : SlotId} {w : WorkSlot} (hi : s.conditioner.slots[i] = some w) :
    1 ≤ (s.context w.context).inFlight := by
  rw [h w.context]
  exact countP_pos_of_getElem s.conditioner.slots i (by simp [hi])

theorem State.Tallied.same {s t : State} (h : s.Tallied) (e : s.SameTallies t) : t.Tallied where
  pending b hb := h.pending b (e.bind ▸ hb)
  curves c := by
    have hc : t.curve c = s.curve c := by unfold State.curve; rw [e.curves]
    have hr : t.table.refsHeld c = s.table.refsHeld c := ChannelTable.refsHeld_congr e.curve c
    rw [hc, hr, e.conditioner, e.bind]
    exact h.curves c
  inFlight k := by
    rw [e.inFlight, e.conditioner]
    exact h.inFlight k
  age := e.conditioner ▸ h.age
  ready := e.conditioner ▸ h.ready
  averages := by
    refine h.averages.of_units e.average fun u b w hb => ?_
    rw [State.busySlot_congr e.conditioner] at hb
    refine ⟨w, hb, (e.decimation w.context).resolve_right fun h0 => ?_⟩
    exact absurd (h.inFlight.pos (State.busySlot_iff.1 hb).2) (by rw [h0]; decide)
  readBack := h.readBack.of_eases e.mgmt fun c hc => by
    unfold State.curve at hc ⊢
    rw [e.curves]
    exact hc

/-- The channel table as it was. -/
theorem State.SameTallies.of_table {s t : State} (h : s.Tallied) (ht : t.table = s.table) (hc : t.store.curves = s.store.curves)
    (hx : t.conditioner = s.conditioner) (hb : t.bind = s.bind) (hm : s.mgmt.Eases t.mgmt) : s.SameTallies t := by
  have hk (k : ContextId) : t.context k = s.context k := by unfold State.context; rw [ht]
  exact ⟨fun k => by rw [hk], fun k => by rw [hk], fun k => by rw [hk]; exact h.averages.1 k, fun k => .inl (by rw [hk]), hc, hx, hb, hm⟩

theorem State.Tallied.quiet {s t : State} (h : s.Tallied) (e : s.Quiet t) : t.Tallied :=
  h.same (.of_table h e.table e.curves e.conditioner e.bind e.mgmt)

/-- One context changed in other fields than those counted, its accumulator below its N. -/
theorem State.Tallied.modContext {s : State} (h : s.Tallied) (j : ContextId) {f : Context → Context}
    (hf : ∀ c, (f c).curve = c.curve ∧ (f c).inFlight = c.inFlight)
    (hd : (f (s.context j)).decimation = (s.context j).decimation ∨ (s.context j).inFlight = 0)
    (ha : (f (s.context j)).acc.count < (f (s.context j)).decimation) : (s.modContext j f).Tallied := by
  have hk (k : ContextId) := State.context_modContext s j k f
  refine h.same ⟨fun k => ?_, fun k => ?_, fun k => ?_, fun k => ?_, rfl, rfl, rfl, .refl _⟩ <;> rw [hk] <;> split
  · exact (hf _).1
  · rfl
  · exact (hf _).2
  · rfl
  next e => exact e ▸ ha
  next => exact h.averages.1 k
  next e => exact e ▸ hd
  next => exact .inl rfl

/-- Descriptors and the pending set written, nothing else counted. -/
theorem State.Tallied.withPending {s t : State} (h : s.Tallied) (ht : t.table = s.table) (hx : t.conditioner = s.conditioner)
    (hb : ∀ b, t.bind = some b → (b.pairs.map Pair.channel).Nodup ∧ b.pairs.length ≤ 8) (hc : t.CurvesTallied) (hr : t.ReadBackKept) :
    t.Tallied where
  pending := hb
  curves := hc
  inFlight k := by
    rw [hx, State.context, ht]
    exact h.inFlight k
  age := hx ▸ h.age
  ready := hx ▸ h.ready
  averages := by
    have hk (k : ContextId) : t.context k = s.context k := by unfold State.context; rw [ht]
    refine h.averages.of_units (fun k => by rw [hk]; exact h.averages.1 k) fun u b w hbusy => ?_
    rw [State.busySlot_congr hx] at hbusy
    exact ⟨w, hbusy, by rw [hk]⟩
  readBack := hr

/-- Descriptors written, nothing else counted. -/
theorem State.Tallied.withCurves {s t : State} (h : s.Tallied) (ht : t.table = s.table) (hx : t.conditioner = s.conditioner)
    (hb : t.bind = s.bind) (hc : t.CurvesTallied) (hr : t.ReadBackKept) : t.Tallied :=
  h.withPending ht hx (fun b hb' => h.pending b (hb ▸ hb')) hc hr

/-! ### The channel commands (02 R31, R34) -/

namespace State.Tallied
variable {s : State} (h : s.Tallied)
include h

theorem decimation_pos (k : ContextId) : 0 < (s.context k).decimation := Nat.zero_lt_of_lt (h.averages.1 k)

/-- Mapping resets the target's accumulator and leaves N, curve and frames in flight. -/
theorem applyMap (channel : Byte) (t : Option ContextId) : (s.applyMap channel t).Tallied := by
  have hk (k : ContextId) := s.applyMap_context channel t k
  refine h.same ⟨fun k => ?_, fun k => ?_, fun k => ?_, fun k => .inl ?_, by simp, by simp, by simp, by simp⟩ <;> rw [hk] <;> split
  case refine_3.isTrue => exact h.decimation_pos k
  case refine_3.isFalse => split <;> exact h.averages.1 k
  case refine_1.isFalse | refine_2.isFalse | refine_4.isFalse => split <;> rfl
  all_goals rfl

/-- A configuration changes N only where no frame is in flight, and empties the accumulator with it. -/
theorem applySettings {p : ChannelSettings} (hp : 1 ≤ p.decimation) (h0 : (s.context p.context).inFlight = 0) : (s.applySettings p).Tallied := by
  have hmod : (s.modContext p.context fun c => c.settings p).Tallied := by
    refine h.modContext p.context (fun _ => ⟨rfl, rfl⟩) (.inr h0) ?_
    show (if (s.context p.context).emptiedBy p then Accumulator.empty else (s.context p.context).acc).count < p.decimation
    split
    · exact hp
    next he =>
      have hn : (s.context p.context).decimation = p.decimation := by
        simp only [Context.emptiedBy, Bool.or_eq_true, bne_iff_ne, ne_eq, not_or, not_not] at he
        exact he.1.1
      exact hn ▸ h.averages.1 p.context
  exact hmod.same (.of_table hmod rfl rfl rfl rfl (.refl _))

theorem setFence (k : ContextId) (b : Bool) : (s.setFence k b).Tallied :=
  h.modContext k (f := fun c => { c with fenced := b }) (fun _ => ⟨rfl, rfl⟩) (.inl rfl) (h.averages.1 k)

theorem respond (f : Frame) (st : Status) (p : List Byte) : (s.respond f st p).Tallied := h.quiet (.respond s f st p)

theorem finishFenced {f : Frame} (hc : f.code = codeMapChannel ∨ f.code = codeSetChannel)
    (h0 : ∀ k, s.fenceTarget f = some k → (s.context k).inFlight = 0) : (s.finishFenced f).Tallied := by
  unfold State.finishFenced
  split
  · split
    · split
      · exact (h.applyMap _ _).respond _ _ _
      · exact h
    · exact h
  next hne =>
    split
    next p hp =>
      have hzero := h0 p.context (State.fenceTarget_settings (hc.resolve_left hne) hp)
      exact (h.applySettings (settingsOf_eq_some hp).2.1 hzero).respond _ _ _
    · exact h

theorem settleFence : s.settleFence.Tallied := by
  unfold State.settleFence
  split
  next f k hd =>
    obtain ⟨-, -, htarget, -, hzero⟩ := State.fenceDue_eq_some hd
    have hcode : f.code = codeMapChannel ∨ f.code = codeSetChannel := by
      unfold State.fenceTarget at htarget
      split at htarget
      next hm => exact .inl hm
      next =>
        split at htarget
        next hs => exact .inr hs
        next => cases htarget
    refine (h.setFence k false).finishFenced hcode fun j hj => ?_
    have hj' : s.fenceTarget f = some j := hj
    rw [htarget] at hj'
    cases hj'
    show ((s.modContext k _).context k).inFlight = 0
    rw [State.context_modContext, if_pos rfl]
    exact hzero
  next => exact h

/-! ### The slots (04 R69, R70, R76 to R79) -/

/-- A slot released: its pin and its place in flight are given back, and the orders lose it (04 R79). -/
theorem release {t : State} {i : SlotId} {w : WorkSlot} (hi : s.conditioner.slots[i] = some w)
    (hk : ∀ k, t.context k = if w.context = k then { s.context k with inFlight := (s.context k).inFlight - 1 } else s.context k)
    (hc : ∀ c, t.curve c = if w.curve = c then (s.curve c).unpinned else s.curve c)
    (hx : t.conditioner = s.conditioner.free i) (hb : t.bind = s.bind) (hm : t.mgmt = s.mgmt) : t.Tallied := by
  have hfree : t.conditioner.slots = vmod s.conditioner.slots i fun _ => none := by rw [hx]; rfl
  have hunits : t.conditioner.units = s.conditioner.units := by rw [hx]; rfl
  have hfield (k : ContextId) : (t.context k).curve = (s.context k).curve ∧ (t.context k).acc = (s.context k).acc ∧
      (t.context k).decimation = (s.context k).decimation := by
    rw [hk]
    split <;> exact ⟨rfl, rfl, rfl⟩
  constructor
  case pending => exact fun b hb' => h.pending b (hb ▸ hb')
  case curves =>
    intro c
    have hpins := Conditioner.pinsHeld_set hfree c
    simp only [hi, Option.any_some, Option.any_none, Bool.false_eq_true, if_false, Nat.add_zero, beq_iff_eq] at hpins
    rw [State.refsHeld_congr fun k => (hfield k).1, hb, hc]
    split
    next e => exact (h.curves c).unpinned (by rw [if_pos e] at hpins; exact hpins.symm)
    next e =>
      rw [if_neg e, Nat.add_zero] at hpins
      rw [hpins]
      exact h.curves c
  case inFlight =>
    intro k
    have hframes := Conditioner.framesHeld_set hfree k
    simp only [hi, Option.any_some, Option.any_none, Bool.false_eq_true, if_false, Nat.add_zero, beq_iff_eq] at hframes
    have hbefore : (s.context k).inFlight = s.conditioner.framesHeld k := h.inFlight k
    show (t.context k).inFlight = t.conditioner.framesHeld k
    rw [hk]
    split
    next e =>
      rw [if_pos e] at hframes
      simp only
      omega
    next e =>
      rw [if_neg e] at hframes
      omega
  case age => exact hx ▸ h.age.free i
  case ready => exact hx ▸ h.ready.free i
  case averages =>
    refine h.averages.of_units (fun k => ?_) fun u b v hbusy => ?_
    · obtain ⟨-, ha, hd⟩ := hfield k
      rw [ha, hd]
      exact h.averages.1 k
    · obtain ⟨hu, hv⟩ := State.busySlot_iff.1 hbusy
      rw [hfree, vmod_getElem] at hv
      split at hv
      next => cases hv
      next => exact ⟨v, State.busySlot_iff.2 ⟨hunits ▸ hu, hv⟩, (hfield _).2.2⟩
  case readBack =>
    refine h.readBack.of_eases (by simp [hm]) fun c he => ?_
    rw [hc]
    split
    · unfold Curve.unpinned Curve.emptied
      split
      · rfl
      · exact he
    · exact he

theorem releaseSlot (i : SlotId) : (s.releaseSlot i).Tallied := by
  unfold State.releaseSlot
  split
  next w hi =>
    have hrelease : ((({ s with conditioner := s.conditioner.free i } : State).unpin w.curve).modContext w.context fun c =>
        { c with inFlight := c.inFlight - 1 }).Tallied := by
      refine h.release hi (fun k => ?_) (State.curve_unpin _ _) (by simp) (by simp) (by simp)
      rw [State.context_modContext]
      have hk : (({ s with conditioner := s.conditioner.free i } : State).unpin w.curve).context k = s.context k := by
        unfold State.context
        rw [State.unpin_table]
      rw [hk]
    exact hrelease.settleFence
  next => exact h

theorem enterCq : s.enterCq.Tallied := by
  unfold State.enterCq
  split
  next i w f _ =>
    have hpush : ({ s with merger := { s.merger with cq := s.merger.cq ++ [(⟨f, w.context⟩ : CqEntry)] } } : State).Tallied :=
      h.quiet (by constructor <;> simp)
    split
    · exact hpush.releaseSlot i
    · exact h
  · exact h

/-- A slot that changes its phase alone, and units whose work holds no more values than before. -/
theorem phase {t : State} {i : SlotId} {v w : WorkSlot} (hi : s.conditioner.slots[i] = some v)
    (hs : t.conditioner.slots = vmod s.conditioner.slots i fun _ => some w) (hw : w.curve = v.curve ∧ w.context = v.context)
    (hk : ∀ k, (t.context k).curve = (s.context k).curve ∧ (t.context k).inFlight = (s.context k).inFlight ∧
      (t.context k).acc = (s.context k).acc ∧ (t.context k).decimation = (s.context k).decimation)
    (hc : t.store.curves = s.store.curves) (ha : t.conditioner.age = s.conditioner.age) (hr : t.conditioner.ReadyKept)
    (hu : ∀ (u : UnitId) (b : BusyUnit), t.conditioner.units[u] = some b →
      s.conditioner.units[u] = some b ∨ b.slot = i ∧ b.work.acc = (s.context v.context).acc)
    (hb : t.bind = s.bind) (hm : t.mgmt = s.mgmt) : t.Tallied := by
  have hcurve (c : CurveId) : t.curve c = s.curve c := by unfold State.curve; rw [hc]
  obtain ⟨hpins, hframes⟩ := Conditioner.held_set hs hi hw.1 hw.2
  constructor
  case pending => exact fun b hb' => h.pending b (hb ▸ hb')
  case curves =>
    intro c
    rw [State.refsHeld_congr fun k => (hk k).1, hb, hcurve, hpins]
    exact h.curves c
  case inFlight =>
    intro k
    obtain ⟨-, hf, -⟩ := hk k
    rw [hf]
    exact (h.inFlight k).trans (hframes k).symm
  case age => exact h.age.set hs ha (by rw [hi]; rfl)
  case ready => exact hr
  case averages =>
    have hcontext (k : ContextId) : (s.context k).acc.count < (t.context k).decimation := by
      obtain ⟨-, -, -, hd⟩ := hk k
      rw [hd]
      exact h.averages.1 k
    refine ⟨fun k => ?_, fun u b x hbusy => ?_⟩
    · obtain ⟨-, -, hacc, -⟩ := hk k
      rw [hacc]
      exact hcontext k
    · obtain ⟨hub, hx⟩ := State.busySlot_iff.1 hbusy
      have hx' : ∃ y, s.conditioner.slots[b.slot] = some y ∧ x.context = y.context := by
        rw [hs, vmod_getElem] at hx
        split at hx
        next e =>
          cases hx
          exact ⟨v, e ▸ hi, hw.2⟩
        next => exact ⟨x, hx, rfl⟩
      obtain ⟨y, hy, hxy⟩ := hx'
      obtain ⟨-, -, -, hd⟩ := hk y.context
      rcases hu u b hub with hold | ⟨rfl, hacc⟩
      · rw [hxy, hd]
        exact h.averages.2 u b y (State.busySlot_iff.2 ⟨hold, hy⟩)
      · rw [hi] at hy
        cases hy
        rw [hacc, hxy]
        exact hcontext _
  case readBack => exact h.readBack.of_eases (by simp [hm]) fun c he => by rwa [hcurve]

theorem startOn {u : UnitId} {i : SlotId} {w : WorkSlot} (hi : s.conditioner.slots[i] = some w) (hq : w.phase = .queued) :
    (s.startOn u i).Tallied := by
  have hstart : s.startOn u i = { s with conditioner := { s.conditioner with
      slots := vmod s.conditioner.slots i fun _ => some { w with phase := .converting u }
      units := vmod s.conditioner.units u fun _ => some { slot := i, work := .start (s.context w.context) } } } := by
    unfold State.startOn
    rw [hi]
  rw [hstart]
  refine h.phase hi rfl ⟨rfl, rfl⟩ (fun _ => ⟨rfl, rfl, rfl, rfl⟩) rfl rfl ?_ (fun v b hb => ?_) rfl rfl
  · refine h.ready.set rfl rfl (fun v o q hv => ?_) (by simp)
    rw [hi] at hv
    cases hv
    simp [hq]
  · rw [vmod_getElem] at hb
    split at hb
    · cases hb
      exact .inr ⟨rfl, rfl⟩
    · exact .inl hb

theorem startOne : s.startOne.Tallied := by
  obtain e | ⟨u, i, w, -, -, hi, hq, e⟩ := s.startOne_cases
  · rwa [e]
  · exact e ▸ h.startOn hi hq

theorem startConversions : s.startConversions.Tallied := startOne h.startOne

/-- A converted slot becomes READY (04 R77). -/
theorem makeReady {i : SlotId} {w : WorkSlot} (outputs : List Output) (hi : s.conditioner.slots[i] = some w)
    (hp : ∀ o q, w.phase ≠ .ready o q) : (s.makeReady i w outputs).Tallied := by
  have hk (k : ContextId) := State.context_modContext s w.context k fun c => { c with outSeq := c.outSeq + 1 }
  refine h.phase hi (w := { w with phase := .ready outputs (s.context w.context).outSeq }) rfl ⟨rfl, rfl⟩ (fun k => ?_) rfl rfl ?_
    (fun _ _ hu => .inl hu) rfl rfl
  · have hk' : (s.makeReady i w outputs).context k = _ := hk k
    rw [hk']
    split <;> exact ⟨rfl, rfl, rfl, rfl⟩
  · refine h.ready.push (i := i) (w := { w with phase := .ready outputs (s.context w.context).outSeq }) rfl rfl (fun v o q hv => ?_) ⟨_, _, rfl⟩
    rw [hi] at hv
    cases hv
    exact hp o q

theorem settleSlot {i : SlotId} {w : WorkSlot} (outputs : List Output) (hi : s.conditioner.slots[i] = some w)
    (hp : ∀ o q, w.phase ≠ .ready o q) : (s.settleSlot i w outputs).Tallied := by
  unfold State.settleSlot
  split
  · exact h.releaseSlot i
  · have hready := h.makeReady outputs hi hp
    dsimp only
    split
    · exact hready.enterCq
    · exact hready

/-- The working record's accumulator, which is below N, goes to the context (04 R76). -/
theorem commit {w : WorkSlot} {r : Working} (hr : r.acc.count < (s.context w.context).decimation) : (s.commit w r).Tallied := by
  have hmod := h.modContext w.context
    (f := fun c => { c with acc := r.acc, limits := c.limits.map fun l => { l with state := r.limits.elim l.state Limits.state } })
    (fun _ => ⟨rfl, rfl⟩) (.inl rfl) hr
  unfold State.commit
  exact hmod.quiet ((State.Quiet.countContext _ _ _).trans (.raiseLimits _ _ _ _))

theorem idleUnit (u : UnitId) : (s.idleUnit u).Tallied where
  pending := h.pending
  curves := h.curves
  inFlight := h.inFlight
  age := h.age
  ready := h.ready
  averages := h.averages.of_units h.averages.1 fun v b w hbusy => by
    obtain ⟨hu, hs⟩ := State.busySlot_iff.1 hbusy
    have hu' : (vmod s.conditioner.units u fun _ => none)[v] = some b := hu
    rw [vmod_getElem] at hu'
    split at hu'
    next => cases hu'
    next => exact ⟨w, State.busySlot_iff.2 ⟨hu', hs⟩, rfl⟩
  readBack := h.readBack

theorem endConversion (hpair : s.conditioner.Paired) (u : UnitId) : (s.endConversion u).Tallied := by
  unfold State.endConversion
  split
  · split
    next b w hb =>
      obtain ⟨hu, hs⟩ := State.busySlot_iff.1 hb
      have hphase : w.phase = .converting u := by
        obtain ⟨v, hv, hp⟩ := (hpair u b.slot).2 ⟨b, hu, rfl⟩
        rw [hs] at hv
        cases hv
        exact hp
      have hidle := (h.commit (h.averages.2 u b w hb)).idleUnit u
      have hslot : ((s.commit w b.work).idleUnit u).conditioner.slots[b.slot] = some w := by
        show (s.commit w b.work).conditioner.slots[b.slot] = some w
        rw [State.commit_conditioner]
        exact hs
      exact (hidle.settleSlot b.work.outputs hslot (by simp [hphase])).startConversions
    · exact h
  · exact h

/-- An admitted frame takes a FREE slot of a context with a bound curve (04 R69). -/
theorem occupy (hpair : s.conditioner.Paired) {k : ContextId} {i : SlotId} {c : CurveId} (f : Frame) (hi : s.conditioner.slots[i] = none)
    (hbound : (s.context k).curve = some c) : (s.occupy k i c f).Tallied := by
  have hslots : (s.occupy k i c f).conditioner.slots =
      vmod s.conditioner.slots i fun _ => some ⟨.queued, k, f.addr, c, f.timestamp, f.samples⟩ := rfl
  have hk (j : ContextId) : (s.occupy k i c f).context j =
      if k = j then { s.context j with expected := some (f.seq + 1), inFlight := (s.context j).inFlight + 1 } else s.context j :=
    State.context_modContext ..
  have hcurve (d : CurveId) : (s.occupy k i c f).curve d = if c = d then { s.curve d with pins := (s.curve d).pins + 1 } else s.curve d :=
    vmod_getElem ..
  have hfield (j : ContextId) : ((s.occupy k i c f).context j).curve = (s.context j).curve ∧
      ((s.occupy k i c f).context j).acc = (s.context j).acc ∧ ((s.occupy k i c f).context j).decimation = (s.context j).decimation := by
    rw [hk]
    split <;> exact ⟨rfl, rfl, rfl⟩
  constructor
  case pending => exact h.pending
  case curves =>
    intro d
    have hpins := Conditioner.pinsHeld_set hslots d
    simp only [hi, Option.any_some, Option.any_none, Bool.false_eq_true, if_false, Nat.add_zero, beq_iff_eq] at hpins
    have hbind : (s.occupy k i c f).bind = s.bind := rfl
    rw [State.refsHeld_congr fun k => (hfield k).1, hbind, hcurve, hpins]
    split
    next e =>
      subst e
      refine (h.curves c).pin ?_
      exact countP_pos_of_getElem s.table.contexts k (by rw [← State.context, hbound]; exact beq_self_eq_true _)
    next => exact h.curves d
  case inFlight =>
    intro j
    have hframes := Conditioner.framesHeld_set hslots j
    simp only [hi, Option.any_some, Option.any_none, Bool.false_eq_true, if_false, Nat.add_zero, beq_iff_eq] at hframes
    have hbefore : (s.context j).inFlight = s.conditioner.framesHeld j := h.inFlight j
    show ((s.occupy k i c f).context j).inFlight = (s.occupy k i c f).conditioner.framesHeld j
    rw [hk, hframes]
    split <;> simp only [hbefore, Nat.add_zero]
  case age => exact h.age.occupy hslots rfl hi
  case ready => exact h.ready.set hslots rfl (by simp [hi]) (by simp)
  case averages =>
    refine h.averages.of_units (fun j => ?_) fun u b v hbusy => ?_
    · obtain ⟨-, ha, hd⟩ := hfield j
      rw [ha, hd]
      exact h.averages.1 j
    · obtain ⟨hu, hv⟩ := State.busySlot_iff.1 hbusy
      have hu' : s.conditioner.units[u] = some b := hu
      obtain ⟨w, hw, -⟩ := (hpair u b.slot).2 ⟨b, hu', rfl⟩
      rw [hslots, vmod_getElem] at hv
      split at hv
      next e =>
        rw [e, hw] at hi
        cases hi
      next => exact ⟨v, State.busySlot_iff.2 ⟨hu', hv⟩, (hfield _).2.2⟩
  case readBack =>
    refine h.readBack.of_eases (.refl _) fun d he => ?_
    rw [hcurve]
    split <;> exact he

end State.Tallied

end Sys2Proof.Machine
end

section
/-! The descriptors' events and the pairing of slots and units; and so every step keeps the counts: O59. -/

namespace Sys2Proof.Machine

/-! ### A unit's accumulator (04 R74) -/

/-- A value taken leaves the accumulator below N, emptied where it reached N. -/
theorem Working.accumulate_count {w : Working} {n : Nat} (h : w.acc.count < n) (v : Half) : (w.accumulate n v).acc.count < n := by
  unfold Working.accumulate
  dsimp only
  split
  · exact Nat.zero_lt_of_lt h
  next hne => exact Nat.lt_of_le_of_ne h hne

@[simp] theorem Working.clamp_count (w : Working) (c : Clamp) : (w.clamp c).acc.count = w.acc.count := by cases c <;> rfl

@[simp] theorem Working.check_acc (w : Working) (v : Half) : (w.check v).acc = w.acc := by
  unfold Working.check
  split <;> rfl

theorem Working.take_count {w : Working} {n : Nat} (h : w.acc.count < n) (c : Clamp) (v : Half) : (w.take n c v).acc.count < n :=
  Working.accumulate_count (w := (w.clamp c).check v) (by simpa using h) v

theorem Working.run_count {w : Working} {n : Nat} (h : w.acc.count < n) (knots : Nat) (l : List Half) : (w.run n knots l).acc.count < n := by
  induction l generalizing w with
  | nil => exact h
  | cons r rest ih =>
    unfold Working.run
    split
    · split
      · exact ih (Working.take_count h _ _)
      · exact h
    · exact h

theorem Working.granted_count {w : Working} {n : Nat} (h : w.acc.count < n) (knots : Nat) (l : List Half) (k : Knot) :
    (w.granted n knots l k).acc.count < n := by
  unfold Working.granted
  split
  · exact h
  · exact Working.run_count (w := { w with lastKnot := some k }) h _ _
  · split
    · split
      · exact Working.run_count (Working.take_count h _ _) _ _
      · exact h
    · exact h

/-- A grant to a unit moves its work on, its accumulator staying below N, and nothing else. -/
theorem State.grantUnit_cases (s : State) (u : UnitId) :
    s.grantUnit u = s ∨ ∃ b b' w, s.busySlot u = some (b, w) ∧ b'.slot = b.slot ∧
      (b.work.acc.count < (s.context w.context).decimation → b'.work.acc.count < (s.context w.context).decimation) ∧
      s.grantUnit u = { s with conditioner := { s.conditioner with units := vmod s.conditioner.units u fun _ => some b' } } := by
  unfold State.grantUnit
  split
  next b w k hb _ =>
    exact .inr ⟨b, { b with work := b.work.granted (s.context w.context).decimation (s.curve w.curve).knots w.samples k }, w, hb, rfl,
      fun hn => Working.granted_count hn _ _ _, rfl⟩
  next => exact .inl rfl

namespace State.Tallied
variable {s : State} (h : s.Tallied)
include h

theorem grantUnit (u : UnitId) : (s.grantUnit u).Tallied := by
  obtain e | ⟨b, b', w, hb, hslot, hcount, e⟩ := s.grantUnit_cases u
  · rwa [e]
  · rw [e]
    refine ⟨h.pending, h.curves, h.inFlight, h.age, h.ready, ⟨h.averages.1, fun v x w' hbusy => ?_⟩, h.readBack⟩
    obtain ⟨hx, hs⟩ := State.busySlot_iff.1 hbusy
    have hs' : s.conditioner.slots[x.slot] = some w' := hs
    have hx' : (vmod s.conditioner.units u fun _ => some b')[v] = some x := hx
    rw [vmod_getElem] at hx'
    split at hx'
    next =>
      cases hx'
      obtain ⟨i, work⟩ := b'
      obtain rfl : i = b.slot := hslot
      rw [(State.busySlot_iff.1 hb).2] at hs'
      cases hs'
      exact hcount (h.averages.2 u b w hb)
    next => exact h.averages.2 v x w' (State.busySlot_iff.2 ⟨hx', hs'⟩)

theorem grantReadBack : s.grantReadBack.Tallied := by
  refine h.withCurves (by simp) (by simp) (by simp) ?_ ?_
  · unfold State.grantReadBack
    split <;> exact h.curves
  · unfold State.grantReadBack
    split
    next r k hr _ =>
      obtain ⟨hsome, hempty⟩ := h.readBack r hr
      rintro _ ⟨⟩
      refine ⟨hsome, fun failed hp => ?_⟩
      have hcheck : ∃ f, r.purpose = .orderCheck f := by
        cases hr : r.purpose with
        | readKnots =>
          simp only [ReadBack.granted, hr] at hp
          cases hp
        | orderCheck f => exact ⟨f, rfl⟩
      obtain ⟨f, hf⟩ := hcheck
      exact hempty f hf
    next => exact h.readBack

theorem startReadBack {f : Frame} {r : ReadBack} (hf : s.mgmt.inHand = some f)
    (hr : r.purpose ≠ .readKnots → (s.curve r.curve).state = .empty) : (s.startReadBack r).Tallied := by
  refine h.withCurves rfl rfl rfl h.curves fun r' hr' => ?_
  obtain ⟨-, -, hcur⟩ := Management.inHand_eq_some hf
  obtain rfl : r = r' := Option.some.inj hr'
  exact ⟨Option.isSome_iff_exists.2 ⟨f, hcur⟩, fun failed hp => hr (by simp [hp])⟩

/-! ### The descriptors -/

/-- A BUILT curve without reservations given up. -/
theorem deleteCurve {c : CurveId} (hs : (s.curve c).state = .built) (hq : (s.curve c).reservations = 0) : (s.deleteCurve c).Tallied := by
  have hc (d : CurveId) := s.curve_deleteCurve c d
  refine h.withCurves (by simp) (by simp) (by simp) (fun d => ?_) (h.readBack.of_eases (by simp) fun d he => ?_)
  · rw [hc, State.deleteCurve_table, State.deleteCurve_conditioner, State.deleteCurve_bind]
    split
    next e => exact (h.curves d).retired (e ▸ hs) (e ▸ hq)
    next => exact h.curves d
  · rw [hc]
    split
    next e =>
      rw [← e, hs] at he
      cases he
    next => exact he

theorem releaseRequest (c : CurveId) : (s.releaseRequest c).Tallied := by
  rw [State.releaseRequest_eq]
  split
  next hc => exact h.deleteCurve hc.1 hc.2
  next => exact h

theorem releaseAll (l : List CurveId) : (s.releaseAll l).Tallied := by
  unfold State.releaseAll
  induction l generalizing s with
  | nil => exact h
  | cons c l ih => exact ih (h.releaseRequest c)

/-- An order check's curve is defined, and its read-back ends (03 R49, 05 R106). -/
theorem defineCurve {r : ReadBack} {failed : Option Nat} (hr : s.mgmt.readBack = some r) (hp : r.purpose = .orderCheck failed) :
    (s.defineCurve r).Tallied := by
  obtain ⟨hsome, hempty⟩ := h.readBack r hr
  obtain ⟨f, hf⟩ := Option.isSome_iff_exists.1 hsome
  have hdefine : ({ s with store := s.store.define r.curve r.pages r.knots, mgmt := { s.mgmt with readBack := none } } : State).Tallied := by
    refine h.withCurves rfl rfl rfl (fun c => ?_) (State.readBackKept_of_none rfl)
    have hc := s.curve_define r.curve r.pages r.knots c
    show (({ s with store := s.store.define r.curve r.pages r.knots } : State).curve c).Tallies _ _ _
    rw [hc]
    split
    next e => exact (h.curves c).define (e ▸ hempty failed hp) _ _ _
    next => exact h.curves c
  have hend : s.defineCurve r = ({ s with store := s.store.define r.curve r.pages r.knots, mgmt := { s.mgmt with readBack := none } } : State).respond
      f .ok [byteOf r.curve.val, (s.curve r.curve).generation + 1, byteOf r.pages.length, byteOf r.knots] := by
    unfold State.defineCurve State.endReadBack
    rw [show ({ s with store := s.store.define r.curve r.pages r.knots } : State).mgmt.current = some f from hf]
  rw [hend]
  exact hdefine.respond _ _ _

theorem finishReadBack : s.finishReadBack.Tallied := by
  obtain hq | ⟨r, hr, hp, e⟩ := s.finishReadBack_quiet
  · exact h.quiet hq
  · exact e ▸ h.defineCurve hr hp

end State.Tallied

/-! ### The bind unit (06 R114, R118, R121, R122) -/

theorem State.curve_withBind (s : State) (b : Option PendingBind) (c : CurveId) : ({ s with bind := b } : State).curve c = s.curve c := rfl

theorem naming_eq_countP (l : List Pair) (c : CurveId) : naming l c = l.countP fun p => p.curve == some c := rfl

/-- What a list of changes of distinct contexts does to the contexts bound to a curve, each change naming the curve its context had. -/
theorem ChannelTable.refsHeld_bindAll (t : ChannelTable) (l : List Change) (hn : (l.map Change.context).Nodup)
    (ho : ∀ x ∈ l, x.old = t.contexts[x.context].curve) (c : CurveId) :
    (t.bindAll l).refsHeld c + l.countP (fun x => x.old == some c) = t.refsHeld c + l.countP fun x => x.new == some c := by
  induction l generalizing t with
  | nil => rfl
  | cons x l ih =>
    rw [List.map_cons, List.nodup_cons] at hn
    obtain ⟨hfresh, hn⟩ := hn
    have hrest := ih { t with contexts := vmod t.contexts x.context fun k => { k with curve := x.new } } hn fun y hy => by
      have hne : x.context ≠ y.context := fun e => hfresh (List.mem_map.2 ⟨y, hy, e.symm⟩)
      show y.old = (vmod t.contexts x.context fun k => { k with curve := x.new })[y.context].curve
      rw [vmod_other _ _ hne]
      exact ho y (List.mem_cons_of_mem _ hy)
    have hone := countP_vmod t.contexts x.context (fun k => { k with curve := x.new }) fun k => k.curve == some c
    have hold := ho x List.mem_cons_self
    rw [ChannelTable.bindAll_cons, List.countP_cons, List.countP_cons]
    unfold ChannelTable.refsHeld at hrest ⊢
    simp only [← hold] at hone hrest
    omega

/-- Pairs of distinct channels change distinct contexts, the map and the back-references agreeing. -/
theorem State.changes_nodup {s : State} (hl : s.table.Linked) {l : List Pair} (hn : (l.map Pair.channel).Nodup) :
    ((s.changes l).map Change.context).Nodup := by
  rw [List.Nodup, List.pairwise_map] at hn ⊢
  refine List.Pairwise.filterMap _ (fun p q hpq x hx y hy e => hpq ?_) hn
  obtain ⟨hp, -⟩ := State.changeOf_eq_some hx
  obtain ⟨hq, -⟩ := State.changeOf_eq_some hy
  have hpk := (hl _ _).1 hp
  have hqk := (hl _ _).1 hq
  rw [e, hqk] at hpk
  exact (Option.some.inj hpk).symm

section
variable {s : State} (h : s.Tallied)
include h

/-- The changes of pairs of distinct channels written and claimed, for a command in hand (06 R114). -/
theorem State.Tallied.applyChanges (hl : s.table.Linked) {l : List Pair} (hn : (l.map Pair.channel).Nodup) (hr : s.mgmt.readBack = none) :
    (s.applyChanges (s.changes l)).Tallied := by
  have hfield (k : ContextId) : ((s.applyChanges (s.changes l)).context k).inFlight = (s.context k).inFlight ∧
      ((s.applyChanges (s.changes l)).context k).acc = (s.context k).acc ∧
      ((s.applyChanges (s.changes l)).context k).decimation = (s.context k).decimation := by
    obtain ⟨c, hc, -⟩ := s.applyChanges_context l k
    rw [hc]
    exact ⟨rfl, rfl, rfl⟩
  refine ⟨h.pending, fun c => ?_, fun k => ?_, h.age, h.ready, ?_, State.readBackKept_of_none hr⟩
  · rw [State.curve_applyChanges]
    refine (h.curves c).claim c _ ?_
    refine s.table.refsHeld_bindAll _ (State.changes_nodup hl hn) (fun x hx => ?_) c
    obtain ⟨p, -, hp⟩ := List.mem_filterMap.1 hx
    exact (State.changeOf_eq_some hp).2.1
  · rw [(hfield k).1]
    exact h.inFlight k
  · refine h.averages.of_units (fun k => ?_) fun u b w hb => ⟨w, hb, (hfield _).2.2⟩
    obtain ⟨-, ha, hd⟩ := hfield k
    rw [ha, hd]
    exact h.averages.1 k

theorem State.Tallied.bindNow (hl : s.table.Linked) {l : List Pair} (hn : (l.map Pair.channel).Nodup) (hr : s.mgmt.readBack = none) :
    (s.bindNow l).Tallied :=
  (h.applyChanges hl hn hr).releaseAll _

/-- A pending set that is taken away gives its reservations back (06 R121, R122). -/
theorem State.Tallied.dropPending {b : PendingBind} (hb : s.bind = some b) : ({ s.unreserve b.pairs with bind := none } : State).Tallied := by
  refine h.withPending (by simp) (by simp) (by simp) (fun c => ?_) (h.readBack.of_eases (by simp) fun c he => ?_)
  · have hc := h.curves c
    rw [hb] at hc
    rw [State.curve_withBind, State.curve_unreserve]
    simpa [reservationsHeld] using hc.unreserve
  · rwa [State.curve_withBind, State.curve_unreserve]

theorem State.Tallied.applyPending (hl : s.table.Linked) {b : PendingBind} (hb : s.bind = some b) (hr : s.mgmt.readBack = none) :
    (s.applyPending b).Tallied :=
  ((h.applyChanges hl (h.pending b hb).1 hr).dropPending hb).releaseAll _

/-- Pairs that pass validation are pending, with a reservation for each curve they name (06 R118). -/
theorem State.Tallied.prepare (hb : s.bind = none) {l : List RawPair} (hlen : l.length ≤ 8) (hv : s.validate [] l = none) (tag : Byte) :
    ({ s.reserve (l.map RawPair.pair) with bind := some ⟨tag, l.map RawPair.pair⟩ } : State).Tallied := by
  obtain ⟨hn, hpairs⟩ := State.validate_eq_none hv
  refine h.withPending (by simp) (by simp) ?_ (fun c => ?_) (h.readBack.of_eases (by simp) fun c he => ?_)
  · intro b hb'
    obtain rfl : ⟨tag, l.map RawPair.pair⟩ = b := Option.some.inj hb'
    refine ⟨?_, by simpa using hlen⟩
    rw [List.map_map]
    exact hn
  · have hc := h.curves c
    rw [hb] at hc
    have hd := hc.reserve (n := naming (l.map RawPair.pair) c) fun hnaming => by
      rw [naming_eq_countP] at hnaming
      obtain ⟨p, hp, hpc⟩ := List.countP_pos_iff.1 (Nat.pos_of_ne_zero hnaming)
      obtain ⟨q, hq, rfl⟩ := List.mem_map.1 hp
      obtain ⟨-, seen, hf⟩ := hpairs q hq
      obtain ⟨-, -, hstate, -⟩ := State.pairFault_eq_none hf
      exact hstate c (beq_iff_eq.1 hpc)
    rw [State.curve_withBind, State.curve_reserve]
    simpa [reservationsHeld] using hd
  · rwa [State.curve_withBind, State.curve_reserve]

/-- At a soft reset no frame is in flight and no curve is pinned (02 R41, 03 R62, 04 R84). -/
theorem State.Tallied.resetSoft (f : Frame) : (s.resetSoft f).Tallied := by
  have hk (k : ContextId) := s.context_resetSoft f k
  have hslots (i : SlotId) : Conditioner.reset.slots[i] = none := by simp [Conditioner.reset]
  refine ⟨h.pending, fun c => ?_, fun k => ?_, ⟨List.nodup_nil, fun i => ?_⟩, ⟨List.nodup_nil, fun i => ?_⟩, ⟨fun k => ?_, fun u b w hb => ?_⟩,
    State.readBackKept_of_none rfl⟩
  · rw [State.curve_resetSoft, State.refsHeld_congr (s := s) fun k => by rw [hk]; rfl]
    exact (h.curves c).resetSoft
  · rw [hk]
    rfl
  · exact iff_of_false List.not_mem_nil (by rw [show (s.resetSoft f).conditioner.slots[i] = none from hslots i]; simp)
  · refine iff_of_false List.not_mem_nil ?_
    rintro ⟨w, -, -, hw, -⟩
    rw [show (s.resetSoft f).conditioner.slots[i] = none from hslots i] at hw
    cases hw
  · rw [hk]
    exact h.decimation_pos k
  · have hs : (s.resetSoft f).conditioner.slots[b.slot] = none := hslots b.slot
    rw [(State.busySlot_iff.1 hb).2] at hs
    cases hs

end

theorem State.reset_tallied : State.reset.Tallied := by
  have hslots (i : SlotId) : State.reset.conditioner.slots[i] = none := by simp [State.reset, Conditioner.reset]
  refine ⟨fun b hb => (by cases hb), fun c => ?_, fun k => ?_, ⟨List.nodup_nil, fun i => ?_⟩, ⟨List.nodup_nil, fun i => ?_⟩,
    ⟨fun k => ?_, fun u b w hb => ?_⟩, State.readBackKept_of_none rfl⟩
  · rw [State.reset_curve]
    have hrefs : State.reset.table.refsHeld c = 0 := by
      refine List.countP_eq_zero.2 fun x hx => ?_
      obtain ⟨i, hi, rfl⟩ := List.getElem_of_mem hx
      have hcontext : State.reset.table.contexts.toList[i] = State.reset.context ⟨i, by simpa using hi⟩ := by simp only [State.context]; rfl
      rw [hcontext, State.reset_context]
      exact Bool.false_ne_true
    rw [hrefs]
    exact ⟨rfl, rfl, rfl, rfl, rfl, rfl⟩
  · rw [State.reset_context]
    rfl
  · exact iff_of_false List.not_mem_nil (by rw [hslots]; simp)
  · refine iff_of_false List.not_mem_nil ?_
    rintro ⟨w, -, -, hw, -⟩
    rw [hslots] at hw
    cases hw
  · rw [State.reset_context]
    decide
  · have hs := hslots b.slot
    rw [(State.busySlot_iff.1 hb).2] at hs
    cases hs

end Sys2Proof.Machine
end

section
/-! Which unit converts which slot, event by event; and so every step keeps the counts: O59. -/

namespace Sys2Proof.Machine

/-! ### Slots and units (04 R63, R65) -/

/-- A slot released is made FREE; what else the release brings about touches no slot (04 R79). -/
theorem State.releaseSlot_conditioner {s : State} {i : SlotId} {w : WorkSlot} (hi : s.conditioner.slots[i] = some w) :
    (s.releaseSlot i).conditioner = s.conditioner.free i := by
  unfold State.releaseSlot
  rw [hi]
  simp

/-- The head of the ready order is a READY slot (04 R64). -/
theorem State.readyHead_eq_some {s : State} {i : SlotId} {w : WorkSlot} {f : Frame} (h : s.readyHead = some (i, w, f)) :
    s.conditioner.slots[i] = some w ∧ ∃ o q, w.phase = .ready o q := by
  unfold State.readyHead at h
  split at h
  next j rest _ =>
    obtain ⟨v, hv, hf⟩ := Option.bind_eq_some_iff.1 h
    obtain ⟨g, hg, e⟩ := Option.map_eq_some_iff.1 hf
    cases e
    refine ⟨hv, ?_⟩
    unfold WorkSlot.built at hg
    split at hg
    next o q hp => exact ⟨o, q, hp⟩
    next => cases hg
    next => cases hg
  next => cases h

section
variable {s : State}

theorem State.enterCq_paired (h : s.conditioner.Paired) : s.enterCq.conditioner.Paired := by
  unfold State.enterCq
  split
  next i w f hr =>
    obtain ⟨hi, o, q, hp⟩ := State.readyHead_eq_some hr
    split
    · rw [State.releaseSlot_conditioner (s := { s with merger := { s.merger with cq := s.merger.cq ++ [(⟨f, w.context⟩ : CqEntry)] } }) hi]
      refine (h.but fun v u hv => ?_).free
      rw [hi] at hv
      cases hv
      simp [hp]
    · exact h
  · exact h

theorem State.startOne_paired (h : s.conditioner.Paired) : s.startOne.conditioner.Paired := by
  obtain e | ⟨u, i, w, hu, -, hi, hq, e⟩ := s.startOne_cases
  · rwa [e]
  · rw [e, State.startOn, hi]
    exact h.start (Conditioner.idleUnit_eq_some hu) hi hq rfl rfl rfl rfl

theorem State.settleSlot_paired {i : SlotId} {w : WorkSlot} (outputs : List Output) (h : s.conditioner.PairedBut i)
    (hi : s.conditioner.slots[i] = some w) : (s.settleSlot i w outputs).conditioner.Paired := by
  unfold State.settleSlot
  split
  · rw [State.releaseSlot_conditioner hi]
    exact h.free
  · have hready : (s.makeReady i w outputs).conditioner.Paired :=
      h.set (w := some { w with phase := .ready outputs (s.context w.context).outSeq }) rfl rfl (by rintro _ _ ⟨⟩; simp)
    dsimp only
    split
    · exact State.enterCq_paired hready
    · exact hready

theorem State.endConversion_paired (h : s.conditioner.Paired) (u : UnitId) : (s.endConversion u).conditioner.Paired := by
  unfold State.endConversion
  split
  · split
    next b w hb =>
      obtain ⟨hu, hs⟩ := State.busySlot_iff.1 hb
      have hcommit : (s.commit w b.work).conditioner = s.conditioner := by simp
      have hidle : ((s.commit w b.work).idleUnit u).conditioner.PairedBut b.slot :=
        h.idle hu (by rw [← hcommit]; rfl) (by rw [← hcommit]; rfl)
      have hslot : ((s.commit w b.work).idleUnit u).conditioner.slots[b.slot] = some w := by
        show (s.commit w b.work).conditioner.slots[b.slot] = some w
        rw [hcommit]
        exact hs
      exact State.startOne_paired (State.startOne_paired (State.settleSlot_paired b.work.outputs hidle hslot))
    · exact h
  · exact h

theorem State.grantUnit_paired (h : s.conditioner.Paired) (u : UnitId) : (s.grantUnit u).conditioner.Paired := by
  obtain e | ⟨b, b', w, hb, hslot, -, e⟩ := s.grantUnit_cases u
  · rwa [e]
  · rw [e]
    exact h.work (State.busySlot_iff.1 hb).1 rfl rfl hslot

/-- A FREE slot takes a frame. -/
theorem State.occupy_paired (h : s.conditioner.Paired) (k : ContextId) {i : SlotId} (c : CurveId) (f : Frame)
    (hi : s.conditioner.slots[i] = none) : (s.occupy k i c f).conditioner.Paired :=
  (h.but (i := i) (by simp [hi])).set (w := some ⟨.queued, k, f.addr, c, f.timestamp, f.samples⟩) rfl rfl (by rintro _ _ ⟨⟩; simp)

end

theorem Conditioner.reset_paired : Conditioner.reset.Paired := by
  intro u i
  refine iff_of_false ?_ ?_
  · rintro ⟨w, hw, -⟩
    simp [Conditioner.reset] at hw
  · rintro ⟨b, hb, -⟩
    simp [Conditioner.reset] at hb

/-! ### Every event -/

theorem State.CountsKept.channels {s : State} (h : s.CountsKept) : s.ChannelsKept := ((State.countsKept_iff s).1 h).1

/-- An event that leaves slots and units alone. -/
theorem State.CountsKept.of_conditioner {s t : State} (h : s.CountsKept) (hc : t.ChannelsKept) (ht : t.Tallied)
    (hx : t.conditioner = s.conditioner) : t.CountsKept := by
  obtain ⟨-, -, hp⟩ := (State.countsKept_iff s).1 h
  exact (State.countsKept_iff t).2 ⟨hc, ht, hx ▸ hp⟩

/-- Every event keeps what chapters 02 to 04 have of the counts. -/
theorem State.countsKept_keptByEvents : KeptByEvents State.CountsKept := by
  have K := State.channelsKept_keptByEvents
  have hparts {s : State} (h : s.CountsKept) := (State.countsKept_iff s).1 h
  have hlinked {s : State} (h : s.CountsKept) : s.table.Linked := ((State.channelsKept_iff s).1 h.channels).1.linked
  constructor
  case quiet =>
    intro s t e h
    exact h.of_conditioner (K.quiet s t e h.channels) ((hparts h).2.1.quiet e) e.conditioner
  case restart =>
    intro s h
    exact (State.countsKept_iff _).2 ⟨K.restart s h.channels, 
      State.reset_tallied.same (.of_table State.reset_tallied rfl rfl rfl rfl (.refl _)), Conditioner.reset_paired⟩
  case resetSoft =>
    intro s f h
    exact (State.countsKept_iff _).2 ⟨K.resetSoft s f h.channels, (hparts h).2.1.resetSoft f, Conditioner.reset_paired⟩
  case fence =>
    intro s f k hf hp h
    have hfence := (hparts h).2.1.setFence k true
    refine h.of_conditioner (K.fence s f k hf hp h.channels) ?_ rfl
    exact hfence.withCurves rfl rfl rfl hfence.curves (State.readBackKept_of_none (Management.inHand_eq_some hf).2.1)
  case finishFenced =>
    intro s f hf hc hp h0 h
    exact h.of_conditioner (K.finishFenced s f hf hc hp h0 h.channels) ((hparts h).2.1.finishFenced hc h0) (by simp)
  case settleFence =>
    intro s h
    exact h.of_conditioner (K.settleFence s h.channels) (hparts h).2.1.settleFence (by simp)
  case enterCq =>
    intro s h
    obtain ⟨hc, ht, hp⟩ := hparts h
    exact (State.countsKept_iff _).2 ⟨K.enterCq s hc, ht.enterCq, State.enterCq_paired hp⟩
  case occupy =>
    intro s k i c f hi hk h
    obtain ⟨hc, ht, hp⟩ := hparts h
    exact (State.countsKept_iff _).2 ⟨K.occupy s k i c f hi hk hc, ht.occupy hp f hi hk, State.occupy_paired hp k c f hi⟩
  case startConversions =>
    intro s h
    obtain ⟨hc, ht, hp⟩ := hparts h
    exact (State.countsKept_iff _).2 ⟨K.startConversions s hc, ht.startConversions, State.startOne_paired (State.startOne_paired hp)⟩
  case endConversion =>
    intro s u h
    obtain ⟨hc, ht, hp⟩ := hparts h
    exact (State.countsKept_iff _).2 ⟨K.endConversion s u hc, ht.endConversion hp u, State.endConversion_paired hp u⟩
  case finishReadBack =>
    intro s h
    exact h.of_conditioner (K.finishReadBack s h.channels) (hparts h).2.1.finishReadBack (by simp)
  case grantUnit =>
    intro s u h
    obtain ⟨hc, ht, hp⟩ := hparts h
    exact (State.countsKept_iff _).2 ⟨K.grantUnit s u hc, ht.grantUnit u, State.grantUnit_paired hp u⟩
  case grantReadBack =>
    intro s h
    exact h.of_conditioner (K.grantReadBack s h.channels) (hparts h).2.1.grantReadBack (by simp)
  case startReadBack =>
    intro s f r hf hr h
    exact h.of_conditioner (K.startReadBack s f r hf hr h.channels) ((hparts h).2.1.startReadBack hf hr) rfl
  case deleteCurve =>
    intro s f c hf hs hq h
    exact h.of_conditioner (K.deleteCurve s f c hf hs hq h.channels) ((hparts h).2.1.deleteCurve hs hq) (by simp)
  case bindNow =>
    intro s f l hf hv h
    have hn : ((l.map RawPair.pair).map Pair.channel).Nodup := by
      rw [List.map_map]
      exact (State.validate_eq_none hv).1
    exact h.of_conditioner (K.bindNow s f l hf hv h.channels)
      ((hparts h).2.1.bindNow (hlinked h) hn (Management.inHand_eq_some hf).2.1) (State.bindNow_conditioner s _)
  case prepare =>
    intro s f l tag hf hb hlen hv h
    exact h.of_conditioner (K.prepare s f l tag hf hb hlen hv h.channels) ((hparts h).2.1.prepare hb hlen hv tag) (by simp)
  case applyPending =>
    intro s f b hf hb h
    exact h.of_conditioner (K.applyPending s f b hf hb h.channels)
      ((hparts h).2.1.applyPending (hlinked h) hb (Management.inHand_eq_some hf).2.1) (State.applyPending_conditioner s b)
  case cancelPending =>
    intro s f b hf hb h
    exact h.of_conditioner (K.cancelPending s f b hf hb h.channels) ((hparts h).2.1.dropPending hb) (State.cancelPending_conditioner s b)

/-- Settles O59: every event keeps the counts, and so every step does. -/
theorem stepKeepsCounts : Obligations.StepKeepsCounts :=
  fun _ _ h hstep => State.countsKept_keptByEvents.step (fun _ _ h => h) (fun _ _ h => h) h hstep

end Sys2Proof.Machine
end

section
/-! The fence and MAP_CHANNEL: O23, O35. -/

namespace Sys2Proof.Machine

/-! ### What a command in hand comes to -/

/-- A new command leaves map, contexts and pending set to its checks as they are. -/
@[simp] theorem State.begun_context (s : State) (f : Frame) (k : ContextId) : (s.begun f).context k = s.context k := rfl

/-- A command fenced in hand: its cache entry in progress, the context's fence set, the engine waiting. -/
theorem fencedOn_eq (s : State) (f : Frame) (k : ContextId) : fencedOn s f k = (s.begun f).fence k := rfl

theorem State.channelPending_iff (s : State) (c : Byte) :
    s.channelPending c = true ↔ ∃ b, s.bind = some b ∧ ∃ p ∈ b.pairs, p.channel = c := by
  unfold State.channelPending
  cases s.bind with
  | none => simp
  | some b => simp

theorem State.channelPendingNone_iff (s : State) (c : Byte) :
    s.channelPendingNone c = true ↔ ∃ b, s.bind = some b ∧ ∃ p ∈ b.pairs, p.channel = c ∧ p.curve = none := by
  unfold State.channelPendingNone
  cases s.bind with
  | none => simp
  | some b => simp

theorem contextOf_val (b : Byte) {k : ContextId} (h : b.toNat = k.val) : contextOf b = some k := by
  have hlt : b.toNat < 64 := h ▸ k.isLt
  rw [contextOf, dif_pos hlt]
  exact congrArg some (Fin.ext h)

theorem contextOf_of_le {b : Byte} (h : 64 ≤ b.toNat) : contextOf b = none := dif_neg (Nat.not_lt.2 h)

theorem contextByte_eq (t : Option ContextId) : contextByte t = t.elim 0xFF fun k => BitVec.ofNat 8 k.val := by
  cases t <;> rfl

theorem byteOf_toNat (b : Byte) : byteOf b.toNat = b := BitVec.ofNat_toNat 8 b

/-! ### The fence (02 R36, R37) -/

theorem State.fenceTarget_map (s : State) {f : Frame} {channel target : Byte} (hc : f.code = codeMapChannel) (hp : f.payload = [channel, target]) :
    s.fenceTarget f = s.table.lookup channel := by
  rw [State.fenceTarget, if_pos hc, hp]
  rfl

theorem State.finishFenced_map (s : State) {f : Frame} {channel target : Byte} {t : Option ContextId} (hc : f.code = codeMapChannel)
    (hp : f.payload = [channel, target]) (ht : mapTarget target = some t) : s.finishFenced f = s.finishMap f channel t := by
  simp only [State.finishFenced, if_pos hc, hp, ht]

theorem State.finishFenced_settings (s : State) {f : Frame} {p : ChannelSettings} (hc : f.code = codeSetChannel)
    (hp : settingsOf f.payload = some p) : s.finishFenced f = s.finishSettings f p := by
  have hne : f.code ≠ codeMapChannel := by rw [hc]; decide
  simp only [State.finishFenced, if_neg hne, hp]

section
variable {s : State} {f : Frame} {k : ContextId} (hs : s.mgmt.state = .fenceWait) (hf : s.mgmt.current = some f)
  (ht : s.fenceTarget f = some k)
include hs hf ht

theorem State.fenceDue_eq : s.fenceDue = if (s.context k).fenced ∧ (s.context k).inFlight = 0 then some (f, k) else none := by
  simp only [State.fenceDue, hs, hf, ht, if_true]

/-- While the context has frames in flight the command waits on. -/
theorem State.settleFence_of_inFlight (h : (s.context k).inFlight ≠ 0) : s.settleFence = s := by
  unfold State.settleFence
  rw [State.fenceDue_eq hs hf ht, if_neg fun hc => h hc.2]

/-- With none in flight the fence is cleared and the command applied. -/
theorem State.settleFence_of_zero (hfenced : (s.context k).fenced = true) (h : (s.context k).inFlight = 0) :
    s.settleFence = (s.setFence k false).finishFenced f := by
  unfold State.settleFence
  rw [State.fenceDue_eq hs hf ht, if_pos ⟨hfenced, h⟩]

end

/-- Settles O23: FENCE_APPLY is the settling of the fence, on the context each of the two commands is fenced on. -/
theorem fenceApplyResult : Obligations.FenceApplyResult := by
  intro s
  have hexec : exec .fenceApply s = .next s.settleFence := rfl
  rw [hexec]
  refine ⟨fun hs => ?_, fun f k hs hf hfenced => ⟨fun channel target old hc hp hl ht => ?_, fun p hc hp hk => ?_⟩⟩
  · rw [State.settleFence, State.fenceDue, if_neg hs]
  · have htarget : s.fenceTarget f = some k := (s.fenceTarget_map hc hp).trans hl
    refine ⟨fun hn => by rw [State.settleFence_of_inFlight hs hf htarget hn], fun h0 => ?_⟩
    rw [State.settleFence_of_zero hs hf htarget hfenced h0, State.finishFenced_map _ hc hp ht]
  · have htarget : s.fenceTarget f = some k := hk ▸ State.fenceTarget_settings hc hp
    refine ⟨fun hn => by rw [State.settleFence_of_inFlight hs hf htarget hn], fun h0 => ?_⟩
    rw [State.settleFence_of_zero hs hf htarget hfenced h0, State.finishFenced_settings _ hc hp]

/-! ### MAP_CHANNEL (02 R30, R31) -/

theorem mapTarget_bad {b : Byte} (h : 64 ≤ b.toNat) (hne : b ≠ 0xFF) : mapTarget b = none := by
  rw [mapTarget, if_neg hne, contextOf_of_le h]
  rfl

/-- A target byte and what it means: NONE, or a context. -/
theorem mapTarget_eq {b : Byte} {t : Option ContextId} (h : (b = 0xFF ∧ t = none) ∨ ∃ k : ContextId, t = some k ∧ b.toNat = k.val) :
    mapTarget b = some t ∧ contextByte t = b := by
  rcases h with ⟨rfl, rfl⟩ | ⟨k, rfl, hk⟩
  · exact ⟨rfl, rfl⟩
  · have hne : b ≠ 0xFF := by
      rintro rfl
      have hlt := k.isLt
      rw [← hk] at hlt
      exact absurd hlt (by decide)
    rw [mapTarget, if_neg hne, contextOf_val b hk]
    exact ⟨rfl, (congrArg byteOf hk.symm).trans (byteOf_toNat b)⟩

section
variable (s : State) {f : Frame} {channel target : Byte} (hp : f.payload = [channel, target])
include hp

theorem mapChannelBody_badArg (ht : mapTarget target = none) : mapChannelBody f s = s.respond f .badArg [] := by
  unfold mapChannelBody
  simp only [hp, ht]

variable {t : Option ContextId} (ht : mapTarget target = some t)
include ht

theorem mapChannelBody_reserved
    (hr : (s.channelPending channel || (t.bind fun k => (s.context k).channel).any s.channelPending) = true) :
    mapChannelBody f s = s.respond f .reserved [] := by
  unfold mapChannelBody
  simp only [hp, ht, hr, if_true]

variable (hr : (s.channelPending channel || (t.bind fun k => (s.context k).channel).any s.channelPending) = false)
include hr

theorem mapChannelBody_inUse {other : Byte} (ho : (t.bind fun k => (s.context k).channel) = some other) (hne : other ≠ channel) :
    mapChannelBody f s = s.respond f .inUse [other] := by
  unfold mapChannelBody
  rw [ho] at hr
  simp only [hp, ht, ho, hr, Bool.false_eq_true, if_false]
  rw [if_pos hne]

theorem mapChannelBody_passed (ho : ∀ other, (t.bind fun k => (s.context k).channel) = some other → other = channel) :
    mapChannelBody f s = mapChannelBody.fenceOrFinish f s := by
  unfold mapChannelBody
  simp only [hp, ht]
  cases hh : t.bind fun k => (s.context k).channel with
  | none =>
    rw [hh] at hr
    simp only [hr, Bool.false_eq_true, if_false]
  | some other =>
    rw [hh] at hr
    simp only [hr, Bool.false_eq_true, if_false]
    rw [if_neg (not_not.2 (ho other hh))]

end

section
variable (s : State) {f : Frame} {channel target : Byte} (hc : f.code = codeMapChannel) (hp : f.payload = [channel, target])
include hc hp

theorem fenceOrFinish_fenced {k : ContextId} (hl : s.table.lookup channel = some k) (h : (s.context k).inFlight ≠ 0) :
    mapChannelBody.fenceOrFinish f s = s.fence k := by
  simp only [mapChannelBody.fenceOrFinish, s.fenceTarget_map hc hp, hl, if_neg h]

theorem fenceOrFinish_finished {t : Option ContextId} (ht : mapTarget target = some t)
    (h : ∀ k, s.table.lookup channel = some k → (s.context k).inFlight = 0) :
    mapChannelBody.fenceOrFinish f s = s.finishMap f channel t := by
  unfold mapChannelBody.fenceOrFinish
  rw [s.fenceTarget_map hc hp, s.finishFenced_map hc hp ht]
  cases hl : s.table.lookup channel with
  | none => rfl
  | some k => exact if_pos (h k hl)

end

/-- MAP_CHANNEL writes the table and the target context's counters, and nothing else (02 R31). -/
theorem State.applyMap_frame (s : State) (channel : Byte) (t : Option ContextId) :
    s.applyMap channel t = { s with
      table := (s.applyMap channel t).table
      counters := { s.counters with contexts := (s.applyMap channel t).counters.contexts } } := by
  unfold State.applyMap
  cases s.table.lookup channel <;> cases t <;> rfl

/-- Losing its back-reference leaves a context's accumulator as it is. -/
theorem State.acc_unmapped (s : State) (old k : ContextId) :
    ((s.modContext old fun c => { c with channel := none }).context k).acc = (s.context k).acc := by
  rw [State.context_modContext]
  split <;> rfl

/-- The values of the target context's accumulator are counted as discarded (02 R28, R31). -/
theorem State.applyMap_counters_some (s : State) (channel : Byte) (k : ContextId) :
    (s.applyMap channel (some k)).counters.contexts = vmod s.counters.contexts k
      fun c => { c with decimDiscard := c.decimDiscard + amount (s.context k).acc.count } := by
  unfold State.applyMap
  cases s.table.lookup channel with
  | none => rfl
  | some old => rw [← s.acc_unmapped old k]; rfl

theorem State.applyMap_counters_none (s : State) (channel : Byte) :
    (s.applyMap channel none).counters.contexts = s.counters.contexts := by
  unfold State.applyMap
  cases s.table.lookup channel <;> rfl

theorem execMapChannel_taken {s : State} {f : Frame} {channel target : Byte} (h : s.Takes f) (hc : f.code = codeMapChannel)
    (hp : f.payload = [channel, target]) : exec .mapChannel s = .next (mapChannelBody f (s.begun f)) :=
  State.command_taken h (beq_iff_eq.2 hc) (by simp [lengthIs, hp])

/-- Settles O35: the body's checks one by one, then the change as the four reads of the part it makes. -/
theorem mapChannelResult : Obligations.MapChannelResult := by
  refine ⟨fun s f channel target h hc hp => ⟨fun hlow hne => ?_, fun t ht => ?_⟩, fun s channel t => ⟨s.applyMap_frame channel t, ?_, fun c hne => ?_, fun k => ⟨?_, ?_⟩⟩⟩
  · rw [execMapChannel_taken h hc hp, mapChannelBody_badArg _ hp (mapTarget_bad hlow hne)]
    rfl
  · obtain ⟨htarget, hbyte⟩ := mapTarget_eq ht
    have hheld (c : Byte) : (t.bind fun k => ((s.begun f).context k).channel) = some c ↔ ∃ k, t = some k ∧ (s.context k).channel = some c := by
      simp [Option.bind_eq_some_iff]
    have hreserved : ((s.begun f).channelPending channel || (t.bind fun k => ((s.begun f).context k).channel).any (s.begun f).channelPending) = true ↔
        (∃ b, s.bind = some b ∧ ∃ p ∈ b.pairs, p.channel = channel) ∨
          ∃ c, (∃ k, t = some k ∧ (s.context k).channel = some c) ∧ ∃ b, s.bind = some b ∧ ∃ p ∈ b.pairs, p.channel = c := by
      simp only [Bool.or_eq_true, Option.any_eq_true, hheld, State.channelPending_iff]
      rfl
    rw [execMapChannel_taken h hc hp]
    refine ⟨fun hr => ?_, fun hr => ?_⟩
    · rw [mapChannelBody_reserved _ hp htarget (hreserved.2 hr)]
      rfl
    have hclear := Bool.eq_false_of_not_eq_true (mt hreserved.1 hr)
    refine ⟨fun c hc' hne => ?_, fun hsame => ?_⟩
    · rw [mapChannelBody_inUse _ hp htarget hclear ((hheld c).2 hc') hne]
      rfl
    rw [mapChannelBody_passed _ hp htarget hclear fun c hc' => hsame c ((hheld c).1 hc')]
    refine ⟨fun o ho hn => ?_, fun hfree => ?_⟩
    · rw [fenceOrFinish_fenced (s.begun f) hc hp ho hn, fencedOn_eq]
    · rw [fenceOrFinish_finished (s.begun f) hc hp htarget hfree, State.finishMap, hbyte, contextByte_eq]
      rfl
  · rw [State.applyMap_lookup, if_pos rfl]
  · rw [State.applyMap_lookup, if_neg hne.symm]
  · rintro rfl
    refine ⟨by rw [State.applyMap_context, if_pos rfl]; rfl, ?_⟩
    rw [State.applyMap_counters_some]
    exact vmod_self ..
  · intro hne
    refine ⟨by rw [State.applyMap_context, if_neg hne], ?_⟩
    cases t with
    | none => rw [State.applyMap_counters_none]
    | some j =>
      rw [State.applyMap_counters_some]
      exact vmod_other _ _ fun hj => hne (congrArg some hj)

end Sys2Proof.Machine
end

section
/-! SET_CHANNEL and GET_CHANNEL: O36, O37. -/

namespace Sys2Proof.Machine

/-! ### SET_CHANNEL (02 R33, R34) -/

theorem execSetChannel_taken {s : State} {f : Frame} (h : s.Takes f) (hc : f.code = codeSetChannel)
    (hl : setChannelLength f.payload = true) : exec .setChannel s = .next (setChannelBody f (s.begun f)) :=
  State.command_taken h (beq_iff_eq.2 hc) hl

/-- What a payload of SET_CHANNEL spells is what its length rule and its limit record's decoding read in it. -/
theorem spellsBounds_reads {context mode n flags : Byte} {rest : List Byte} {bounds : Option LimitRecord}
    (h : spellsBounds (context :: mode :: n :: flags :: rest) flags bounds) :
    setChannelLength (context :: mode :: n :: flags :: rest) = true ∧ boundsOf flags rest = bounds := by
  rcases h with ⟨c, m, n', hp, hbit, rfl⟩ | ⟨c, m, n', l1, l0, h1, h0, y1, y0, hp, hbit, rfl⟩
  · cases hp
    exact ⟨congrArg (! ·) hbit, if_neg (ne_true_of_eq_false hbit)⟩
  · cases hp
    exact ⟨hbit, if_pos hbit⟩

/-- The mode bytes are 0, 1 and 2 (02 Table 2-3). -/
theorem Mode.ofCode_of_le {b : Byte} (h : 3 ≤ b.toNat) : Mode.ofCode b = none := by
  have h0 : b ≠ 0 := by rintro rfl; exact absurd h (by decide)
  have h1 : b ≠ 1 := by rintro rfl; exact absurd h (by decide)
  have h2 : b ≠ 2 := by rintro rfl; exact absurd h (by decide)
  rw [Mode.ofCode, if_neg h0, if_neg h1, if_neg h2]

theorem Mode.ofCode_of_lt {b : Byte} (h : b.toNat < 3) : ∃ m, Mode.ofCode b = some m ∧ m.code = b := by
  have hcases : b = 0 ∨ b = 1 ∨ b = 2 := by bv_omega
  rcases hcases with rfl | rfl | rfl
  · exact ⟨.off, rfl, rfl⟩
  · exact ⟨.pass, rfl, rfl⟩
  · exact ⟨.cond, rfl, rfl⟩

theorem Mode.code_eq_two {m : Mode} : m.code = 2 ↔ m = .cond := by
  cases m <;> decide

/-- A limit record is accepted unless L is over H or the hysteresis over 4095 (02 R27). -/
theorem all_ok_iff (bounds : Option LimitRecord) :
    bounds.all LimitRecord.ok = true ↔ ¬ ∃ b ∈ bounds, b.high.toInt < b.low.toInt ∨ 4095 < b.hysteresis.toNat := by
  simp [Option.all_eq_true, LimitRecord.ok]

section
variable {context mode n flags : Byte} {rest : List Byte}

/-- The fields of a SET_CHANNEL that is out of range (02 R33, checks 1 and 2). -/
theorem settingsOf_bad (h : 64 ≤ context.toNat ∨ 3 ≤ mode.toNat ∨ n.toNat < 1 ∨ 16 < n.toNat ∨ 8 ≤ flags.toNat ∨
      ∃ b ∈ boundsOf flags rest, b.high.toInt < b.low.toInt ∨ 4095 < b.hysteresis.toNat) :
    settingsOf (context :: mode :: n :: flags :: rest) = none := by
  unfold settingsOf
  dsimp only
  split
  next k m hk hm =>
    rw [if_neg]
    rintro ⟨hn1, hn16, hflags, hok⟩
    rcases h with h | h | h | h | h | h
    · rw [contextOf_of_le h] at hk
      cases hk
    · rw [Mode.ofCode_of_le h] at hm
      cases hm
    · omega
    · omega
    · omega
    · exact (all_ok_iff _).1 hok h
  next => rfl

theorem settingsOf_good (h : ¬ (64 ≤ context.toNat ∨ 3 ≤ mode.toNat ∨ n.toNat < 1 ∨ 16 < n.toNat ∨ 8 ≤ flags.toNat ∨
      ∃ b ∈ boundsOf flags rest, b.high.toInt < b.low.toInt ∨ 4095 < b.hysteresis.toNat)) :
    ∃ p, settingsOf (context :: mode :: n :: flags :: rest) = some p ∧ p.context.val = context.toNat ∧ p.mode.code = mode ∧
      p.decimation = n.toNat ∧ p.limitNotices = flags.getLsbD 0 ∧ p.seqGapNotices = flags.getLsbD 1 ∧ p.bounds = boundsOf flags rest := by
  simp only [not_or, Nat.not_le, Nat.not_lt] at h
  obtain ⟨hcontext, hmode, hn1, hn16, hflags, hbounds⟩ := h
  obtain ⟨m, hm, hcode⟩ := Mode.ofCode_of_lt hmode
  refine ⟨⟨⟨context.toNat, hcontext⟩, m, n.toNat, flags.getLsbD 0, flags.getLsbD 1, boundsOf flags rest⟩, ?_, rfl, hcode, rfl, rfl, rfl, rfl⟩
  have hranges := And.intro hn1 (And.intro hn16 (And.intro hflags ((all_ok_iff _).2 hbounds)))
  simp only [settingsOf, contextOf, dif_pos hcontext, hm, if_pos hranges]

end

theorem setChannelBody_badArg (s : State) {f : Frame} (hp : settingsOf f.payload = none) : setChannelBody f s = s.respond f .badArg [] := by
  simp only [setChannelBody, hp]

section
variable (s : State) {f : Frame} {p : ChannelSettings} (hp : settingsOf f.payload = some p)
include hp

theorem setChannelBody_badState (hm : p.mode = .cond) (hu : (s.context p.context).curve = none) :
    setChannelBody f s = s.respond f .badState [] := by
  simp only [setChannelBody, hp]
  rw [if_pos ⟨hm, hu⟩]

theorem setChannelBody_reserved (hm : p.mode = .cond) (hu : (s.context p.context).curve ≠ none)
    (hr : (s.context p.context).channel.any s.channelPendingNone = true) : setChannelBody f s = s.respond f .reserved [] := by
  simp only [setChannelBody, hp]
  rw [if_neg fun h => hu h.2, if_pos ⟨hm, hr⟩]

/-- Its checks passed, a SET_CHANNEL waits for the frames in flight, or is carried out at once (02 R36). -/
theorem setChannelBody_passed (h : p.mode = .cond → (s.context p.context).curve ≠ none ∧ ¬ (s.context p.context).channel.any s.channelPendingNone = true) :
    setChannelBody f s = if (s.context p.context).inFlight = 0 then s.finishSettings f p else s.fence p.context := by
  simp only [setChannelBody, hp]
  rw [if_neg fun hb => (h hb.1).1 hb.2, if_neg fun hr => (h hr.1).2 hr.2]

end

/-- When SET_CHANNEL empties the accumulator (02 R34). -/
theorem Context.emptiedBy_iff (c : Context) (p : ChannelSettings) : c.emptiedBy p = true ↔
    c.decimation ≠ p.decimation ∨ c.limits.map Limits.bounds ≠ p.bounds ∨ (c.mode = .cond ∧ p.mode ≠ .cond) := by
  simp [Context.emptiedBy, or_assoc]

/-- Settles O36: what the payload spells, the body's checks one by one, then the context the settings make. -/
theorem setChannelResult : Obligations.SetChannelResult := by
  refine ⟨⟨rfl, rfl, rfl⟩, fun s f context mode n flags rest bounds h hc hp hspells => ?_, fun s p => ?_⟩
  · rw [hp] at hspells
    obtain ⟨hlength, rfl⟩ := spellsBounds_reads hspells
    rw [execSetChannel_taken h hc (hp ▸ hlength)]
    refine ⟨fun hbad => ?_, fun hgood => ?_⟩
    · rw [setChannelBody_badArg _ (hp ▸ settingsOf_bad hbad)]
      rfl
    obtain ⟨p, hset, hcontext, hcode, hdecimation, hlimit, hgap, hbounds⟩ := settingsOf_good hgood
    rw [← hp] at hset
    have hreserved : (((s.begun f).context p.context).channel.any (s.begun f).channelPendingNone = true) ↔
        ∃ c, (s.context p.context).channel = some c ∧ ∃ b, s.bind = some b ∧ ∃ q ∈ b.pairs, q.channel = c ∧ q.curve = none := by
      simp only [Option.any_eq_true, State.channelPendingNone_iff]
      rfl
    have hmode : p.mode = .cond ↔ mode = 2 := by rw [← hcode, Mode.code_eq_two]
    refine ⟨p, hcontext, hcode, hdecimation, hlimit, hgap, hbounds, fun hm hu => ?_, fun hm hu hr => ?_, fun hpass => ?_⟩
    · rw [setChannelBody_badState (s.begun f) hset (hmode.2 hm) hu]
      rfl
    · rw [setChannelBody_reserved (s.begun f) hset (hmode.2 hm) hu (hreserved.2 hr)]
      rfl
    rw [setChannelBody_passed (s.begun f) hset fun hm => (hpass (hmode.1 hm)).imp_right (mt hreserved.1), State.begun_context]
    refine ⟨fun hn => by rw [if_neg hn, fencedOn_eq], fun h0 => ?_⟩
    rw [if_pos h0, State.finishSettings, hcontext, byteOf_toNat]
    rfl
  · refine ⟨(s.context p.context).settings p, rfl, fun he => ?_, fun he => ?_, fun hd => if_neg hd, fun hd => if_pos (not_not.1 hd),
      fun hm => if_pos hm, fun hm => if_neg hm, rfl, rfl, rfl, rfl, rfl⟩
    · have hemptied := (Context.emptiedBy_iff _ _).2 he
      exact ⟨if_pos hemptied, if_pos hemptied⟩
    · have hkept := mt (Context.emptiedBy_iff _ _).1 he
      exact ⟨if_neg hkept, if_neg hkept⟩

/-! ### GET_CHANNEL (02 R35) -/

theorem execGetChannel_taken {s : State} {f : Frame} {context : Byte} (h : s.Takes f) (hc : f.code = codeGetChannel)
    (hp : f.payload = [context]) : exec .getChannel s = .next (getChannelBody f (s.begun f)) :=
  State.command_taken h (beq_iff_eq.2 hc) (by simp [lengthIs, hp])

theorem getChannelBody_badArg (s : State) {f : Frame} {context : Byte} (hp : f.payload = [context]) (h : contextOf context = none) :
    getChannelBody f s = s.respond f .badArg [] := by
  simp only [getChannelBody, hp, List.head?_cons, Option.bind_some, h]

theorem getChannelBody_report (s : State) {f : Frame} {context : Byte} {k : ContextId} (hp : f.payload = [context])
    (h : contextOf context = some k) : getChannelBody f s = s.respond f .ok ((s.context k).report k) := by
  simp only [getChannelBody, hp, List.head?_cons, Option.bind_some, h]

/-- A bit in a byte of its own. -/
def bitAt (b : Bool) (n : Nat) : Byte := if b then BitVec.ofNat 8 (2 ^ n) else 0

/-- The presence bits stand apart, so that their sum is their union (02 Table 2-4, byte 1). -/
theorem Context.presence_eq (c : Context) : c.presence =
    bitAt (c.channel ≠ none) 0 + bitAt (c.curve ≠ none) 1 + bitAt (c.limits ≠ none) 2 + bitAt (c.expected ≠ none) 3 +
      bitAt c.limitNotices 4 + bitAt c.seqGapNotices 5 := by
  have hbits : ∀ a b c d e g : Bool,
      flagByte a ||| (flagByte b <<< 1) ||| (flagByte c <<< 2) ||| (flagByte d <<< 3) ||| (flagByte e <<< 4) ||| (flagByte g <<< 5) =
        bitAt a 0 + bitAt b 1 + bitAt c 2 + bitAt d 3 + bitAt e 4 + bitAt g 5 := by decide
  have hpresent {α : Type} [DecidableEq α] (o : Option α) : decide (o ≠ none) = o.isSome := by cases o <;> simp
  simp only [hpresent]
  exact hbits ..

/-- The carried clamps (02 Table 2-4, byte 18). -/
theorem Accumulator.clampByte_eq (a : Accumulator) : a.clampByte = bitAt a.clampLow 0 + bitAt a.clampHigh 1 := by
  have hbits : ∀ low high : Bool, flagByte low ||| (flagByte high <<< 1) = bitAt low 0 + bitAt high 1 := by decide
  exact hbits ..

/-- A field of the limit record, 0 where there is none. -/
theorem Context.limit_eq (c : Context) (g : LimitRecord → Half) (h0 : g ⟨0, 0, 0⟩ = 0) :
    g ((c.limits.map Limits.bounds).getD ⟨0, 0, 0⟩) = c.limits.elim 0 fun l => g l.bounds := by
  cases c.limits with
  | none => exact h0
  | some l => rfl

theorem Context.limitState_eq (c : Context) :
    (c.limits.elim LimitState.normal Limits.state).code = c.limits.elim 0 fun l => l.state.code := by
  cases c.limits <;> rfl

theorem Context.curveByte_eq (c : Context) : byteOf (c.curve.elim 0 Fin.val) = c.curve.elim 0 fun d => BitVec.ofNat 8 d.val := by
  cases c.curve <;> rfl

/-- Settles O37: the report's bytes, one lemma for each that the model writes in another way. -/
theorem getChannelResult : Obligations.GetChannelResult := by
  intro s f context h hc hp
  rw [execGetChannel_taken h hc hp]
  refine ⟨fun hbad => ?_, fun k hk => ?_⟩
  · rw [getChannelBody_badArg _ hp (contextOf_of_le hbad)]
    rfl
  · rw [getChannelBody_report _ hp (contextOf_val context hk.symm), State.begun_context, Context.report, hk, byteOf_toNat,
      Context.presence_eq, Accumulator.clampByte_eq, Context.limitState_eq, Context.curveByte_eq]
    dsimp only
    rw [(s.context k).limit_eq LimitRecord.low rfl, (s.context k).limit_eq LimitRecord.high rfl, (s.context k).limit_eq LimitRecord.hysteresis rfl]
    rfl

end Sys2Proof.Machine
end

section
/-! The store port's arbiter: its choice, and how long a claim waits for it: O24, O25. -/

namespace Sys2Proof.Machine

/-! ### The choice (03 R59) -/

namespace StoreArbiter
variable (a : StoreArbiter) (c : Claims)

theorem choose_other (ho : c.other = true) (h : 3 ≤ a.conversionRun ∨ c.conversion = false) :
    a.choose c = some (.other (a.otherTurn c)) := by
  unfold choose
  obtain h3 | hc := h
  · simp [ho, h3]
  · simp [ho, hc]

theorem choose_unit (hc : c.conversion = true) (h : ¬ (c.other = true ∧ 3 ≤ a.conversionRun)) :
    a.choose c = some (.unit (a.unitTurn c)) := by
  unfold choose
  rw [if_neg (by simpa using h), if_pos hc]

theorem choose_none (hc : c.conversion = false) (ho : c.other = false) : a.choose c = none := by
  simp [choose, hc, ho]

/-- All that the arbiter can choose. -/
theorem choose_cases :
    (c.other = true ∧ (3 ≤ a.conversionRun ∨ c.conversion = false) ∧ a.choose c = some (.other (a.otherTurn c))) ∨
    (c.conversion = true ∧ ¬ (c.other = true ∧ 3 ≤ a.conversionRun) ∧ a.choose c = some (.unit (a.unitTurn c))) ∨
    (c.conversion = false ∧ c.other = false ∧ a.choose c = none) := by
  cases hc : c.conversion with
  | false =>
    cases ho : c.other with
    | false => exact .inr (.inr ⟨rfl, rfl, a.choose_none c hc ho⟩)
    | true => exact .inl ⟨rfl, .inr rfl, a.choose_other c ho (.inr hc)⟩
  | true =>
    by_cases h : c.other = true ∧ 3 ≤ a.conversionRun
    · exact .inl ⟨h.1, .inl h.2, a.choose_other c h.1 (.inl h.2)⟩
    · exact .inr (.inl ⟨rfl, h, a.choose_unit c hc h⟩)

/-- The arbiter never grants a fourth conversion claim while another waits (03 R59). -/
theorem Kept.after {a : StoreArbiter} (h : a.Kept) (c : Claims) : (a.after c (a.choose c)).Kept := by
  unfold StoreArbiter.Kept at h ⊢
  obtain ⟨-, -, e⟩ | ⟨-, hrun, e⟩ | ⟨-, ho, e⟩ := a.choose_cases c <;> rw [e]
  · exact Nat.zero_le 3
  · cases ho : c.other with
    | false => simp [StoreArbiter.after, ho]
    | true =>
      have hlt : ¬ 3 ≤ a.conversionRun := fun h3 => hrun ⟨ho, h3⟩
      simp only [StoreArbiter.after, ho, if_true]
      omega
  · simp [StoreArbiter.after, ho]

end StoreArbiter

/-- Settles O24: the three rules of the choice, each with its condition; a period with nothing due is its grant. -/
theorem arbiterChoice : Obligations.ArbiterChoice := by
  refine ⟨fun s h0 h1 hr hw => State.accessPeriod_of_not_due h0 h1 hr hw, fun a c => ?_⟩
  intro other unit
  have hother : some other = some (.other (a.otherTurn c)) := by
    unfold other StoreArbiter.otherTurn
    split <;> rfl
  have hunit : some unit = some (.unit (a.unitTurn c)) := by
    unfold unit StoreArbiter.unitTurn
    split <;> rfl
  rw [hother, hunit]
  refine ⟨fun ho h3 => a.choose_other c ho (.inl h3), fun h hc => a.choose_unit c hc h, fun ho hc => a.choose_other c ho (.inr hc), ?_,
    fun x => ⟨rfl, rfl⟩, fun u => ⟨rfl, fun ho => if_pos ho, fun ho => if_neg (by rw [Claims.other, ho]; simp)⟩⟩
  rintro rfl
  exact ⟨a.choose_none _ rfl rfl, rfl⟩

/-! ### How long a claim waits (03 R60) -/

/-- The claim of one of the two other claimants waits. -/
def Claims.waits (c : Claims) : OtherClaimant → Bool
  | .readBack => c.readBack
  | .pageWrite => c.pageWrite

theorem Claims.other_of_waits {c : Claims} {x : OtherClaimant} (h : c.waits x = true) : c.other = true := by
  cases x <;> simp_all [Claims.waits, Claims.other]

namespace StoreArbiter

/-- The access periods within which a waiting read-back or page-write claim is granted, whatever else waits: those up to the next such grant, and four more
where that grant is the other's turn. -/
def otherWait (a : StoreArbiter) (x : OtherClaimant) : Nat :=
  (if a.otherTurn ⟨true, true, true, true⟩ = x then 0 else 4) + (4 - a.conversionRun)

/-- The access periods within which a waiting conversion claim is granted, whatever else waits. -/
def unitWait (a : StoreArbiter) (u : UnitId) : Nat :=
  if a.unitTurn ⟨true, true, true, true⟩ = u then (if a.conversionRun < 3 then 1 else 2)
  else if a.conversionRun < 2 then 2 else 3

theorem otherWait_le (a : StoreArbiter) (x : OtherClaimant) : a.otherWait x ≤ 8 := by
  unfold otherWait
  split <;> omega

theorem Kept.otherWait_pos {a : StoreArbiter} (h : a.Kept) (x : OtherClaimant) : 0 < a.otherWait x := by
  unfold StoreArbiter.Kept at h
  unfold StoreArbiter.otherWait
  omega

theorem unitWait_le (a : StoreArbiter) (u : UnitId) : a.unitWait u ≤ 3 := by
  unfold unitWait
  split <;> split <;> omega

theorem unitWait_pos (a : StoreArbiter) (u : UnitId) : 0 < a.unitWait u := by
  unfold unitWait
  split <;> split <;> omega

/-- A grant to the claimant that `x` waits behind: both wait, it is the other's turn, and then it is the turn of `x`. -/
theorem otherTurn_ne {a : StoreArbiter} {c : Claims} {x : OtherClaimant} (hx : c.waits x = true) (h : a.otherTurn c ≠ x) :
    a.otherTurn ⟨true, true, true, true⟩ ≠ x ∧
      (a.after c (some (.other (a.otherTurn c)))).otherTurn ⟨true, true, true, true⟩ = x := by
  obtain ⟨u0, u1, rb, pw⟩ := c
  cases x with
  | readBack =>
    obtain rfl : rb = true := hx
    cases pw with
    | false => exact absurd rfl h
    | true =>
      by_cases hl : a.lastOther = some .readBack
      · simp [otherTurn, after, hl]
      · simp [otherTurn, hl] at h
  | pageWrite =>
    obtain rfl : pw = true := hx
    cases rb with
    | false => exact absurd rfl h
    | true =>
      by_cases hl : a.lastOther = some .readBack
      · simp [otherTurn, hl] at h
      · simp [otherTurn, after, hl]

/-- A waiting read-back or page-write claim is granted, or is one period nearer to its grant. -/
theorem Kept.otherWait_after {a : StoreArbiter} (h : a.Kept) {c : Claims} {x : OtherClaimant} (hx : c.waits x = true) :
    a.choose c = some (.other x) ∨ (a.after c (a.choose c)).otherWait x < a.otherWait x := by
  have ho := Claims.other_of_waits hx
  unfold StoreArbiter.Kept at h
  obtain ⟨-, -, e⟩ | ⟨-, hrun, e⟩ | ⟨-, hn, -⟩ := a.choose_cases c
  · by_cases hturn : a.otherTurn c = x
    · exact .inl (hturn ▸ e)
    · obtain ⟨hbefore, hafter⟩ := otherTurn_ne hx hturn
      right
      have hzero : (a.after c (some (.other (a.otherTurn c)))).conversionRun = 0 := rfl
      rw [e, otherWait, otherWait, if_pos hafter, if_neg hbefore, hzero]
      omega
  · have hlt : ¬ 3 ≤ a.conversionRun := fun h3 => hrun ⟨ho, h3⟩
    right
    have hone : (a.after c (some (.unit (a.unitTurn c)))).conversionRun = a.conversionRun + 1 := if_pos ho
    rw [e, otherWait, otherWait, hone]
    exact Nat.add_lt_add_left (by omega) _
  · rw [ho] at hn
    cases hn

end StoreArbiter

/-- The claim of one unit waits. -/
def Claims.unitWaits (c : Claims) (u : UnitId) : Bool := if u = 0 then c.unit0 else c.unit1

theorem Claims.conversion_of_unitWaits {c : Claims} {u : UnitId} (h : c.unitWaits u = true) : c.conversion = true := by
  unfold Claims.unitWaits at h
  split at h <;> simp [Claims.conversion, h]

namespace StoreArbiter

/-- A grant to the unit that `u` waits behind: both wait, it is the other unit's turn, and then it is the turn of `u`. -/
theorem unitTurn_ne {a : StoreArbiter} {c : Claims} {u : UnitId} (hu : c.unitWaits u = true) (h : a.unitTurn c ≠ u) :
    a.unitTurn ⟨true, true, true, true⟩ ≠ u ∧
      (a.after c (some (.unit (a.unitTurn c)))).unitTurn ⟨true, true, true, true⟩ = u := by
  obtain ⟨u0, u1, rb, pw⟩ := c
  match u with
  | 0 =>
    obtain rfl : u0 = true := hu
    cases u1 with
    | false => exact absurd rfl h
    | true =>
      by_cases hl : a.lastUnit = some 0
      · simp [unitTurn, after, hl]
      · simp [unitTurn, hl] at h
  | 1 =>
    obtain rfl : u1 = true := hu
    cases u0 with
    | false => exact absurd rfl h
    | true =>
      by_cases hl : a.lastUnit = some 0
      · simp [unitTurn, hl] at h
      · simp [unitTurn, after, hl]

/-- A waiting conversion claim is granted, or is one period nearer to its grant. -/
theorem unitWait_after (a : StoreArbiter) {c : Claims} {u : UnitId} (hu : c.unitWaits u = true) :
    a.choose c = some (.unit u) ∨ (a.after c (a.choose c)).unitWait u < a.unitWait u := by
  have hc := Claims.conversion_of_unitWaits hu
  obtain ⟨-, hrun, e⟩ | ⟨-, -, e⟩ | ⟨hn, -, -⟩ := a.choose_cases c
  · have h3 : 3 ≤ a.conversionRun := hrun.resolve_right (by simp [hc])
    right
    have hzero : (a.after c (some (.other (a.otherTurn c)))).conversionRun = 0 := rfl
    have hturn : (a.after c (some (.other (a.otherTurn c)))).unitTurn ⟨true, true, true, true⟩ = a.unitTurn ⟨true, true, true, true⟩ := rfl
    rw [e, unitWait, unitWait, hzero, hturn, if_neg (show ¬ a.conversionRun < 3 by omega), if_neg (show ¬ a.conversionRun < 2 by omega)]
    split <;> decide
  · by_cases hturn : a.unitTurn c = u
    · exact .inl (hturn ▸ e)
    · obtain ⟨hbefore, hafter⟩ := unitTurn_ne hu hturn
      right
      have hle : (a.after c (some (.unit (a.unitTurn c)))).conversionRun ≤ a.conversionRun + 1 := by
        simp only [after]
        split <;> omega
      rw [e, unitWait, unitWait, if_pos hafter, if_neg hbefore]
      split <;> split <;> omega
  · rw [hc] at hn
    cases hn

end StoreArbiter

theorem arbiterAt_kept {a : StoreArbiter} (h : a.Kept) (claims : Nat → Claims) (n : Nat) : (arbiterAt a claims n).Kept := by
  induction n with
  | zero => exact h
  | succ n ih => exact ih.after _

/-- A claim that waits is granted within any bound on a measure that is positive and falls in every period that does not grant it. -/
theorem exists_grantAt {a : StoreArbiter} (ha : a.Kept) (claims : Nat → Claims) {waits : Claims → Bool} {g : Grant} {wait : StoreArbiter → Nat}
    (hpos : ∀ b : StoreArbiter, b.Kept → 0 < wait b)
    (hfalls : ∀ (b : StoreArbiter) (c : Claims), b.Kept → waits c = true → b.choose c = some g ∨ wait (b.after c (b.choose c)) < wait b)
    {N : Nat} (n : Nat) (hle : wait (arbiterAt a claims n) ≤ N) (hw : ∀ i, i < N → waits (claims (n + i)) = true) :
    ∃ i, i < N ∧ grantAt a claims (n + i) = some g := by
  induction N generalizing n with
  | zero => exact absurd (hpos _ (arbiterAt_kept ha claims n)) (by omega)
  | succ N ih =>
    obtain hg | hlt := hfalls _ _ (arbiterAt_kept ha claims n) (hw 0 (by omega))
    · exact ⟨0, by omega, hg⟩
    · obtain ⟨i, hi, hg⟩ := ih (n + 1) (Nat.le_of_lt_succ (Nat.lt_of_lt_of_le hlt hle)) fun i hi => by
        rw [Nat.add_right_comm, Nat.add_assoc]
        exact hw (i + 1) (by omega)
      exact ⟨i + 1, by omega, by rwa [Nat.add_right_comm, Nat.add_assoc] at hg⟩

/-- Settles O25: a claim's wait is bounded, and falls in every period that does not grant it. -/
theorem everyClaimantIsServed : Obligations.EveryClaimantIsServed := by
  intro a claims ha n
  have hother (x : OtherClaimant) (hw : ∀ i, i < 8 → (claims (n + i)).waits x = true) :=
    exists_grantAt (waits := fun c => c.waits x) (g := .other x) (wait := fun b => b.otherWait x) ha claims (fun b hb => hb.otherWait_pos x)
      (fun b c hb hx => hb.otherWait_after hx) n (StoreArbiter.otherWait_le _ x) hw
  have hunit (u : UnitId) (hw : ∀ i, i < 3 → (claims (n + i)).unitWaits u = true) :=
    exists_grantAt (waits := fun c => c.unitWaits u) (g := .unit u) (wait := fun b => b.unitWait u) ha claims (fun b _ => b.unitWait_pos u)
      (fun b c _ hu => b.unitWait_after hu) n (StoreArbiter.unitWait_le _ u) hw
  exact ⟨hother .pageWrite, hother .readBack, hunit 0, hunit 1⟩

end Sys2Proof.Machine
end

section
/-! A step's two cases, and the curve commands: O1, O43, O44. -/

namespace Sys2Proof.Machine

/-- Settles O1: the two cases of `step`. -/
theorem stepCarriesOutTheFrontCommand : Obligations.StepCarriesOutTheFrontCommand := by
  refine ⟨fun c s => rfl, fun s hs => ?_⟩
  unfold step
  rw [hs]

/-! ### The curve a payload names -/

@[simp] theorem State.begun_curve (s : State) (f : Frame) (c : CurveId) : (s.begun f).curve c = s.curve c := rfl

theorem curveOf_val (b : Byte) {c : CurveId} (h : c.val = b.toNat) : curveOf b = some c := by
  have hlt : b.toNat < 48 := h ▸ c.isLt
  rw [curveOf, dif_pos hlt]
  exact congrArg some (Fin.ext h.symm)

theorem curveOf_of_lt {b : Byte} (h : 47 < b.toNat) : curveOf b = none := dif_neg (by omega)

theorem byteOf_val (b : Byte) {c : CurveId} (h : c.val = b.toNat) : byteOf c.val = b := by rw [h, byteOf_toNat]

/-! ### GET_CURVE (03 R56) -/

theorem getCurveBody_badArg (s : State) {f : Frame} {id : Byte} (hp : f.payload = [id]) (h : curveOf id = none) :
    getCurveBody f s = s.respond f .badArg [] := by
  simp only [getCurveBody, hp, List.head?_cons, Option.bind_some, h]

theorem getCurveBody_report (s : State) {f : Frame} {id : Byte} {c : CurveId} (hp : f.payload = [id]) (h : curveOf id = some c) :
    getCurveBody f s = s.respond f .ok ((s.curve c).report c) := by
  simp only [getCurveBody, hp, List.head?_cons, Option.bind_some, h]

/-- Settles O43: the length rule, the id, and the report's bytes. -/
theorem getCurveResult : Obligations.GetCurveResult := by
  intro s f h hc
  have hcode : f.hasCode codeGetCurve = true := beq_iff_eq.2 hc
  refine ⟨fun hlen => State.command_badLength h hcode (beq_eq_false_iff_ne.2 hlen), fun id hp => ?_, rfl, rfl, rfl, rfl⟩
  have htaken : exec .getCurve s = .next (getCurveBody f (s.begun f)) := State.command_taken h hcode (by simp [lengthIs, hp])
  rw [htaken]
  refine ⟨fun hbad => ?_, fun c hid => ?_⟩
  · rw [getCurveBody_badArg _ hp (curveOf_of_lt hbad)]
    rfl
  · rw [getCurveBody_report _ hp (curveOf_val id hid), State.begun_curve, Curve.report, byteOf_val id hid]
    rfl

/-! ### DELETE_CURVE (03 R55) -/

section
variable (s : State) {f : Frame} {id : Byte} (hp : f.payload = [id])
include hp

theorem deleteCurveBody_badArg (h : curveOf id = none) : deleteCurveBody f s = s.respond f .badArg [] := by
  simp only [deleteCurveBody, hp, List.head?_cons, Option.bind_some, h]

variable {c : CurveId} (h : curveOf id = some c)
include h

theorem deleteCurveBody_badState (hs : (s.curve c).state = .empty ∨ (s.curve c).state = .retiring) :
    deleteCurveBody f s = s.respond f .badState [(s.curve c).state.code] := by
  obtain hs | hs := hs <;> simp only [deleteCurveBody, hp, List.head?_cons, Option.bind_some, h, hs]

theorem deleteCurveBody_inUse (hs : (s.curve c).state = .live) : deleteCurveBody f s = s.respond f .inUse [byteOf (s.curve c).refs] := by
  simp only [deleteCurveBody, hp, List.head?_cons, Option.bind_some, h, hs]

variable (hs : (s.curve c).state = .built)
include hs

theorem deleteCurveBody_reserved (hq : (s.curve c).reservations ≠ 0) :
    deleteCurveBody f s = s.respond f .reserved [byteOf (s.curve c).reservations] := by
  simp only [deleteCurveBody, hp, List.head?_cons, Option.bind_some, h, hs, if_pos hq]

theorem deleteCurveBody_deleted (hq : (s.curve c).reservations = 0) :
    deleteCurveBody f s = (s.deleteCurve c).respond f .ok
      [byteOf c.val, flagByte ((s.curve c).pins != 0), byteOf (s.curve c).pages.length, byteOf (s.curve c).pins] := by
  simp only [deleteCurveBody, hp, List.head?_cons, Option.bind_some, h, hs, if_neg (not_not.2 hq)]

end

/-- DELETE_CURVE's checks one by one, then the curve given up without pins and with them. -/
theorem execDeleteCurve_results {s : State} {f : Frame} {id : Byte} (h : s.Takes f) (hc : f.code = codeDeleteCurve) (hp : f.payload = [id]) :
    (47 < id.toNat → exec .deleteCurve s = .next (s.answered f .badArg [])) ∧
    (∀ c : CurveId, c.val = id.toNat →
      let d := s.curve c
      (d.state = .empty ∨ d.state = .retiring → exec .deleteCurve s = .next (s.answered f .badState [d.state.code])) ∧
      (d.state = .live → exec .deleteCurve s = .next (s.answered f .inUse [byteOf d.refs])) ∧
      (d.state = .built →
        (d.reservations ≠ 0 → exec .deleteCurve s = .next (s.answered f .reserved [byteOf d.reservations])) ∧
        (d.reservations = 0 → d.pins = 0 → exec .deleteCurve s = .next (((s.begun f).reclaim c).respond f .ok
          [id, 0, byteOf d.pages.length, 0])) ∧
        (d.reservations = 0 → d.pins ≠ 0 → exec .deleteCurve s = .next
          (((s.begun f).modCurve c fun d => { d with state := .retiring }).respond f .ok
            [id, 1, byteOf d.pages.length, byteOf d.pins])))) := by
  have htaken : exec .deleteCurve s = .next (deleteCurveBody f (s.begun f)) :=
    State.command_taken h (beq_iff_eq.2 hc) (by simp [lengthIs, hp])
  rw [htaken]
  refine ⟨fun hbad => congrArg _ (deleteCurveBody_badArg _ hp (curveOf_of_lt hbad)), fun c hid => ?_⟩
  have hcurve := curveOf_val id hid
  refine ⟨fun hs => congrArg _ (deleteCurveBody_badState _ hp hcurve hs), fun hs => congrArg _ (deleteCurveBody_inUse _ hp hcurve hs),
    fun hs => ⟨fun hq => congrArg _ (deleteCurveBody_reserved _ hp hcurve hs hq), fun hq hpins => ?_, fun hq hpins => ?_⟩⟩
  · rw [deleteCurveBody_deleted (s.begun f) hp hcurve hs hq, State.deleteCurve, State.begun_curve, if_pos hpins, byteOf_val id hid, hpins]
    rfl
  · rw [deleteCurveBody_deleted (s.begun f) hp hcurve hs hq, State.deleteCurve, State.begun_curve, if_neg hpins, byteOf_val id hid, bne_iff_ne.2 hpins]
    rfl

/-! ### READ_KNOTS (03 R57) -/

section
variable (s : State) {f : Frame} {id first count : Byte} (hp : f.payload = [id, first, count])
include hp

theorem readKnotsBody_badArg (h : 47 < id.toNat ∨ count.toNat < 1 ∨ 11 < count.toNat) : readKnotsBody f s = s.respond f .badArg [] := by
  unfold readKnotsBody
  rw [hp]
  dsimp only
  split
  · rfl
  next c hid =>
    have hcount := h.resolve_left fun hbad => by
      rw [curveOf_of_lt hbad] at hid
      cases hid
    exact if_pos hcount

variable {c : CurveId} (h : curveOf id = some c) (hcount : ¬ (count.toNat < 1 ∨ 11 < count.toNat))
include h hcount

theorem readKnotsBody_badState (hs : (s.curve c).state = .empty) : readKnotsBody f s = s.respond f .badState [] := by
  simp only [readKnotsBody, hp, h, if_neg hcount, if_pos hs]

theorem readKnotsBody_pastEnd (hs : (s.curve c).state ≠ .empty) (hk : (s.curve c).knots < first.toNat + count.toNat) :
    readKnotsBody f s = s.respond f .badArg [] := by
  simp only [readKnotsBody, hp, h, if_neg hcount, if_neg hs, if_pos hk]

theorem readKnotsBody_begins (hs : (s.curve c).state ≠ .empty) (hk : first.toNat + count.toNat ≤ (s.curve c).knots) :
    readKnotsBody f s = s.startReadBack
      ⟨.readKnots, c, (s.curve c).generation, (s.curve c).pages, (s.curve c).knots, first.toNat, count.toNat, []⟩ := by
  simp only [readKnotsBody, hp, h, if_neg hcount, if_neg hs, if_neg (Nat.not_lt.2 hk)]

end

/-- READ_KNOTS's checks one by one, then its read-back. -/
theorem execReadKnots_results {s : State} {f : Frame} {id first count : Byte} (h : s.Takes f) (hc : f.code = codeReadKnots)
    (hp : f.payload = [id, first, count]) :
    (47 < id.toNat ∨ count.toNat < 1 ∨ 11 < count.toNat → exec .readKnots s = .next (s.answered f .badArg [])) ∧
    (∀ c : CurveId, c.val = id.toNat → 1 ≤ count.toNat → count.toNat ≤ 11 →
      let d := s.curve c
      (d.state = .empty → exec .readKnots s = .next (s.answered f .badState [])) ∧
      (d.state ≠ .empty → d.knots < first.toNat + count.toNat → exec .readKnots s = .next (s.answered f .badArg [])) ∧
      (d.state ≠ .empty → first.toNat + count.toNat ≤ d.knots → exec .readKnots s = .next ((s.begun f).startReadBack
        ⟨.readKnots, c, d.generation, d.pages, d.knots, first.toNat, count.toNat, []⟩))) := by
  have htaken : exec .readKnots s = .next (readKnotsBody f (s.begun f)) :=
    State.command_taken h (beq_iff_eq.2 hc) (by simp [lengthIs, hp])
  rw [htaken]
  refine ⟨fun hbad => congrArg _ (readKnotsBody_badArg _ hp hbad), fun c hid h1 h11 => ?_⟩
  have hcurve := curveOf_val id hid
  have hcount : ¬ (count.toNat < 1 ∨ 11 < count.toNat) := by omega
  exact ⟨fun hs => congrArg _ (readKnotsBody_badState _ hp hcurve hcount hs),
    fun hs hk => congrArg _ (readKnotsBody_pastEnd _ hp hcurve hcount hs hk),
    fun hs hk => congrArg _ (readKnotsBody_begins _ hp hcurve hcount hs hk)⟩

/-! ### The read-back rows without their read-back (log 2) -/

theorem State.readingKnots_iff (s : State) : s.readingKnots = true ↔ ∃ r, s.mgmt.readBack = some r ∧ r.purpose = .readKnots := by
  unfold State.readingKnots
  cases s.mgmt.readBack <;> simp

theorem State.checkingOrder_iff (s : State) : s.checkingOrder = true ↔ ∃ r, s.mgmt.readBack = some r ∧ r.purpose ≠ .readKnots := by
  unfold State.checkingOrder
  cases s.mgmt.readBack <;> simp

theorem State.completeDefine_of_not_checking {s : State} (h : ¬ s.checkingOrder = true) : s.completeDefine = s := if_neg h

/-- Settles O44: each row's checks, the reclamation as the fields it writes, and the two completions without their read-back. -/
theorem curveCommands : Obligations.CurveCommands := by
  refine ⟨fun s f id h hc hp => execDeleteCurve_results h hc hp, fun s c => rfl, fun s f id first count h hc hp => execReadKnots_results h hc hp,
    fun s hr => if_neg ?_, fun s hr => congrArg _ (State.completeDefine_of_not_checking ?_)⟩
  · rintro hk
    obtain ⟨r, hr', hp⟩ := s.readingKnots_iff.1 hk
    exact hr r hr' hp
  · rintro hk
    obtain ⟨r, hr', hp⟩ := s.checkingOrder_iff.1 hk
    exact hp (hr r hr')

end Sys2Proof.Machine
end

section
/-! What the accesses of the store port write, and work done at the port one access at a time: O26, O28. -/

namespace Sys2Proof.Machine

/-! ### Page array and arbiter: written by the grants of the store port, and by resets, alone -/

/-- What the store port's accesses write of the store: the page array, and the arbiter's own records (03 R58, R60). -/
def CurveStore.accessed (t : CurveStore) : Vector (Vector Knot 16) 128 × StoreArbiter := (t.pages, t.arbiter)

theorem CurveStore.pages_of_accessed {t u : CurveStore} (h : u.accessed = t.accessed) : u.pages = t.pages := congrArg Prod.fst h

theorem CurveStore.arbiter_of_accessed {t u : CurveStore} (h : u.accessed = t.accessed) : u.arbiter = t.arbiter := congrArg Prod.snd h

section
variable (s : State)

@[simp] theorem State.reclaim_accessed (c : CurveId) : (s.reclaim c).store.accessed = s.store.accessed := rfl

@[simp] theorem State.unpin_accessed (c : CurveId) : (s.unpin c).store.accessed = s.store.accessed := by
  unfold State.unpin
  dsimp only
  split <;> rfl

@[simp] theorem State.releaseSlot_accessed (i : SlotId) : (s.releaseSlot i).store.accessed = s.store.accessed := by
  unfold State.releaseSlot
  split
  · simp
  · rfl

@[simp] theorem State.enterCq_accessed : s.enterCq.store.accessed = s.store.accessed := by
  unfold State.enterCq
  split
  · split
    · simp
    · rfl
  · rfl

@[simp] theorem State.settleSlot_accessed (i : SlotId) (w : WorkSlot) (outputs : List Output) :
    (s.settleSlot i w outputs).store.accessed = s.store.accessed := by
  unfold State.settleSlot
  dsimp only
  split
  · simp
  · split <;> simp

@[simp] theorem State.endConversion_accessed (u : UnitId) : (s.endConversion u).store.accessed = s.store.accessed := by
  unfold State.endConversion
  split
  · split <;> simp
  · rfl

@[simp] theorem State.defineCurve_accessed (r : ReadBack) : (s.defineCurve r).store.accessed = s.store.accessed := by
  simp [State.defineCurve, CurveStore.define, CurveStore.modCurve, CurveStore.accessed]

@[simp] theorem State.finishReadBack_accessed : s.finishReadBack.store.accessed = s.store.accessed := by
  unfold State.finishReadBack
  split
  · split
    · split <;> simp
    · rfl
  · rfl

@[simp] theorem State.completeOpen_accessed (r : WriteRecord) : (s.completeOpen r).store.accessed = s.store.accessed := by
  simp [State.completeOpen, CurveStore.writeDone, CurveStore.accessed]

@[simp] theorem State.completeLost_accessed (r : WriteRecord) : (s.completeLost r).store.accessed = s.store.accessed := by
  simp [State.completeLost, CurveStore.returnWriting, CurveStore.accessed]

@[simp] theorem State.completeWrite_accessed : s.completeWrite.store.accessed = s.store.accessed := by
  unfold State.completeWrite
  split
  · split
    · split <;> simp
    · rfl
  · rfl

@[simp] theorem State.endDue_accessed : s.endDue.store.accessed = s.store.accessed := by simp [State.endDue]

end

/-! ### The grant of a period -/

theorem State.grantPeriod_arbiter (s : State) : s.grantPeriod.store.arbiter = s.store.arbiter.after s.claims (s.store.arbiter.choose s.claims) := rfl

theorem State.grantPeriod_of_choose {s : State} {g : Option Grant} (h : s.store.arbiter.choose s.claims = g) :
    s.grantPeriod = { s.access g with store := { (s.access g).store with arbiter := s.store.arbiter.after s.claims g } } := by
  subst h
  rfl

/-- A grant to another than the page write writes neither the loader nor the store. -/
theorem State.access_of_ne_pageWrite (s : State) {g : Option Grant} (h : g ≠ some (.other .pageWrite)) :
    (s.access g).loader = s.loader ∧ (s.access g).store = s.store := by
  match g with
  | some (.unit u) => simp [State.access]
  | some (.other .readBack) => simp [State.access]
  | some (.other .pageWrite) => exact absurd rfl h
  | none => simp [State.access]

theorem State.grantPeriod_store_of_ne {s : State} (h : s.store.arbiter.choose s.claims ≠ some (.other .pageWrite)) :
    s.grantPeriod.store = { s.store with arbiter := s.grantPeriod.store.arbiter } := by
  show { (s.access _).store with arbiter := s.grantPeriod.store.arbiter } = _
  rw [(s.access_of_ne_pageWrite h).2]

/-- A grant to another than the read-back leaves the engine alone. -/
theorem State.access_of_ne_readBack (s : State) {g : Option Grant} (h : g ≠ some (.other .readBack)) : (s.access g).mgmt = s.mgmt := by
  match g with
  | some (.unit u) => simp [State.access]
  | some (.other .readBack) => exact absurd rfl h
  | some (.other .pageWrite) => simp [State.access]
  | none => simp [State.access]

/-- The page write's claim: a slot of the record of a loader that is WRITING (03 R60). -/
theorem State.pageWriteClaim_eq_some {s : State} {r : WriteRecord} {i : Fin 16} :
    s.pageWriteClaim = some (r, i) ↔ s.loader.state = .writing ∧ s.loader.write = some r ∧ r.nextSlot = i.val := by
  unfold State.pageWriteClaim
  split
  next hs =>
    cases hw : s.loader.write with
    | none => simp
    | some r' =>
      dsimp only
      split
      next hlt =>
        constructor
        · rintro ⟨⟩
          exact ⟨hs, rfl, rfl⟩
        · rintro ⟨-, e, hi⟩
          cases e
          exact congrArg some (Prod.ext rfl (Fin.ext hi))
      next hge =>
        refine iff_of_false (by simp) ?_
        rintro ⟨-, e, hi⟩
        cases e
        omega
  next hs => exact iff_of_false (by simp) fun h => hs h.1

theorem State.pageWriteClaim_of_not_writing {s : State} (h : s.loader.state ≠ .writing) : s.pageWriteClaim = none := if_neg h

theorem State.grantPageWrite_eq {s : State} {r : WriteRecord} {i : Fin 16} (h : s.pageWriteClaim = some (r, i)) :
    s.grantPageWrite =
      { s with
        store := { s.store with pages := vmod s.store.pages r.page fun p => p.set i s.loader.staging.slots[i] }
        loader := { s.loader with write := some { r with nextSlot := r.nextSlot + 1 } } } := by
  unfold State.grantPageWrite
  rw [h]

theorem State.grantPageWrite_of_none {s : State} (h : s.pageWriteClaim = none) : s.grantPageWrite = s := by
  unfold State.grantPageWrite
  rw [h]

/-- A page-write grant writes the page of the write in flight alone. -/
theorem State.grantPageWrite_other (s : State) {p : PageId} (h : ∀ q ∈ s.pageWriteClaim, q.1.page ≠ p) :
    s.grantPageWrite.store.pages[p] = s.store.pages[p] := by
  cases hc : s.pageWriteClaim with
  | none => rw [State.grantPageWrite_of_none hc]
  | some q =>
    rw [State.grantPageWrite_eq (r := q.1) (i := q.2) hc]
    exact vmod_other _ _ (h q hc)

/-! ### Work at the port, one access at a time -/

/-- Work that the port does for one of its two other claimants, `len` accesses at most: `I j t` says that in `t` it has had `j` of them, and `D j` whether it
then is done. Nothing that ends in a period before it is done disturbs it, its claim waits until it is done, and a grant to it is its next access. -/
structure PortWork (x : OtherClaimant) (done : State → Bool) (len : Nat) (D : Nat → Bool) (I : Nat → State → Prop) : Prop where
  done : ∀ j t, I j t → done t = D j
  more : ∀ j t, I j t → D j = false → j < len
  kept : ∀ j t, I j t → t.store.arbiter.Kept
  due : ∀ j t, I j t → D j = false → I j t.endDue
  waits : ∀ j t, I j t → D j = false → t.claims.waits x = true
  served : ∀ j t, I j t → D j = false → t.store.arbiter.choose t.claims = some (.other x) → I (j + 1) t.grantPeriod
  passed : ∀ j t, I j t → D j = false → t.store.arbiter.choose t.claims ≠ some (.other x) → I j t.grantPeriod

namespace PortWork
variable {x : OtherClaimant} {done : State → Bool} {len : Nat} {D : Nat → Bool} {I : Nat → State → Prop} (W : PortWork x done len D I)
include W

/-- A period is the work's next access, or leaves it one period nearer to it. -/
theorem accessPeriod {j : Nat} {t : State} (h : I j t) (hd : D j = false) :
    I (j + 1) t.accessPeriod ∨ I j t.accessPeriod ∧ t.accessPeriod.store.arbiter.otherWait x < t.store.arbiter.otherWait x := by
  have hdue := W.due j t h hd
  have harbiter : t.endDue.store.arbiter = t.store.arbiter := CurveStore.arbiter_of_accessed t.endDue_accessed
  obtain hg | hlt := (W.kept j _ hdue).otherWait_after (W.waits j _ hdue hd)
  · exact .inl (W.served j _ hdue hd hg)
  · by_cases hg : t.endDue.store.arbiter.choose t.endDue.claims = some (.other x)
    · exact .inl (W.served j _ hdue hd hg)
    · refine .inr ⟨W.passed j _ hdue hd hg, ?_⟩
      unfold State.accessPeriod
      rwa [State.grantPeriod_arbiter, ← harbiter]

/-- The work is done within 8 periods an access. -/
theorem passUntil {j n : Nat} {t : State} (h : I j t) (hn : 8 * (len - j) + t.store.arbiter.otherWait x ≤ n + 8) :
    ∃ k, I k (t.passUntil done n) ∧ D k = true := by
  induction n generalizing j t with
  | zero =>
    cases hd : D j with
    | true => exact ⟨j, h, hd⟩
    | false =>
      have hpos := (W.kept j t h).otherWait_pos x
      have := W.more j t h hd
      omega
  | succ n ih =>
    cases hd : D j with
    | true =>
      rw [State.passUntil_of_done ((W.done j t h).trans hd)]
      exact ⟨j, h, hd⟩
    | false =>
      rw [State.passUntil_succ ((W.done j t h).trans hd)]
      have hmore := W.more j t h hd
      have hpos := (W.kept j t h).otherWait_pos x
      obtain hnext | ⟨hsame, hlt⟩ := W.accessPeriod h hd
      · have hle := StoreArbiter.otherWait_le t.accessPeriod.store.arbiter x
        exact ih hnext (by omega)
      · exact ih hsame (by omega)

end PortWork

/-! ### The end of a period's work and the page write -/

/-- Whether a unit still wants a knot does not depend on how many its curve has. -/
theorem Working.wants_isNone (w : Working) (m n : Nat) : (w.wants m == none) = (w.wants n == none) := by
  unfold Working.wants
  cases w.firstKnot with
  | none => rfl
  | some _ => cases w.lastKnot <;> rfl

theorem State.unitDone_congr {s t : State} (h : t.conditioner = s.conditioner) (u : UnitId) : t.unitDone u = s.unitDone u := by
  unfold State.unitDone
  rw [State.busySlot_congr h]
  split
  · rw [Working.wants_isNone]
  · rfl

theorem State.unitDone_of_idle {s : State} {u : UnitId} (h : s.conditioner.units[u] = none) : s.unitDone u = false := by
  have hbusy : s.busySlot u = none := by
    unfold State.busySlot
    rw [h]
  unfold State.unitDone
  rw [hbusy]

/-- What is due at the start of a period, when no conversion is. -/
theorem State.endDue_of_units {s : State} (h0 : s.unitDone 0 = false) (h1 : s.unitDone 1 = false) :
    s.endDue = s.finishReadBack.completeWrite := by
  unfold State.endDue
  rw [State.endConversion_of_not_done h0, State.endConversion_of_not_done h1]

theorem State.readBackDone_of_none {s : State} (h : s.mgmt.readBack = none) : s.readBackDone = false := by
  unfold State.readBackDone
  rw [h]
  rfl

/-- An event that `completeWrite` or `finishReadBack` brings about at the start of a period may as well come before the period. -/
theorem State.accessPeriod_of_endDue {s t : State} (hx : t.conditioner = s.conditioner) (h0 : s.unitDone 0 = false) (h1 : s.unitDone 1 = false)
    (hr : t.readBackDone = false) (hdue : s.endDue = t.completeWrite) : s.accessPeriod = t.accessPeriod := by
  unfold State.accessPeriod
  rw [hdue, State.endDue_of_units ((State.unitDone_congr hx 0).trans h0) ((State.unitDone_congr hx 1).trans h1),
    State.finishReadBack_of_not_done hr]

theorem State.offerLoader_state (s : State) (r : Frame) : (s.offerLoader r).loader.state ≠ .writing := by
  unfold State.offerLoader
  split <;> simp

theorem State.completeOpen_state (s : State) (r : WriteRecord) : (s.completeOpen r).loader.state ≠ .writing := State.offerLoader_state _ _

theorem State.completeLost_state (s : State) (r : WriteRecord) : (s.completeLost r).loader.state ≠ .writing := State.offerLoader_state _ _

theorem State.pageWriteDone_of_not_writing {s : State} (h : s.loader.state ≠ .writing) : s.pageWriteDone = false := by
  simp [State.pageWriteDone, h]

section
variable {s : State} {r : WriteRecord} (hs : s.loader.state = .writing) (hw : s.loader.write = some r)
include hs hw

theorem State.pageWriteDone_of_writing : s.pageWriteDone = true ↔ 16 ≤ r.nextSlot := by
  simp [State.pageWriteDone, hs, hw]

theorem State.completeWrite_open (h : 16 ≤ r.nextSlot) (hl : s.loader.lease.isSome = true) : s.completeWrite = s.completeOpen r := by
  unfold State.completeWrite
  rw [if_pos ((State.pageWriteDone_of_writing hs hw).2 h), hw]
  exact if_pos hl

theorem State.completeWrite_lost (h : 16 ≤ r.nextSlot) (hl : s.loader.lease = none) : s.completeWrite = s.completeLost r := by
  unfold State.completeWrite
  rw [if_pos ((State.pageWriteDone_of_writing hs hw).2 h), hw]
  exact if_neg (by simp [hl])

end

/-- A page write's completion: nothing due, or a loader that was WRITING is no longer; the engine goes on as it was. -/
theorem State.completeWrite_cases (s : State) :
    s.completeWrite = s ∨ s.loader.state = .writing ∧ s.completeWrite.loader.state ≠ .writing := by
  unfold State.completeWrite
  split
  next hd =>
    have hs : s.loader.state = .writing := by
      simp only [State.pageWriteDone, Bool.and_eq_true, beq_iff_eq] at hd
      exact hd.1
    split
    · split
      · exact .inr ⟨hs, State.completeOpen_state _ _⟩
      · exact .inr ⟨hs, State.completeLost_state _ _⟩
    · exact .inl rfl
  next => exact .inl rfl

theorem State.completeWrite_completeWrite (s : State) : s.completeWrite.completeWrite = s.completeWrite := by
  obtain e | ⟨-, hs⟩ := s.completeWrite_cases
  · rw [e, e]
  · exact State.completeWrite_of_not_done (State.pageWriteDone_of_not_writing hs)

/-- A page write's response touches reply cache, response queue and held responses: the engine's own command goes on as it was (05 R101). -/
theorem State.completeWrite_engine (s : State) :
    s.completeWrite.mgmt.state = s.mgmt.state ∧ s.completeWrite.mgmt.current = s.mgmt.current ∧
      s.completeWrite.mgmt.readBack = s.mgmt.readBack := by
  have hanswer (t : State) (r : WriteRecord) (st : Status) : (t.answerWrite r st).mgmt.state = t.mgmt.state ∧
      (t.answerWrite r st).mgmt.current = t.mgmt.current ∧ (t.answerWrite r st).mgmt.readBack = t.mgmt.readBack := by
    unfold State.answerWrite State.offerLoader
    dsimp only
    obtain ⟨c, e⟩ := t.mgmt.store_eq (responseFrame t.mgmt.address r.tag r.manager st [byteOf r.page.val, flagByte r.saturated])
    rw [e]
    split <;> exact ⟨rfl, rfl, rfl⟩
  unfold State.completeWrite
  split
  · split
    · split
      · exact hanswer _ _ _
      · exact hanswer _ _ _
    · exact ⟨rfl, rfl, rfl⟩
  · exact ⟨rfl, rfl, rfl⟩

theorem State.readBackDone_congr {s t : State} (h : t.mgmt.readBack = s.mgmt.readBack) : t.readBackDone = s.readBackDone := by
  unfold State.readBackDone
  rw [h]

end Sys2Proof.Machine
end

section
/-! The page write through its access periods: O26. -/

namespace Sys2Proof.Machine

/-- In `t` the page write that `s` has begun, with record `r`, has its next slot at `k`: the slots from `r`'s on are the staging page's, every other slot is as
it was, and without other work at the port so is the rest of the store, and the engine. -/
structure PageWriting (s : State) (r : WriteRecord) (k : Nat) (t : State) : Prop where
  loader : t.loader = { s.loader with write := some { r with nextSlot := k } }
  lower : r.nextSlot ≤ k
  upper : k ≤ 16
  written : ∀ i : Fin 16, r.nextSlot ≤ i.val → i.val < k → t.store.pages[r.page][i] = s.loader.staging.slots[i]
  unwritten : ∀ i : Fin 16, i.val < r.nextSlot → t.store.pages[r.page][i] = s.store.pages[r.page][i]
  other : ∀ p : PageId, p ≠ r.page → t.store.pages[p] = s.store.pages[p]
  arbiter : t.store.arbiter.Kept
  alone : (∀ u : UnitId, s.conditioner.units[u] = none) → s.mgmt.readBack = none →
    (∀ u : UnitId, t.conditioner.units[u] = none) ∧ t.store.free = s.store.free ∧ t.store.loose = s.store.loose ∧
      t.store.curves = s.store.curves ∧ t.mgmt = s.mgmt

namespace PageWriting
variable {s : State} {r : WriteRecord} {k : Nat} {t : State}

theorem start (hw : s.loader.write = some r) (h16 : r.nextSlot ≤ 16) (ha : s.store.arbiter.Kept) : PageWriting s r r.nextSlot s where
  loader := by rw [← hw]
  lower := Nat.le_refl _
  upper := h16
  written i hi hk := absurd hi (Nat.not_le.2 hk)
  unwritten _ _ := rfl
  other _ _ := rfl
  arbiter := ha
  alone hu _ := ⟨hu, rfl, rfl, rfl, rfl⟩

variable (h : PageWriting s r k t)
include h

theorem state (hs : s.loader.state = .writing) : t.loader.state = .writing := by rw [h.loader]; exact hs

theorem write : t.loader.write = some { r with nextSlot := k } := by rw [h.loader]

/-- The claim, until slot 15 is written. -/
theorem claim (hs : s.loader.state = .writing) (hk : k < 16) : t.pageWriteClaim = some ({ r with nextSlot := k }, ⟨k, hk⟩) :=
  State.pageWriteClaim_eq_some.2 ⟨h.state hs, h.write, rfl⟩

theorem done_iff (hs : s.loader.state = .writing) : t.pageWriteDone = true ↔ 16 ≤ k :=
  State.pageWriteDone_of_writing (h.state hs) h.write

/-- A change that leaves loader and page array alone. -/
theorem same {u : State} (hl : u.loader = t.loader) (hp : u.store.pages = t.store.pages) (ha : u.store.arbiter.Kept)
    (hx : (∀ x : UnitId, t.conditioner.units[x] = none) → t.mgmt.readBack = none →
      (∀ x : UnitId, u.conditioner.units[x] = none) ∧ u.store.free = t.store.free ∧ u.store.loose = t.store.loose ∧
        u.store.curves = t.store.curves ∧ u.mgmt = t.mgmt) : PageWriting s r k u where
  loader := hl.trans h.loader
  lower := h.lower
  upper := h.upper
  written := by rw [hp]; exact h.written
  unwritten := by rw [hp]; exact h.unwritten
  other := by rw [hp]; exact h.other
  arbiter := ha
  alone hu hr := by
    obtain ⟨hu', hfree, hloose, hcurves, hmgmt⟩ := h.alone hu hr
    obtain ⟨hx', hfree', hloose', hcurves', hmgmt'⟩ := hx hu' (by rw [hmgmt]; exact hr)
    exact ⟨hx', hfree'.trans hfree, hloose'.trans hloose, hcurves'.trans hcurves, hmgmt'.trans hmgmt⟩

/-- A unit's work, and a read-back that ends, touch neither; an unfinished write does not end. -/
theorem endDue (hs : s.loader.state = .writing) (hk : k < 16) : PageWriting s r k t.endDue := by
  have hnot : t.endDue = ((t.endConversion 0).endConversion 1).finishReadBack := by
    refine State.completeWrite_of_not_done (Bool.eq_false_iff.2 fun hd => ?_)
    have hloader : ((t.endConversion 0).endConversion 1).finishReadBack.loader = t.loader := by simp
    exact Nat.not_le.2 hk ((State.pageWriteDone_of_writing (by rw [hloader]; exact h.state hs) (by rw [hloader]; exact h.write)).1 hd)
  refine h.same (by simp [hnot]) (CurveStore.pages_of_accessed t.endDue_accessed) ?_ fun hu hr => ?_
  · rw [CurveStore.arbiter_of_accessed t.endDue_accessed]
    exact h.arbiter
  · rw [hnot, State.endConversion_of_not_done (State.unitDone_of_idle (hu 0)), State.endConversion_of_not_done (State.unitDone_of_idle (hu 1)),
      State.finishReadBack_of_not_done (State.readBackDone_of_none hr)]
    exact ⟨hu, rfl, rfl, rfl, rfl⟩

/-- A grant to another claimant. -/
theorem passed (hg : t.store.arbiter.choose t.claims ≠ some (.other .pageWrite)) : PageWriting s r k t.grantPeriod := by
  have hstore := State.grantPeriod_store_of_ne hg
  refine h.same (t.access_of_ne_pageWrite hg).1 (by rw [hstore]) ?_ fun hu hr => ⟨?_, by rw [hstore], by rw [hstore], by rw [hstore], ?_⟩
  · rw [State.grantPeriod_arbiter]
    exact h.arbiter.after _
  · show ∀ x : UnitId, (t.access _).conditioner.units[x] = none
    generalize t.store.arbiter.choose t.claims = g
    match g with
    | some (.unit u) =>
      have hbusy : t.busySlot u = none := by
        unfold State.busySlot
        rw [hu u]
      have hsame : t.grantUnit u = t := by
        unfold State.grantUnit
        rw [hbusy]
      rw [State.access, hsame]
      exact hu
    | some (.other .readBack) => simpa [State.access] using hu
    | some (.other .pageWrite) => simpa [State.access] using hu
    | none => exact hu
  · show (t.access _).mgmt = t.mgmt
    generalize t.store.arbiter.choose t.claims = g
    match g with
    | some (.unit u) => simp [State.access]
    | some (.other .readBack) =>
      unfold State.access State.grantReadBack
      rw [hr]
    | some (.other .pageWrite) => simp [State.access]
    | none => rfl

/-- The page write's own grant writes its next slot. -/
theorem served (hs : s.loader.state = .writing) (hk : k < 16) (hg : t.store.arbiter.choose t.claims = some (.other .pageWrite)) :
    PageWriting s r (k + 1) t.grantPeriod := by
  have hperiod := State.grantPeriod_of_choose hg
  rw [State.access] at hperiod
  have hgrant := State.grantPageWrite_eq (h.claim hs hk)
  have hpages : t.grantPeriod.store.pages = vmod t.store.pages r.page fun p => p.set k t.loader.staging.slots[k] := by
    rw [hperiod, hgrant]
    rfl
  have hslot (i : Fin 16) : t.grantPeriod.store.pages[r.page][i] =
      if k = i.val then s.loader.staging.slots[i] else t.store.pages[r.page][i] := by
    rw [hpages, vmod_self]
    show (t.store.pages[r.page].set k t.loader.staging.slots[k])[i.val] = _
    rw [Vector.getElem_set, h.loader]
    split
    next e =>
      subst e
      rfl
    next => rfl
  refine ⟨?_, Nat.le_succ_of_le h.lower, hk, fun i hi hik => ?_, fun i hi => ?_, fun p hp => ?_, ?_, fun hu hr => ?_⟩
  · rw [hperiod, hgrant, h.loader]
  · rw [hslot]
    split
    next => rfl
    next hne => exact h.written i hi (by omega)
  · have := h.lower
    rw [hslot, if_neg (by omega)]
    exact h.unwritten i hi
  · rw [hpages, vmod_other _ _ (Ne.symm hp)]
    exact h.other p hp
  · rw [State.grantPeriod_arbiter]
    exact h.arbiter.after _
  · obtain ⟨hu', hfree, hloose, hcurves, hmgmt⟩ := h.alone hu hr
    rw [hperiod, hgrant]
    exact ⟨hu', hfree, hloose, hcurves, hmgmt⟩

end PageWriting

theorem PageWriting.work {s : State} (r : WriteRecord) (hs : s.loader.state = .writing) :
    PortWork .pageWrite State.pageWriteDone 16 (fun k => 16 ≤ k) (PageWriting s r) where
  done _ _ h := Bool.eq_iff_iff.2 ((h.done_iff hs).trans decide_eq_true_iff.symm)
  more _ _ _ hd := by simpa using hd
  kept _ _ h := h.arbiter
  due _ _ h hd := h.endDue hs (by simpa using hd)
  waits _ _ h hd := by
    rw [show Claims.waits _ .pageWrite = _ from rfl, State.claims, h.claim hs (by simpa using hd)]
    rfl
  served _ _ h hd hg := h.served hs (by simpa using hd) hg
  passed _ _ h _ hg := h.passed hg

/-- Settles O26: the write's 16 slots take 8 periods each at most; the completion reads the loader the periods have kept. -/
theorem pageWriteCompletes : Obligations.PageWriteCompletes := by
  refine fun s => ⟨fun hs => if_neg hs, fun r hs hw h16 ha => ?_, fun r hs hw h16 h0 h1 hr => ?_⟩
  · intro t ended
    obtain ⟨k, h, hk⟩ := (PageWriting.work r hs).passUntil (n := 128) (PageWriting.start hw h16 ha) (by
      have := StoreArbiter.otherWait_le s.store.arbiter .pageWrite
      omega)
    have hk16 : k = 16 := Nat.le_antisymm h.upper (by simpa using hk)
    subst hk16
    have hexec : exec .pageWriteCompletion s = .next t.completeWrite := if_pos hs
    have hlease : t.loader.lease = s.loader.lease := by rw [h.loader]
    refine ⟨h.loader, fun i hi => h.written i hi i.isLt, h.unwritten, h.other, fun hu hr => (h.alone hu hr).2, fun hl => ?_, fun hl => ?_⟩
    · rw [hexec, State.completeWrite_open (h.state hs) h.write (Nat.le_refl 16) (by rw [hlease]; exact hl)]
    · rw [hexec, State.completeWrite_lost (h.state hs) h.write (Nat.le_refl 16) (by rw [hlease]; exact hl)]
  · have hdue : s.endDue = s.completeWrite := by rw [State.endDue_of_units h0 h1, State.finishReadBack_of_not_done hr]
    have hended : s.accessPeriod = s.completeWrite.accessPeriod := by
      refine State.accessPeriod_of_endDue (by simp) h0 h1 ?_ (hdue.trans s.completeWrite_completeWrite.symm)
      rw [State.readBackDone_congr s.completeWrite_engine.2.2, hr]
    exact ⟨fun hl => by rw [hended, State.completeWrite_open hs hw h16 hl], fun hl => by rw [hended, State.completeWrite_lost hs hw h16 hl]⟩

end Sys2Proof.Machine
end

section
/-! A read-back through its access periods: O28. -/

namespace Sys2Proof.Machine

/-! ### Knots in page lists (03 R47) -/

namespace CurveStore
variable (t : CurveStore) (pages : List PageId)

/-- Knot 16i + j stands in slot j of the page at position i. -/
theorem knotAt_slot (i : Nat) (j : Fin 16) : t.knotAt pages (16 * i + j.val) = (pages[i]?).map fun p => t.pages[p][j] := by
  have hdiv : (16 * i + j.val) / 16 = i := by omega
  have hmod : (16 * i + j.val) % 16 = j.val := by omega
  simp only [knotAt, hdiv, hmod]
  rfl

theorem knotAt_isSome {k : Nat} (h : k < 16 * pages.length) : (t.knotAt pages k).isSome = true := by
  have hlt : k / 16 < pages.length := by omega
  simp [knotAt, hlt]

variable {t pages}

/-- The knots of pages that hold what they held. -/
theorem knotAt_congr {u : CurveStore} (h : ∀ p ∈ pages, u.pages[p] = t.pages[p]) (k : Nat) : u.knotAt pages k = t.knotAt pages k := by
  unfold knotAt
  cases hp : pages[k / 16]? with
  | none => rfl
  | some p => simp only [Option.map_some, h p (List.mem_of_getElem? hp)]

end CurveStore

/-- Knots that are all there, listed. -/
theorem filterMap_range_of_isSome {α : Type} {f : Nat → Option α} {n : Nat} (h : ∀ i, i < n → (f i).isSome = true) :
    ((List.range n).filterMap f).length = n ∧ ∀ i, i < n → ((List.range n).filterMap f)[i]? = f i := by
  induction n with
  | zero => exact ⟨rfl, fun i hi => absurd hi (Nat.not_lt_zero i)⟩
  | succ n ih =>
    obtain ⟨hlen, hget⟩ := ih fun i hi => h i (by omega)
    obtain ⟨x, hx⟩ := Option.isSome_iff_exists.1 (h n (Nat.lt_succ_self n))
    have hsplit : (List.range (n + 1)).filterMap f = (List.range n).filterMap f ++ [x] := by
      rw [List.range_succ, List.filterMap_append, List.filterMap_cons_some hx, List.filterMap_nil]
    rw [hsplit]
    refine ⟨by simp [hlen], fun i hi => ?_⟩
    by_cases hin : i < n
    · rw [List.getElem?_append_left (by omega), hget i hin]
    · obtain rfl : i = n := by omega
      rw [List.getElem?_append_right (by omega), hlen, Nat.sub_self, hx]
      rfl

/-! ### Increasing knots (05 R105) -/

/-- A knot continues increasing knots when it is not out of order after them. -/
theorem increasing_append (l : List Knot) (k : Knot) : increasing (l ++ [k]) ↔ increasing l ∧ outOfOrder l k = false := by
  match l with
  | [] => simp [increasing, outOfOrder]
  | [a] => simp [increasing, outOfOrder]
  | a :: b :: rest =>
    have ih := increasing_append (b :: rest) k
    simp only [List.cons_append] at ih ⊢
    simp only [increasing, ih, and_assoc]
    rfl

theorem increasing_take {l : List Knot} (h : increasing l) (n : Nat) : increasing (l.take n) := by
  induction l using List.reverseRecOn with
  | nil => simpa using h
  | append_singleton l k ih =>
    by_cases hn : n ≤ l.length
    · rw [List.take_append_of_le_length hn]
      exact ih ((increasing_append l k).1 h).1
    · rwa [List.take_of_length_le (by simp; omega)]

/-! ### A read-back's record -/

/-- The record after a list of knots has been granted to it, one after another. -/
def ReadBack.readAll (r : ReadBack) (l : List Knot) : ReadBack := l.foldl ReadBack.granted r

namespace ReadBack
variable (r : ReadBack) (l : List Knot)

theorem readAll_append (k : Knot) : r.readAll (l ++ [k]) = (r.readAll l).granted k := by simp [readAll]

/-- What the grants leave of the record, and the knots they add. -/
theorem readAll_frame : (r.readAll l).curve = r.curve ∧ (r.readAll l).generation = r.generation ∧ (r.readAll l).pages = r.pages ∧
    (r.readAll l).knots = r.knots ∧ (r.readAll l).first = r.first ∧ (r.readAll l).count = r.count ∧ (r.readAll l).got = r.got ++ l := by
  induction l using List.reverseRecOn with
  | nil => simp [readAll]
  | append_singleton l k ih =>
    obtain ⟨hc, hg, hp, hk, hf, hn, hgot⟩ := ih
    rw [readAll_append]
    exact ⟨hc, hg, hp, hk, hf, hn, by rw [granted, hgot, List.append_assoc]⟩

theorem readAll_count : (r.readAll l).count = r.count := by
  obtain ⟨-, -, -, -, -, hcount, -⟩ := r.readAll_frame l
  exact hcount

theorem readAll_got : (r.readAll l).got = r.got ++ l := by
  obtain ⟨-, -, -, -, -, -, hgot⟩ := r.readAll_frame l
  exact hgot

/-- The record after its knots, but for the purpose, which may note an index. -/
theorem readAll_eq {p : ReadPurpose} (hp : (r.readAll l).purpose = p) : r.readAll l = { r with purpose := p, got := r.got ++ l } := by
  obtain ⟨hc, hg, hpages, hk, hf, hn, hgot⟩ := r.readAll_frame l
  calc r.readAll l = ⟨(r.readAll l).purpose, (r.readAll l).curve, (r.readAll l).generation, (r.readAll l).pages, (r.readAll l).knots,
        (r.readAll l).first, (r.readAll l).count, (r.readAll l).got⟩ := rfl
    _ = _ := by rw [hp, hc, hg, hpages, hk, hf, hn, hgot]

variable {r l}

theorem readAll_readKnots (hr : r.purpose = .readKnots) : (r.readAll l).purpose = .readKnots := by
  induction l using List.reverseRecOn with
  | nil => exact hr
  | append_singleton l k ih => rw [readAll_append, granted, ih]

/-- An order check that has found nothing out of order notes nothing (05 R105). -/
theorem readAll_increasing (hr : r.purpose = .orderCheck none) (hl : increasing (r.got ++ l)) : (r.readAll l).purpose = .orderCheck none := by
  induction l using List.reverseRecOn with
  | nil => exact hr
  | append_singleton l k ih =>
    rw [← List.append_assoc, increasing_append] at hl
    obtain ⟨hl, hk⟩ := hl
    rw [readAll_append, granted, ih hl, readAll_got]
    simp [hk]

/-- The first knot out of order is noted with its index (05 R105). -/
theorem readAll_outOfOrder {k : Knot} (hr : r.purpose = .orderCheck none) (hl : increasing (r.got ++ l)) (hk : ¬ increasing (r.got ++ (l ++ [k]))) :
    (r.readAll (l ++ [k])).purpose = .orderCheck (some (r.got ++ l).length) := by
  have hout : outOfOrder (r.got ++ l) k = true := by
    rw [← List.append_assoc, increasing_append] at hk
    simpa [hl] using hk
  rw [readAll_append, granted, readAll_increasing hr hl, readAll_got]
  simp [hout]

theorem done_of_count (h : r.count ≤ r.got.length) : r.done = true := by simp [done, h]

theorem done_of_failed {k : Nat} (h : r.purpose = .orderCheck (some k)) : r.done = true := by simp [done, h]

theorem count_le_of_done (h : r.done = true) (hp : r.purpose = .readKnots ∨ r.purpose = .orderCheck none) : r.count ≤ r.got.length := by
  obtain hp | hp := hp <;> simpa [done, hp] using h

end ReadBack

/-! ### The engine while it is EXECUTING (02 R37) -/

theorem State.settleFence_of_not_waiting {s : State} (h : s.mgmt.state ≠ .fenceWait) : s.settleFence = s := by
  unfold State.settleFence State.fenceDue
  rw [if_neg h]

section
variable {s : State} (h : s.mgmt.state ≠ .fenceWait)
include h

theorem State.releaseSlot_mgmt (i : SlotId) : (s.releaseSlot i).mgmt = s.mgmt := by
  unfold State.releaseSlot
  split
  · rw [State.settleFence_of_not_waiting (by simpa using h)]
    simp
  · rfl

theorem State.enterCq_mgmt : s.enterCq.mgmt = s.mgmt := by
  unfold State.enterCq
  split
  · split
    next i w f _ _ => exact State.releaseSlot_mgmt (s := { s with merger := { s.merger with cq := s.merger.cq ++ [(⟨f, w.context⟩ : CqEntry)] } }) h i
    next => rfl
  · rfl

theorem State.endConversion_mgmt (u : UnitId) : (s.endConversion u).mgmt = s.mgmt := by
  unfold State.endConversion
  split
  · split
    next b w _ =>
      have hidle : ((s.commit w b.work).idleUnit u).mgmt = s.mgmt := by simp
      rw [State.startConversions_mgmt]
      unfold State.settleSlot
      dsimp only
      split
      · rw [State.releaseSlot_mgmt (by rw [hidle]; exact h), hidle]
      · split
        · rw [State.enterCq_mgmt (by simpa using h)]
          simp
        · simp
    next => rfl
  · rfl

end

end Sys2Proof.Machine
end

section
/-! The read-back as work of the store port: O28. -/

namespace Sys2Proof.Machine

/-! ### What a grant leaves of the page write -/

section
variable (s : State)

/-- A grant of a period leaves every page alone but that of the write in flight. -/
theorem State.grantPeriod_page {p : PageId} (h : ∀ q ∈ s.pageWriteClaim, q.1.page ≠ p) : s.grantPeriod.store.pages[p] = s.store.pages[p] := by
  by_cases hg : s.store.arbiter.choose s.claims = some (.other .pageWrite)
  · rw [State.grantPeriod_of_choose hg]
    exact s.grantPageWrite_other h
  · rw [State.grantPeriod_store_of_ne hg]

/-- A page write goes on with its loader, and its record but for the slot. -/
theorem State.grantPeriod_loader : s.grantPeriod.loader = s.loader ∨ ∃ r, s.loader.write = some r ∧ r.nextSlot < 16 ∧
    s.grantPeriod.loader = { s.loader with write := some { r with nextSlot := r.nextSlot + 1 } } := by
  by_cases hg : s.store.arbiter.choose s.claims = some (.other .pageWrite)
  · rw [State.grantPeriod_of_choose hg]
    show s.grantPageWrite.loader = s.loader ∨ ∃ r, _ ∧ _ ∧ s.grantPageWrite.loader = _
    cases hc : s.pageWriteClaim with
    | none =>
      rw [State.grantPageWrite_of_none hc]
      exact .inl rfl
    | some q =>
      obtain ⟨-, hw, hi⟩ := State.pageWriteClaim_eq_some.1 hc
      rw [State.grantPageWrite_eq hc]
      exact .inr ⟨q.1, hw, by omega, rfl⟩
  · exact .inl (s.access_of_ne_pageWrite hg).1

theorem State.grantPeriod_loaderState : s.grantPeriod.loader.state = s.loader.state := by
  obtain e | ⟨r, -, -, e⟩ := s.grantPeriod_loader <;> rw [e]

theorem State.grantPeriod_claim {q : WriteRecord × Fin 16} (h : q ∈ s.grantPeriod.pageWriteClaim) :
    ∃ q' ∈ s.pageWriteClaim, q'.1.page = q.1.page := by
  obtain ⟨hs, hw, hi⟩ := State.pageWriteClaim_eq_some.1 (Option.mem_def.1 h)
  rw [s.grantPeriod_loaderState] at hs
  obtain e | ⟨r, hr, hlt, e⟩ := s.grantPeriod_loader
  · rw [e] at hw
    exact ⟨q, State.pageWriteClaim_eq_some.2 ⟨hs, hw, hi⟩, rfl⟩
  · rw [e] at hw
    refine ⟨(r, ⟨r.nextSlot, hlt⟩), State.pageWriteClaim_eq_some.2 ⟨hs, hr, rfl⟩, ?_⟩
    rw [← Option.some.inj hw]

end

/-! ### A read-back in progress -/

/-- The knots a read-back's record has still to read, first to last: those its pages hold. -/
structure ReadBack.StillToRead (r : ReadBack) (t : CurveStore) (l : List Knot) : Prop where
  count : r.count = r.got.length + l.length
  knots : ∀ i, i < l.length → t.knotAt r.pages (r.first + r.got.length + i) = l[i]?

/-- In `t` the read-back that stands in `s` with record `r` and knots `l` still to read has read `j` more of them, and was not done before. -/
structure ReadingBack (s : State) (r : ReadBack) (l : List Knot) (j : Nat) (t : State) : Prop where
  record : t.mgmt.readBack = some (r.readAll (l.take j))
  state : t.mgmt.state = .executing
  current : t.mgmt.current = s.mgmt.current
  upper : j ≤ l.length
  earlier : ∀ i, i < j → (r.readAll (l.take i)).done = false
  knots : ∀ k, t.store.knotAt r.pages k = s.store.knotAt r.pages k
  spared : ∀ q ∈ t.pageWriteClaim, q.1.page ∉ r.pages
  arbiter : t.store.arbiter.Kept
  alone : s.loader.state ≠ .writing → t.loader.state ≠ .writing ∧ t.mgmt = { s.mgmt with readBack := t.mgmt.readBack }

namespace ReadingBack
variable {s : State} {r : ReadBack} {l : List Knot} {j : Nat} {t : State}

theorem start (hr : s.mgmt.readBack = some r) (hs : s.mgmt.state = .executing) (hw : ∀ q ∈ s.pageWriteClaim, q.1.page ∉ r.pages)
    (ha : s.store.arbiter.Kept) : ReadingBack s r l 0 s where
  record := hr
  state := hs
  current := rfl
  upper := Nat.zero_le _
  earlier _ hi := absurd hi (Nat.not_lt_zero _)
  knots _ := rfl
  spared := hw
  arbiter := ha
  alone h := ⟨h, rfl⟩

variable (h : ReadingBack s r l j t)
include h

theorem done : t.readBackDone = (r.readAll (l.take j)).done := by
  unfold State.readBackDone
  rw [h.record]
  rfl

theorem lt_length (hl : r.StillToRead s.store l) (hd : (r.readAll (l.take j)).done = false) : j < l.length := by
  refine Nat.lt_of_le_of_ne h.upper fun e => ?_
  subst e
  rw [ReadBack.done_of_count (by rw [ReadBack.readAll_count, ReadBack.readAll_got, hl.count]; simp)] at hd
  cases hd

/-- The claim: the next of the knots still to read. -/
theorem claim (hl : r.StillToRead s.store l) (hd : (r.readAll (l.take j)).done = false) : t.readBackClaim = l[j]? := by
  have hj := h.lt_length hl hd
  unfold State.readBackClaim
  rw [h.record]
  dsimp only
  obtain ⟨-, -, hpages, -, hfirst, -, hgot⟩ := r.readAll_frame (l.take j)
  rw [hd, hpages, hfirst, hgot, ← hl.knots j hj, ← h.knots]
  simp [Nat.min_eq_left (Nat.le_of_lt hj), Nat.add_assoc]

/-- A change that leaves the record, the command and the knots alone. -/
theorem same {u : State} (hr : u.mgmt.readBack = t.mgmt.readBack) (hs : u.mgmt.state = t.mgmt.state) (hc : u.mgmt.current = t.mgmt.current)
    (hk : ∀ k, u.store.knotAt r.pages k = t.store.knotAt r.pages k) (hw : ∀ q ∈ u.pageWriteClaim, q.1.page ∉ r.pages)
    (ha : u.store.arbiter.Kept) (hx : t.loader.state ≠ .writing → u.loader.state ≠ .writing ∧ u.mgmt = t.mgmt) : ReadingBack s r l j u where
  record := hr.trans h.record
  state := hs.trans h.state
  current := hc.trans h.current
  upper := h.upper
  earlier := h.earlier
  knots k := (hk k).trans (h.knots k)
  spared := hw
  arbiter := ha
  alone hn := by
    obtain ⟨ht, hm⟩ := h.alone hn
    obtain ⟨hu, hm'⟩ := hx ht
    rw [hm']
    exact ⟨hu, hm⟩

/-- Conversions that end leave the engine alone while it is EXECUTING, and a page write that completes touches no command. -/
theorem endDue (hd : (r.readAll (l.take j)).done = false) : ReadingBack s r l j t.endDue := by
  have hwait : t.mgmt.state ≠ .fenceWait := by rw [h.state]; simp
  have hm : ((t.endConversion 0).endConversion 1).mgmt = t.mgmt := by
    rw [State.endConversion_mgmt (by rwa [State.endConversion_mgmt hwait]), State.endConversion_mgmt hwait]
  have hdue : t.endDue = ((t.endConversion 0).endConversion 1).completeWrite := by
    unfold State.endDue
    rw [State.finishReadBack_of_not_done]
    rw [State.readBackDone_congr (congrArg Management.readBack hm), h.done, hd]
  have hl : ((t.endConversion 0).endConversion 1).loader = t.loader := by simp
  have haccessed := t.endDue_accessed
  obtain ⟨hs, hc, hr⟩ := ((t.endConversion 0).endConversion 1).completeWrite_engine
  rw [← hdue, hm] at hs hc hr
  refine h.same hr hs hc (CurveStore.knotAt_congr fun p _ => by rw [CurveStore.pages_of_accessed haccessed]) ?_ ?_ ?_
  · obtain e | ⟨-, hn⟩ := ((t.endConversion 0).endConversion 1).completeWrite_cases
    · have hclaim : t.endDue.pageWriteClaim = t.pageWriteClaim := by
        unfold State.pageWriteClaim
        rw [hdue, e, hl]
      rw [hclaim]
      exact h.spared
    · rw [← hdue] at hn
      rw [State.pageWriteClaim_of_not_writing hn]
      simp
  · rw [CurveStore.arbiter_of_accessed haccessed]
    exact h.arbiter
  · intro hn
    rw [hdue, State.completeWrite_of_not_done (State.pageWriteDone_of_not_writing (by rwa [hl])), hl, hm]
    exact ⟨hn, rfl⟩


/-- A grant to another claimant. -/
theorem passed (hg : t.store.arbiter.choose t.claims ≠ some (.other .readBack)) : ReadingBack s r l j t.grantPeriod := by
  have hm : t.grantPeriod.mgmt = t.mgmt := t.access_of_ne_readBack hg
  refine h.same (congrArg _ hm) (congrArg _ hm) (congrArg _ hm) (CurveStore.knotAt_congr fun p hp => t.grantPeriod_page fun q hq e => ?_)
    (fun q hq => ?_) (h.arbiter.after _) fun hn => ⟨t.grantPeriod_loaderState ▸ hn, hm⟩
  · exact h.spared q hq (e ▸ hp)
  · obtain ⟨q', hq', e⟩ := t.grantPeriod_claim hq
    exact e ▸ h.spared q' hq'

/-- The read-back's own grant reads its next knot. -/
theorem served (hl : r.StillToRead s.store l) (hd : (r.readAll (l.take j)).done = false)
    (hg : t.store.arbiter.choose t.claims = some (.other .readBack)) : ReadingBack s r l (j + 1) t.grantPeriod := by
  have hj := h.lt_length hl hd
  have hclaim := h.claim hl hd
  rw [List.getElem?_eq_getElem hj] at hclaim
  have hm : t.grantPeriod.mgmt = { t.mgmt with readBack := some (r.readAll (l.take (j + 1))) } := by
    rw [State.grantPeriod_of_choose hg]
    show t.grantReadBack.mgmt = _
    unfold State.grantReadBack
    rw [h.record, hclaim, List.take_succ_eq_append_getElem hj, ReadBack.readAll_append]
  have hstore : t.grantPeriod.store = { t.store with arbiter := t.grantPeriod.store.arbiter } :=
    State.grantPeriod_store_of_ne (by rw [hg]; simp)
  have hloader : t.grantPeriod.loader = t.loader := (t.access_of_ne_pageWrite (by rw [hg]; simp)).1
  refine ⟨by rw [hm], by rw [hm]; exact h.state, by rw [hm]; exact h.current, hj, fun i hi => ?_, fun k => ?_, fun q hq => ?_, h.arbiter.after _, fun hn => ?_⟩
  · obtain hlt | rfl := Nat.lt_succ_iff_lt_or_eq.1 hi
    · exact h.earlier i hlt
    · exact hd
  · rw [hstore]
    exact h.knots k
  · obtain ⟨q', hq', e⟩ := t.grantPeriod_claim hq
    exact e ▸ h.spared q' hq'
  · obtain ⟨ht, hmgmt⟩ := h.alone hn
    rw [hloader, hm]
    exact ⟨ht, by rw [hmgmt]⟩

end ReadingBack

theorem ReadingBack.work {s : State} {r : ReadBack} {l : List Knot} (hl : r.StillToRead s.store l) :
    PortWork .readBack State.readBackDone l.length (fun j => (r.readAll (l.take j)).done) (ReadingBack s r l) where
  done _ _ h := h.done
  more _ _ h hd := h.lt_length hl hd
  kept _ _ h := h.arbiter
  due _ _ h hd := h.endDue hd
  waits _ _ h hd := by
    show (State.readBackClaim _).isSome = true
    rw [h.claim hl hd, List.getElem?_eq_getElem (h.lt_length hl hd)]
    rfl
  served _ _ h hd hg := h.served hl hd hg
  passed _ _ h _ hg := h.passed hg

/-- A read-back ends within 8 periods for each knot it has still to read. -/
theorem ReadingBack.passUntil {s : State} {r : ReadBack} {l : List Knot} (hr : s.mgmt.readBack = some r) (hs : s.mgmt.state = .executing)
    (hw : ∀ q ∈ s.pageWriteClaim, q.1.page ∉ r.pages) (ha : s.store.arbiter.Kept) (hl : r.StillToRead s.store l) {n : Nat} (hn : 8 * l.length ≤ n) :
    ∃ j, ReadingBack s r l j (s.passUntil State.readBackDone n) ∧ (r.readAll (l.take j)).done = true := by
  have hle := StoreArbiter.otherWait_le s.store.arbiter .readBack
  exact (ReadingBack.work hl).passUntil (ReadingBack.start hr hs hw ha) (by omega)

/-! ### Its end -/

namespace ReadingBack
variable {s : State} {r : ReadBack} {l : List Knot} {j : Nat} {t : State} (h : ReadingBack s r l j t)
include h

/-- A read-back that is done with nothing noted out of order has read all its knots. -/
theorem eq_length (hl : r.StillToRead s.store l) (hd : (r.readAll (l.take j)).done = true)
    (hp : (r.readAll (l.take j)).purpose = .readKnots ∨ (r.readAll (l.take j)).purpose = .orderCheck none) : j = l.length := by
  have hle := ReadBack.count_le_of_done hd hp
  rw [ReadBack.readAll_count, ReadBack.readAll_got, hl.count] at hle
  simp only [List.length_append, List.length_take] at hle
  have := h.upper
  omega

/-- A check of knots of increasing x ends after the last of them. -/
theorem record_of_increasing (hl : r.StillToRead s.store l) (hd : (r.readAll (l.take j)).done = true) (hp : r.purpose = .orderCheck none)
    (hg : r.got = []) (hi : increasing l) : t.mgmt.readBack = some { r with got := l } := by
  have hpurpose (i : Nat) : (r.readAll (l.take i)).purpose = .orderCheck none :=
    ReadBack.readAll_increasing hp (by rw [hg]; exact increasing_take hi i)
  obtain rfl := h.eq_length hl hd (.inr (hpurpose j))
  rw [h.record, ReadBack.readAll_eq _ _ (hpurpose _), List.take_length, hg, List.nil_append, ← hp]

/-- A check whose first knot out of order is number `k` ends with that knot. -/
theorem record_of_outOfOrder (hl : r.StillToRead s.store l) (hd : (r.readAll (l.take j)).done = true) (hp : r.purpose = .orderCheck none)
    (hg : r.got = []) {k : Nat} (hk : k < l.length) (hi : increasing (l.take k)) (hn : ¬ increasing (l.take (k + 1))) :
    t.mgmt.readBack = some { r with purpose := .orderCheck (some k), got := l.take (k + 1) } := by
  have hfailed : (r.readAll (l.take (k + 1))).purpose = .orderCheck (some k) := by
    rw [List.take_succ_eq_append_getElem hk] at hn ⊢
    have hout := ReadBack.readAll_outOfOrder (l := l.take k) (k := l[k]) hp (by rwa [hg]) (by rwa [hg])
    rwa [hg, List.nil_append, List.length_take, Nat.min_eq_left (Nat.le_of_lt hk)] at hout
  have hge : k + 1 ≤ j := by
    by_contra hlt
    have htake : l.take j = (l.take k).take j := by rw [List.take_take, Nat.min_eq_left (by omega)]
    have hpurpose : (r.readAll (l.take j)).purpose = .orderCheck none :=
      ReadBack.readAll_increasing hp (by rw [hg, htake]; exact increasing_take hi j)
    have := h.eq_length hl hd (.inr hpurpose)
    omega
  have hle : j ≤ k + 1 := by
    by_contra hlt
    have := h.earlier (k + 1) (by omega)
    rw [ReadBack.done_of_failed hfailed] at this
    cases this
  obtain rfl : j = k + 1 := by omega
  rw [h.record, ReadBack.readAll_eq _ _ hfailed, hg, List.nil_append]

end ReadingBack

/-- The knots of a record that has read none yet, when its pages hold them. -/
theorem ReadBack.stillToRead_of_begun {r : ReadBack} (t : CurveStore) (hg : r.got = []) (hfit : r.first + r.count ≤ 16 * r.pages.length) :
    r.StillToRead t ((List.range r.count).filterMap fun i => t.knotAt r.pages (r.first + i)) := by
  obtain ⟨hlen, hget⟩ := filterMap_range_of_isSome (f := fun i => t.knotAt r.pages (r.first + i)) (n := r.count) fun i hi =>
    t.knotAt_isSome r.pages (by omega)
  refine ⟨by rw [hg, hlen]; simp, fun i hi => ?_⟩
  rw [hlen] at hi
  rw [hget i hi, hg]
  rfl

theorem State.finishReadBack_readKnots {s : State} {r : ReadBack} (hr : s.mgmt.readBack = some r) (hd : r.done = true) (hp : r.purpose = .readKnots) :
    s.finishReadBack = s.endReadBack .ok r.report := by
  unfold State.finishReadBack
  rw [hr]
  simp only [hd, if_true, hp]

theorem State.finishReadBack_failed {s : State} {r : ReadBack} {k : Nat} (hr : s.mgmt.readBack = some r) (hp : r.purpose = .orderCheck (some k)) :
    s.finishReadBack = s.endReadBack .badArg [4, byteOf k] := by
  unfold State.finishReadBack
  rw [hr]
  simp only [ReadBack.done_of_failed hp, if_true, hp]

theorem State.finishReadBack_passed {s : State} {r : ReadBack} (hr : s.mgmt.readBack = some r) (hd : r.done = true) (hp : r.purpose = .orderCheck none) :
    s.finishReadBack = s.defineCurve r := by
  unfold State.finishReadBack
  rw [hr]
  simp only [hd, if_true, hp]

theorem Management.respond_readBack {m : Management} (f : Frame) (st : Status) (p : List Byte) (h : m.readBack = none) :
    (m.respond f st p).readBack = none := by
  cases hr : (m.respond f st p).readBack with
  | none => rfl
  | some r =>
    rw [((m.respond_eases f st p).readBack r hr).1] at h
    cases h

theorem State.endReadBack_readBack {s : State} {f : Frame} (hf : s.mgmt.current = some f) (st : Status) (p : List Byte) :
    (s.endReadBack st p).mgmt.readBack = none := by
  unfold State.endReadBack
  rw [hf]
  exact Management.respond_readBack f st p rfl

/-- A read-back of a current command that has ended is out of the engine. -/
theorem State.finishReadBack_readBack {s : State} {f : Frame} (hf : s.mgmt.current = some f) (hd : s.readBackDone = true) :
    s.finishReadBack.mgmt.readBack = none := by
  unfold State.readBackDone at hd
  unfold State.finishReadBack
  cases hr : s.mgmt.readBack with
  | none => rw [hr] at hd; cases hd
  | some r =>
    rw [hr] at hd
    dsimp only
    rw [if_pos (show r.done = true from hd)]
    split
    · exact State.endReadBack_readBack hf _ _
    · exact State.endReadBack_readBack hf _ _
    · exact State.endReadBack_readBack (s := { s with store := s.store.define r.curve r.pages r.knots }) hf _ _

/-- A read-back that has ended is answered at the start of the next period, where no conversion ends (log 29). -/
theorem State.accessPeriod_of_readBackDone {s : State} {f : Frame} (hf : s.mgmt.current = some f) (h0 : s.unitDone 0 = false)
    (h1 : s.unitDone 1 = false) (hd : s.readBackDone = true) : s.accessPeriod = s.finishReadBack.accessPeriod :=
  State.accessPeriod_of_endDue (by simp) h0 h1 (State.readBackDone_of_none (State.finishReadBack_readBack hf hd)) (State.endDue_of_units h0 h1)

theorem State.readBackDone_of_record {s : State} {r : ReadBack} (hr : s.mgmt.readBack = some r) : s.readBackDone = r.done := by
  unfold State.readBackDone
  rw [hr]
  rfl

/-- Settles O28: where a knot stands, what an ended read-back is answered, and the end that the periods bring about. -/
theorem readBackCompletes : Obligations.ReadBackCompletes := by
  refine ⟨fun t pages i j => t.knotAt_slot pages i j, fun s r f hr hf h0 h1 => ⟨fun hp hc => ?_, fun k hp => ?_, fun hp hc => ?_⟩,
    fun s r hr hs hg ha hfit hw => ?_⟩
  · have hd := ReadBack.done_of_count hc
    rw [State.accessPeriod_of_readBackDone hf h0 h1 ((State.readBackDone_of_record hr).trans hd), State.finishReadBack_readKnots hr hd hp]
    rfl
  · have hd := ReadBack.done_of_failed hp
    rw [State.accessPeriod_of_readBackDone hf h0 h1 ((State.readBackDone_of_record hr).trans hd), State.finishReadBack_failed hr hp]
    rfl
  · have hd := ReadBack.done_of_count hc
    rw [State.accessPeriod_of_readBackDone hf h0 h1 ((State.readBackDone_of_record hr).trans hd), State.finishReadBack_passed hr hd hp]
  · intro knots
    have hl : r.StillToRead s.store knots := ReadBack.stillToRead_of_begun s.store hg hfit
    have hlen : knots.length = r.count := by rw [hl.count, hg, List.length_nil, Nat.zero_add]
    refine ⟨fun hp h11 => ?_, fun hp h64 => ?_⟩
    · intro t
      obtain ⟨j, h, hd⟩ := ReadingBack.passUntil hr hs hw ha hl (n := 88) (by omega)
      have hpurpose : (r.readAll (knots.take j)).purpose = .readKnots := ReadBack.readAll_readKnots hp
      obtain rfl := h.eq_length hl hd (.inl hpurpose)
      have hrecord : t.mgmt.readBack = some { r with got := knots } := by
        rw [h.record, ReadBack.readAll_eq _ _ hpurpose, List.take_length, hg, List.nil_append, ← hp]
      have hexec : exec .readKnotsDone s = .next t.finishReadBack := if_pos (s.readingKnots_iff.2 ⟨r, hr, hp⟩)
      refine ⟨hrecord, h.current, fun hn => ?_, ?_⟩
      · rw [(h.alone hn).2, hrecord]
      · rw [hexec, State.finishReadBack_readKnots hrecord (ReadBack.done_of_count (by rw [hlen])) hp]
        rfl
    · intro t
      obtain ⟨j, h, hd⟩ := ReadingBack.passUntil hr hs hw ha hl (n := 512) (by omega)
      have hexec : exec .defineCurveCheckDone s = .next t.finishReadBack :=
        congrArg _ (if_pos (s.checkingOrder_iff.2 ⟨r, hr, by rw [hp]; simp⟩))
      refine ⟨fun hi => ?_, fun k h0 hk hi hn => ?_⟩
      · rw [hexec, State.finishReadBack_passed (h.record_of_increasing hl hd hp hg hi) (ReadBack.done_of_count (by rw [hlen])) hp]
      · rw [hexec, State.finishReadBack_failed (h.record_of_outOfOrder hl hd hp hg (by omega) hi hn) rfl]
        rfl

end Sys2Proof.Machine
end

section
/-! The events that leave every page, its place and the page being written alone, and what an order check needs to begin: O4, O57. -/

namespace Sys2Proof.Machine

/-! ### Events that move no page -/

/-- A descriptor with the pages and knots it had, EMPTY exactly when it was. -/
structure Curve.SameKnots (d e : Curve) : Prop where
  empty : e.state = .empty ↔ d.state = .empty
  knots : e.knots = d.knots
  pages : e.pages = d.pages

theorem Curve.SameKnots.refl (d : Curve) : d.SameKnots d := ⟨Iff.rfl, rfl, rfl⟩

theorem Curve.SameKnots.trans {d e f : Curve} (h : d.SameKnots e) (h' : e.SameKnots f) : d.SameKnots f :=
  ⟨h'.empty.trans h.empty, h'.knots.trans h.knots, h'.pages.trans h.pages⟩

/-- LEASE_TIME, an OPEN lease's timer and the staging cursor are in their ranges (07 Table 7-3, 05 R86, R92). -/
def State.LeaseBounded (s : State) : Prop :=
  (10 ≤ s.mgmt.params.leaseTime.toNat ∧ s.mgmt.params.leaseTime.toNat ≤ 2550) ∧
  (∀ l, s.loader.lease = some l → l.count < l.duration ∧ l.duration ≤ 2550) ∧
  s.loader.staging.cursor ≤ 15

theorem State.LeaseBounded.of_eq {s t : State} (h : s.LeaseBounded) (hl : t.loader = s.loader)
    (hp : t.mgmt.params.leaseTime = s.mgmt.params.leaseTime) : t.LeaseBounded := by
  unfold State.LeaseBounded
  rw [hl, hp]
  exact h

/-- The page of the write in flight, if there is one (05 R97). -/
def State.pageInFlight (s : State) : List PageId := if s.loader.state = .writing then (s.loader.write.map WriteRecord.page).toList else []

theorem State.pageInFlight_congr {s t : State} (hs : t.loader.state = s.loader.state) (hw : t.loader.write = s.loader.write) :
    t.pageInFlight = s.pageInFlight := by
  unfold State.pageInFlight
  rw [hs, hw]

theorem State.pageInFlight_of_not_writing {s : State} (h : s.loader.state ≠ .writing) : s.pageInFlight = [] := if_neg h

/-- From `s` to `t` no page has changed its knots or its place, the page being written is the same, the bounds of the lease still hold and it has not ended,
and no read-back has begun or moved on. -/
structure State.SamePages (s t : State) : Prop where
  accessed : t.store.accessed = s.store.accessed
  free : t.store.free = s.store.free
  loose : t.store.loose = s.store.loose
  curve : ∀ c, (s.curve c).SameKnots (t.curve c)
  inFlight : t.pageInFlight = s.pageInFlight
  bounded : s.LeaseBounded → t.LeaseBounded
  ended : t.loader.lease = none → s.loader.lease = none
  readBack : ∀ r, t.mgmt.readBack = some r → s.mgmt.readBack = some r ∧ t.mgmt.current = s.mgmt.current

namespace State.SamePages

theorem trans {s t u : State} (h : s.SamePages t) (h' : t.SamePages u) : s.SamePages u where
  accessed := h'.accessed.trans h.accessed
  free := h'.free.trans h.free
  loose := h'.loose.trans h.loose
  curve c := (h.curve c).trans (h'.curve c)
  inFlight := h'.inFlight.trans h.inFlight
  bounded hb := h'.bounded (h.bounded hb)
  ended hl := h.ended (h'.ended hl)
  readBack r hr := by
    obtain ⟨hr', hc'⟩ := h'.readBack r hr
    obtain ⟨hr'', hc⟩ := h.readBack r hr'
    exact ⟨hr'', hc'.trans hc⟩

/-- An event at the engine and the loader, the store untouched. -/
theorem of_store {s t : State} (hs : t.store = s.store) (hm : s.mgmt.Eases t.mgmt) (hf : t.pageInFlight = s.pageInFlight)
    (hb : s.LeaseBounded → t.LeaseBounded) (hl : t.loader.lease = none → s.loader.lease = none) : s.SamePages t where
  accessed := by rw [hs]
  free := by rw [hs]
  loose := by rw [hs]
  curve c := by
    unfold State.curve
    rw [hs]
    exact .refl _
  inFlight := hf
  bounded := hb
  ended := hl
  readBack := hm.readBack

/-- An event at the engine, store, loader and parameters untouched. -/
theorem of_engine {s t : State} (hs : t.store = s.store) (hl : t.loader = s.loader) (hm : s.mgmt.Eases t.mgmt)
    (hp : t.mgmt.params = s.mgmt.params) : s.SamePages t :=
  of_store hs hm (State.pageInFlight_congr (by rw [hl]) (by rw [hl])) (fun h => h.of_eq hl (by rw [hp])) (by rw [hl]; exact id)

/-- An event at the loader's lease and staging page. -/
theorem of_loader {s t : State} (hs : t.store = s.store) (hm : t.mgmt = s.mgmt) (hst : t.loader.state = s.loader.state)
    (hw : t.loader.write = s.loader.write) (hb : s.LeaseBounded → t.LeaseBounded) (hl : t.loader.lease = none → s.loader.lease = none) : s.SamePages t :=
  of_store hs (by rw [hm]; exact .refl _) (State.pageInFlight_congr hst hw) hb hl

/-- An event that writes neither store nor loader nor engine. -/
theorem of_eq {s t : State} (hs : t.store = s.store) (hl : t.loader = s.loader) (hm : t.mgmt = s.mgmt) : s.SamePages t :=
  of_engine hs hl (by rw [hm]; exact .refl _) (by rw [hm])

theorem refl (s : State) : s.SamePages s := of_eq rfl rfl rfl

/-- An event that changes descriptors in their counts, or between states that are not EMPTY, and nothing else. -/
theorem of_curves {s t : State} (ha : t.store.accessed = s.store.accessed) (hf : t.store.free = s.store.free) (ho : t.store.loose = s.store.loose)
    (hc : ∀ c, (s.curve c).SameKnots (t.curve c)) (hl : t.loader = s.loader) (hm : t.mgmt = s.mgmt) : s.SamePages t :=
  ⟨ha, hf, ho, hc, State.pageInFlight_congr (by rw [hl]) (by rw [hl]), fun h => h.of_eq hl (by rw [hm]), by rw [hl]; exact id,
    fun r hr => ⟨by rwa [hm] at hr, by rw [hm]⟩⟩

theorem modCurve {s : State} {c : CurveId} {f : Curve → Curve} (h : (s.curve c).SameKnots (f (s.curve c))) : s.SamePages (s.modCurve c f) :=
  of_curves rfl rfl rfl (fun d => by
    rw [State.curve_modCurve]
    split
    next e => exact e ▸ h
    next => exact .refl _) rfl rfl

variable (s : State)

theorem pin (c : CurveId) : s.SamePages (s.pin c) := modCurve ⟨Iff.rfl, rfl, rfl⟩

theorem respond (f : Frame) (st : Status) (p : List Byte) : s.SamePages (s.respond f st p) :=
  of_engine (by simp) (by simp) (Management.respond_eases _ _ _ _) (Management.respond_frame _ _ _ _).2

theorem leave : s.SamePages s.leave := of_engine (by simp) (by simp) s.mgmt.leave_eases s.mgmt.leave_frame.2.1

theorem begun (f : Frame) : s.SamePages (s.begun f) := of_engine (by simp) (by simp) (.of_eq rfl rfl rfl) rfl

theorem applyMiss : s.SamePages s.applyMiss := trans (t := s.countNode _) (of_eq rfl rfl rfl) (leave _)

theorem offer (r : Frame) : s.SamePages { s with mgmt := s.mgmt.offer r } :=
  of_engine rfl rfl (by simp) (s.mgmt.offer_frame r).2.1

theorem endReadBack (st : Status) (p : List Byte) : s.SamePages (s.endReadBack st p) := by
  unfold State.endReadBack
  split
  · exact trans (t := { s with mgmt := { s.mgmt with readBack := none } }) (of_engine rfl rfl ⟨fun h => ⟨h, rfl⟩, by simp⟩ rfl) (respond _ _ _ _)
  · exact refl s

theorem finishFenced (f : Frame) : s.SamePages (s.finishFenced f) := by
  unfold State.finishFenced
  split
  · split
    · split
      · exact (of_eq (t := s.applyMap _ _) (by simp) (by simp) (by simp)).trans (respond _ _ _ _)
      · exact refl s
    · exact refl s
  · split
    · exact (of_eq (t := s.applySettings _) (by simp) (by simp) (by simp)).trans (respond _ _ _ _)
    · exact refl s

theorem settleFence : s.SamePages s.settleFence := by
  unfold State.settleFence
  split
  · exact trans (t := s.setFence _ false) (of_eq rfl rfl rfl) (finishFenced _ _)
  · exact refl s

/-- The engine waits at a fence, its read-back if it has one as it was. -/
theorem fence (k : ContextId) : s.SamePages (s.fence k) :=
  ⟨rfl, rfl, rfl, fun _ => .refl _, rfl, fun h => h.of_eq rfl rfl, id, fun _ hr => ⟨hr, rfl⟩⟩

theorem occupy (k : ContextId) (i : SlotId) (c : CurveId) (f : Frame) : s.SamePages (s.occupy k i c f) := by
  unfold State.occupy
  exact trans (of_eq rfl rfl rfl) ((pin _ c).trans (of_eq rfl rfl rfl))

theorem reserve (l : List Pair) : s.SamePages (s.reserve l) :=
  of_curves (by simp [State.reserve, CurveStore.accessed]) (by simp [State.reserve]) (by simp [State.reserve])
    (fun c => by rw [State.curve_reserve]; exact ⟨Iff.rfl, rfl, rfl⟩) (by simp) (by simp)

theorem unreserve (l : List Pair) : s.SamePages (s.unreserve l) :=
  of_curves (by simp [State.unreserve, CurveStore.accessed]) (by simp [State.unreserve]) (by simp [State.unreserve])
    (fun c => by rw [State.curve_unreserve]; exact ⟨Iff.rfl, rfl, rfl⟩) (by simp) (by simp)

theorem cancelPending (b : PendingBind) : s.SamePages (s.cancelPending b) := by
  unfold State.cancelPending
  generalize hu : s.unreserve b.pairs = u
  have h : s.SamePages u := hu ▸ unreserve s b.pairs
  exact h.trans (of_eq rfl rfl rfl)

/-! ### The lease and the staging page -/

/-- A lease whose timer starts now is in its range as LEASE_TIME is (05 R86). -/
theorem newLease_bounded {owner : Byte} (h : s.LeaseBounded) : (s.newLease owner).count < (s.newLease owner).duration ∧ (s.newLease owner).duration ≤ 2550 := by
  obtain ⟨⟨hlow, hhigh⟩, -⟩ := h
  exact ⟨Nat.lt_of_lt_of_le (Nat.zero_lt_succ 9) hlow, hhigh⟩

theorem renewLease : s.SamePages s.renewLease := by
  refine of_loader rfl rfl rfl rfl (fun h => ?_) fun hl => Option.map_eq_none_iff.1 hl
  refine ⟨h.1, fun l hl => ?_, h.2.2⟩
  obtain ⟨l', -, rfl⟩ := Option.map_eq_some_iff.1 hl
  exact newLease_bounded s h

theorem openLease (owner : Byte) : s.SamePages (s.openLease owner) := by
  refine of_loader rfl rfl rfl rfl (fun h => ⟨h.1, fun l hl => ?_, Nat.zero_le 15⟩) fun hl => by cases hl
  cases hl
  exact newLease_bounded s h

theorem stage {g : Staging} (hg : g.cursor ≤ 15) : s.SamePages { s with loader := { s.loader with staging := g } } := by
  refine of_loader rfl rfl rfl rfl (fun h => ?_) id
  obtain ⟨htime, hlease, -⟩ := h
  exact ⟨htime, hlease, hg⟩

/-- A tick that does not end the lease (05 R86). -/
theorem countLease (hd : s.leaseDue = false) : s.SamePages s.countLease := by
  unfold State.countLease
  rw [hd, if_neg Bool.false_ne_true]
  refine of_loader rfl rfl rfl rfl (fun h => ?_) fun hl => Option.map_eq_none_iff.1 hl
  obtain ⟨htime, hlease, hcursor⟩ := h
  refine ⟨htime, fun l hl => ?_, hcursor⟩
  obtain ⟨l', hl', rfl⟩ := Option.map_eq_some_iff.1 hl
  simp only [State.leaseDue, hl', Option.elim_some, decide_eq_false_iff_not] at hd
  exact ⟨Nat.not_le.1 hd, (hlease l' hl').2⟩

/-- A parameter written within its range (07 Table 7-3). -/
theorem writeParam {p : ParamId} {v : Half} (hv : p.accepts v = true) : s.SamePages (s.writeParam p v) := by
  have hset : s.SamePages { s with mgmt := { s.mgmt with params := s.mgmt.params.set p v } } := by
    refine of_store rfl (.of_eq rfl rfl rfl) rfl (fun h => ?_) id
    obtain ⟨htime, hrest⟩ := h
    refine ⟨?_, hrest⟩
    cases p with
    | leaseTime =>
      simp only [ParamId.accepts, Bool.and_eq_true, decide_eq_true_eq] at hv
      exact hv.1
    | noticeRetry | unmappedPolicy | noticeMask => exact htime
  unfold State.writeParam
  dsimp only
  split
  · exact hset.trans (of_eq (by simp) (by simp) (by simp))
  · exact hset

/-- A response that the engine or the loader holds is placed; the loader holds one in POSTING alone (05 R103, 07 R142). -/
theorem placePosted (hp : Holder.loader ∈ s.mgmt.holders → s.loader.state = .posting) : s.SamePages s.placePosted := by
  unfold State.placePosted
  split
  · exact refl s
  next holder response rest hw =>
    split
    · have hplaced : s.SamePages { s with mgmt := { s.mgmt with waiting := rest, responseQueue := s.mgmt.responseQueue ++ [response] } } :=
        of_engine rfl rfl (.of_eq rfl rfl rfl) rfl
      dsimp only
      cases holder with
      | engine => exact hplaced.trans (leave _)
      | loader =>
        have hposting : s.loader.state = .posting := hp (by simp [Management.holders, hw])
        refine hplaced.trans (of_store rfl (.refl _) ?_ (fun h => h) id)
        rw [State.pageInFlight_of_not_writing (by simp), State.pageInFlight_of_not_writing (by simp [hposting])]
    · exact refl s

end State.SamePages

@[simp] theorem Management.leave_params (m : Management) : m.leave.params = m.params := m.leave_frame.2.1

@[simp] theorem Management.join_params (m : Management) (f : Frame) : (m.join f).params = m.params := by
  unfold Management.join
  dsimp only
  split <;> simp

/-- A command classifier taking leaves the parameters alone. -/
theorem State.classifyCommand_params (s : State) : s.classifyCommand.mgmt.params = s.mgmt.params := by
  unfold State.classifyCommand
  split
  · rfl
  next f rest _ =>
    dsimp only
    split
    · rfl
    · unfold State.arriveCommand
      split
      · rfl
      · split
        · rfl
        · simp
    · rw [State.takeUp_eq]
      split
      · unfold State.arriveBroadcast
        split
        · split
          · rfl
          · simp
        · rfl
      · rfl
    · rw [State.takeUp_eq]
      split <;> rfl
    · obtain e | e := s.takeStray_cases { s with dPort := { s.dPort with buffer := rest } } f <;> rw [e]
      split <;> rfl
    · rw [State.takeUp_eq]
      split <;> rfl

theorem State.SamePages.classifyCommand (s : State) : s.SamePages s.classifyCommand :=
  .of_engine (by simp) (by simp) s.classifyCommand_quiet.mgmt s.classifyCommand_params

/-! ### What an order check needs (05 R104, R105) -/

/-- An order check's record fits the store: its curve EMPTY, its pages loose and unmarked, each once and at most 4, as many as its knots need; the knots it has
read are those the pages hold, and of increasing x unless one was found out of order. -/
def State.CheckFits (s : State) (r : ReadBack) : Prop :=
  ∀ failed, r.purpose = .orderCheck failed →
    (s.curve r.curve).state = .empty ∧ r.pages.Nodup ∧ (∀ p ∈ r.pages, ⟨p, false⟩ ∈ s.store.loose) ∧
    knotsFit r.pages.length r.knots = true ∧ r.pages.length ≤ 4 ∧ r.first = 0 ∧ r.count = r.knots ∧
    (∀ (i : Nat) (k : Knot), r.got[i]? = some k → s.store.knotAt r.pages i = some k) ∧ (failed = none → increasing r.got)

theorem State.orderCheckKept_iff (s : State) :
    s.OrderCheckKept ↔ ∀ r, s.mgmt.readBack = some r → s.mgmt.current.isSome = true ∧ s.CheckFits r := Iff.rfl

/-- The pages a DEFINE_CURVE names are loose and unmarked, no more than the payload lists, and none is named twice (05 R104, check 3). -/
theorem loosePages_eq_ok {loose : List LoosePage} {seen pages : List PageId} {bytes : List Byte} (h : loosePages loose seen bytes = .ok pages) :
    pages.length = bytes.length ∧ pages.Nodup ∧ ∀ p ∈ pages, p ∉ seen ∧ ⟨p, false⟩ ∈ loose := by
  induction bytes generalizing seen pages with
  | nil =>
    cases h
    exact ⟨rfl, List.nodup_nil, by simp⟩
  | cons b rest ih =>
    unfold loosePages at h
    split at h
    next => cases h
    next p hp =>
      obtain ⟨-, hfree⟩ := Option.filter_eq_some_iff.1 hp
      simp only [Bool.and_eq_true, Bool.not_eq_true', List.contains_eq_mem, decide_eq_false_iff_not] at hfree
      obtain ⟨hloose, hseen⟩ := hfree
      split at h
      next more hmore =>
        cases h
        obtain ⟨hlen, hnodup, hall⟩ := ih hmore
        refine ⟨by simp [hlen], List.nodup_cons.2 ⟨fun hm => (hall p hm).1 (by simp), hnodup⟩, fun q hq => ?_⟩
        obtain rfl | hq := List.mem_cons.1 hq
        · exact ⟨hseen, by simpa using hloose⟩
        · obtain ⟨hns, hl⟩ := hall q hq
          exact ⟨fun hs => hns (List.mem_append_left _ hs), hl⟩
      next => cases h

/-- A definition that has passed DEFINE_CURVE's checks begins an order check that fits the store (05 R104). -/
theorem State.checkFits_of_checkDefinition {s : State} {payload : List Byte} {d : Definition} (h : s.checkDefinition payload = .ok d)
    (hlen : defineCurveLength payload = true) (g : Byte) : s.CheckFits ⟨.orderCheck none, d.curve, g, d.pages, d.knots, 0, d.knots, []⟩ := by
  have hempty := State.checkDefinition_empty h
  unfold State.checkDefinition at h
  split at h
  next id count rest =>
    split at h
    next => cases h
    next c _ =>
      split at h
      next => cases h
      next =>
        split at h
        next => cases h
        next pages hpages =>
          dsimp only at h
          split at h
          next hfit =>
            cases h
            obtain ⟨hn, hnodup, hall⟩ := loosePages_eq_ok hpages
            have hfour : pages.length ≤ 4 := by
              simp only [defineCurveLength, List.length_cons, Bool.and_eq_true, decide_eq_true_eq, beq_iff_eq] at hlen
              rw [hn, List.length_take]
              omega
            exact fun failed _ => ⟨hempty, hnodup, fun p hp => (hall p hp).2, hfit, hfour, rfl, rfl, by simp, fun _ => trivial⟩
          next => cases h
  next => cases h

end Sys2Proof.Machine
end

section
/-! Whatever the remaining events of the store keep, every command keeps that is not a full reset and lets no access period pass: O4, O57. -/

namespace Sys2Proof.Machine

/-! ### Bodies that move no page -/

namespace State.SamePages
variable (s : State) (f : Frame)

/-- An answer after an event that moves no page. -/
theorem answer {s t : State} (h : s.SamePages t) (f : Frame) (st : Status) (p : List Byte) : s.SamePages (t.respond f st p) := h.trans (respond t f st p)

theorem getStatusBody : s.SamePages (getStatusBody f s) := by
  unfold Machine.getStatusBody
  split
  · split
    · refine answer (?_ : s.SamePages _) _ _ _
      split
      · exact of_eq rfl rfl rfl
      · exact refl s
    · exact respond ..
  · exact respond ..

theorem setParamBody : s.SamePages (setParamBody f s) := by
  unfold Machine.setParamBody
  split
  · split
    · exact respond ..
    · dsimp only
      split
      next hv => exact (writeParam s hv).answer _ _ _
      next => exact respond ..
  · exact respond ..

theorem fenceOrFinish : s.SamePages (mapChannelBody.fenceOrFinish f s) := by
  unfold mapChannelBody.fenceOrFinish
  split
  · split
    · exact finishFenced s f
    · exact fence s _
  · exact finishFenced s f

theorem mapChannelBody : s.SamePages (mapChannelBody f s) := by
  unfold Machine.mapChannelBody
  split
  · split
    · exact respond ..
    · dsimp only
      split
      · exact respond ..
      · split
        · split
          · exact respond ..
          · exact fenceOrFinish s f
        · exact fenceOrFinish s f
  · exact respond ..

theorem setChannelBody : s.SamePages (setChannelBody f s) := by
  unfold Machine.setChannelBody
  split
  · exact respond ..
  · dsimp only
    split
    · exact respond ..
    · split
      · exact respond ..
      · split
        · unfold State.finishSettings
          exact answer (t := s.applySettings _) (of_eq (by simp) (by simp) (by simp)) _ _ _
        · exact fence s _

theorem getChannelBody : s.SamePages (getChannelBody f s) := by
  unfold Machine.getChannelBody
  split <;> exact respond ..

theorem openLeaseBody : s.SamePages (openLeaseBody f s) := by
  unfold Machine.openLeaseBody
  split
  · split
    · exact respond ..
    · exact (openLease s f.aux).answer _ _ _
  · split
    · exact (renewLease s).answer _ _ _
    · exact respond ..

theorem stageKnotsChecked : s.SamePages (stageKnotsChecked f s) := by
  unfold Machine.stageKnotsChecked
  split
  · split
    · exact respond ..
    · split
      · exact respond ..
      · exact (stage s (Nat.min_le_right _ _)).answer _ _ _
  · exact respond ..

theorem clearStagingChecked : s.SamePages (clearStagingChecked f s) := by
  unfold Machine.clearStagingChecked
  split
  · exact respond ..
  · exact (stage s (Nat.zero_le 15)).answer _ _ _

theorem readStagingChecked : s.SamePages (readStagingChecked f s) := by
  unfold Machine.readStagingChecked
  split
  · dsimp only
    split <;> exact respond ..
  · exact respond ..

theorem getCurveBody : s.SamePages (getCurveBody f s) := by
  unfold Machine.getCurveBody
  split <;> exact respond ..

theorem prepareBindBody : s.SamePages (prepareBindBody f s) := by
  unfold Machine.prepareBindBody
  split
  · split
    · exact respond ..
    · split
      · exact respond ..
      · split
        · exact respond ..
        · dsimp only
          generalize hu : s.reserve (pairsOf _) = u
          have h : s.SamePages u := hu ▸ reserve s _
          refine answer ?_ _ _ _
          exact h.trans (of_eq rfl rfl rfl)
  · exact respond ..

theorem cancelBindBody : s.SamePages (cancelBindBody f s) := by
  unfold Machine.cancelBindBody
  split
  · exact respond ..
  · split
    · exact (cancelPending s _).answer _ _ _
    · exact respond ..

theorem cancelBindBroadcastBody : s.SamePages (cancelBindBroadcastBody f s) := by
  unfold Machine.cancelBindBroadcastBody
  split
  · split
    · exact (cancelPending s _).trans (leave _)
    · exact applyMiss s
  · exact applyMiss s

theorem ackNoticesBody : s.SamePages (ackNoticesBody f s) := by
  unfold Machine.ackNoticesBody
  split
  · split
    · exact respond ..
    · dsimp only
      refine answer ?_ _ _ _
      exact of_eq rfl rfl rfl
  · exact respond ..

theorem resumeNoticesBody : s.SamePages (resumeNoticesBody f s) := by
  unfold Machine.resumeNoticesBody
  refine answer ?_ _ _ _
  exact of_eq rfl rfl rfl

theorem readCountersBody : s.SamePages (readCountersBody f s) := by
  unfold Machine.readCountersBody
  split
  · split
    · exact respond ..
    · split
      · exact respond ..
      · exact answer (t := s.clearScope _ _) (of_eq (by simp) (by simp) (by simp)) _ _ _
  · exact respond ..

/-- A source gives its frame (09 R173). -/
theorem takeFrom {s t : State} {x : Source} {f : Frame} (h : s.takeFrom x = some (f, t)) : s.SamePages t ∧ t.mgmt.holders = s.mgmt.holders ∧ t.loader = s.loader := by
  cases x with
  | cq =>
    simp only [State.takeFrom] at h
    split at h <;> cases h
    exact ⟨of_eq rfl rfl rfl, rfl, rfl⟩
  | fq =>
    simp only [State.takeFrom] at h
    split at h <;> cases h
    exact ⟨of_eq rfl rfl rfl, rfl, rfl⟩
  | rq =>
    simp only [State.takeFrom] at h
    split at h <;> cases h
    exact ⟨of_engine rfl rfl (.of_eq rfl rfl rfl) rfl, rfl, rfl⟩
  | nu =>
    obtain ⟨⟨g, u⟩, -, e⟩ := Option.map_eq_some_iff.1 h
    cases e
    exact ⟨of_eq rfl rfl rfl, rfl, rfl⟩

/-- A unit starts on a slot: the conditioning engine's own (04 R70). -/
theorem startConversions : s.SamePages s.startConversions := of_eq (by simp) (by simp) (by simp)

theorem raise (k : NoticeKind) (b : Byte) (l : List Byte) : s.SamePages (s.raise k b l) := of_eq (by simp) (by simp) (by simp)

end State.SamePages

/-! ### The events that remain -/

/-- The pairs name curves that are not EMPTY: as they were validated, or as the pending set has them reserved (06 R112, R117). -/
def State.NamesCurves (s : State) (l : List Pair) : Prop :=
  (∀ p ∈ l, ∀ c, p.curve = some c → (s.curve c).state ≠ .empty) ∨ ∃ b, s.bind = some b ∧ b.pairs = l

theorem State.namesCurves_of_validate {s : State} {l : List RawPair} (h : s.validate [] l = none) : s.NamesCurves (l.map RawPair.pair) := by
  refine .inl fun p hp c hc => ?_
  obtain ⟨q, hq, rfl⟩ := List.mem_map.1 hp
  obtain ⟨-, seen, hf⟩ := (State.validate_eq_none h).2 q hq
  obtain ⟨-, -, hstate, -⟩ := State.pairFault_eq_none hf
  exact (hstate c hc).1

/-- A condition `P` of the part that every event of the store keeps while no access period passes: what moves no page, and each of those that do, with what their
checks have established. `I` is what an event at the queues or the ports leaves as it was, and what a bind and the placing of a held response rest on. -/
structure KeptByStoreEvents (I P : State → Prop) : Prop where
  side : ∀ s t, s.Quiet t → t.mgmt.holders = s.mgmt.holders → t.loader = s.loader → I s → I t
  same : ∀ s t, s.SamePages t → P s → P t
  placePosted : ∀ s, I s → P s → P s.placePosted
  applyChanges : ∀ s l, I s → s.NamesCurves l → P s → P (s.applyChanges (s.changes l))
  reclaim : ∀ s c, P s → P (s.reclaim c)
  endLease : ∀ s, s.checkingOrder = false → P s → P s.endLease
  startWrite : ∀ s f p, s.loader.state = .idle → s.store.loose.length < Config.looseSize → p ∈ s.store.free → P s → P (s.startWrite f p)
  startReadBack : ∀ s f r, s.mgmt.inHand = some f → s.CheckFits r → P s → P (s.startReadBack r)
  resetSoft : ∀ s f, P s → P (s.resetSoft f)

/-- A command in hand has no order check in progress (07 R134). -/
theorem State.checkingOrder_of_inHand {s : State} {f : Frame} (h : s.mgmt.inHand = some f) : s.checkingOrder = false := by
  obtain ⟨-, hr, -⟩ := Management.inHand_eq_some h
  unfold State.checkingOrder
  rw [hr]
  rfl

namespace KeptByStoreEvents
variable {I P : State → Prop} (K : KeptByStoreEvents I P) {s : State} (h : P s)
include K h

/-! ### Pins and releases (03 R50 to R54) -/

/-- A curve given up is EMPTY, or RETIRING with its pages. -/
theorem deleteCurve {c : CurveId} (hb : (s.curve c).state = .built) : P (s.deleteCurve c) := by
  unfold State.deleteCurve
  split
  · exact K.reclaim _ _ h
  · exact K.same _ _ (.modCurve ⟨by simp [hb], rfl, rfl⟩) h

theorem releaseAll (l : List CurveId) : P (s.releaseAll l) := by
  unfold State.releaseAll
  induction l generalizing s with
  | nil => exact h
  | cons c l ih =>
    rw [List.foldl_cons]
    refine ih ?_
    rw [State.releaseRequest_eq]
    split
    next hb => exact K.deleteCurve h hb.1
    next => exact h

theorem unpin (c : CurveId) : P (s.unpin c) := by
  have hpins : P (s.modCurve c fun d => { d with pins := d.pins - 1 }) := K.same _ _ (.modCurve ⟨Iff.rfl, rfl, rfl⟩) h
  unfold State.unpin
  dsimp only
  split
  · exact K.reclaim _ _ hpins
  · exact hpins

theorem releaseSlot (i : SlotId) : P (s.releaseSlot i) := by
  unfold State.releaseSlot
  split
  next w _ =>
    have hfree : P { s with conditioner := s.conditioner.free i } := K.same s _ (.of_eq rfl rfl rfl) h
    refine K.same _ _ (.settleFence _) ?_
    refine K.same (({ s with conditioner := s.conditioner.free i } : State).unpin w.curve) _ (.of_eq rfl rfl rfl) ?_
    exact K.unpin hfree w.curve
  next => exact h

theorem enterCq : P s.enterCq := by
  unfold State.enterCq
  split
  · split
    · refine K.releaseSlot ?_ _
      exact K.same s _ (.of_eq rfl rfl rfl) h
    · exact h
  · exact h

/-- A conversion ends: its slot is released or READY, its results are the context's, and units start (04 R76, R77). -/
theorem endConversion (u : UnitId) : P (s.endConversion u) := by
  unfold State.endConversion
  split
  · split
    next b w _ =>
      refine K.same _ _ (.startConversions _) ?_
      have hidle : P ((s.commit w b.work).idleUnit u) := K.same s _ (.of_eq (by simp) (by simp) (by simp)) h
      unfold State.settleSlot
      split
      · exact K.releaseSlot hidle _
      · have hready := K.same _ (((s.commit w b.work).idleUnit u).makeReady b.slot w b.work.outputs) (.of_eq (by simp) (by simp) (by simp)) hidle
        dsimp only
        split
        · exact K.enterCq hready
        · exact hready
    next => exact h
  · exact h

/-! ### Binding (06 R113, R121) -/

theorem bindNow (hI : I s) {l : List Pair} (hl : s.NamesCurves l) : P (s.bindNow l) := K.releaseAll (K.applyChanges s l hI hl h) _

theorem applyPending (hI : I s) {b : PendingBind} (hb : s.bind = some b) : P (s.applyPending b) := by
  have hchanged := K.applyChanges s b.pairs hI (.inr ⟨b, hb, rfl⟩) h
  have hcancelled := K.same _ _ (.cancelPending _ b) hchanged
  exact K.releaseAll hcancelled _

/-! ### The common path of a command -/

theorem respond (f : Frame) (st : Status) (p : List Byte) : P (s.respond f st p) := K.same _ _ (.respond s f st p) h

/-- A command row keeps the condition when its body does, on a part whose engine holds the command. -/
theorem command (hI : I s) (accepts : Frame → Bool) (ok : List Byte → Bool) {body : Frame → State → State}
    (hbody : ∀ f t, t.mgmt.inHand = some f → accepts f = true → ok f.payload = true → I t → P t → P (body f t)) :
    NextIs (s.command accepts ok body) P := by
  unfold State.command
  split
  next f hf =>
    refine nextIs_ite (fun hacc => ?_) fun _ => h
    have hbegun : P (s.begun f) := K.same _ _ (.begun s f) h
    have hside : I (s.begun f) := K.side _ _ (.begun s f) rfl rfl hI
    have hnew : P ((s.begun f).lengthCheck f ok (body f)) := by
      unfold State.lengthCheck
      split
      next hl => exact hbody f _ hf (Bool.and_eq_true_iff.1 hacc).2 hl hside hbegun
      next => exact K.respond hbegun _ _ _
    unfold State.cacheCheck
    split
    · split
      · exact K.same s _ (.trans (t := s.countNode _) (.of_eq rfl rfl rfl) (.offer _ _)) h
      · exact hnew
    · split
      · exact K.same s _ (.trans (t := s.countNode _) (.of_eq rfl rfl rfl) (.leave _)) h
      · exact hnew
    · exact hnew
  next => exact h

theorem leaseCheck (f : Frame) (renews : Bool) {go : State → State} (hgo : ∀ t, t.mgmt = s.mgmt → P t → P (go t)) :
    P (s.leaseCheck f renews go) := by
  obtain ⟨st, p, e⟩ | e | e := s.leaseCheck_cases f renews go
  · exact e ▸ K.respond h f st p
  · exact e ▸ hgo s.renewLease rfl (K.same _ _ (.renewLease s) h)
  · exact e ▸ hgo s rfl h

theorem broadcastCopy (code : Byte) {body : Frame → State → State} (hbody : ∀ f, P (body f s)) : NextIs (s.broadcastCopy code body) P := by
  obtain ⟨t, e, rfl | rfl | ⟨f, -, -, -, -, rfl⟩⟩ := s.broadcastCopy_cases code body <;> rw [e]
  · exact h
  · exact K.same _ _ (.applyMiss s) h
  · exact hbody f

/-! ### The bodies that move pages -/

theorem resetNodeBody {f : Frame} (hp : f.payload ≠ [levelFull]) : P (resetNodeBody f s) := by
  unfold Machine.resetNodeBody
  rw [if_neg hp]
  split
  · exact K.resetSoft _ _ h
  · exact K.respond h ..

theorem closeLeaseChecked {f : Frame} (hf : s.mgmt.inHand = some f) : P (closeLeaseChecked f s) := by
  unfold Machine.closeLeaseChecked
  split
  · exact K.respond h ..
  · exact K.respond (K.endLease s (State.checkingOrder_of_inHand hf) h) ..

theorem writePageChecked (f : Frame) : P (writePageChecked f s) := by
  unfold Machine.writePageChecked
  split
  · exact K.respond h ..
  next hidle =>
    split
    · exact K.respond h ..
    next hroom =>
      split
      next p hp =>
        refine K.startWrite s f p (not_not.1 hidle) (Nat.not_le.1 hroom) ?_ h
        unfold CurveStore.pageToWrite at hp
        split at hp
        · exact List.mem_of_mem_head? hp
        · simpa using (Option.filter_eq_some_iff.1 hp).2
      next => split <;> exact K.respond h ..

theorem defineCurveChecked {f : Frame} (hf : s.mgmt.inHand = some f) (hl : defineCurveLength f.payload = true) : P (defineCurveChecked f s) := by
  unfold Machine.defineCurveChecked
  split
  · exact K.respond h ..
  next hd => exact K.startReadBack s f _ hf (State.checkFits_of_checkDefinition hd hl _) h

theorem readKnotsBody {f : Frame} (hf : s.mgmt.inHand = some f) : P (readKnotsBody f s) := by
  unfold Machine.readKnotsBody
  split
  · split
    · exact K.respond h ..
    · dsimp only
      split
      · exact K.respond h ..
      · split
        · exact K.respond h ..
        · split
          · exact K.respond h ..
          · exact K.startReadBack s f _ hf (fun _ hr => by cases hr) h
  · exact K.respond h ..

theorem deleteCurveBody (f : Frame) : P (deleteCurveBody f s) := by
  unfold Machine.deleteCurveBody
  split
  · exact K.respond h ..
  · dsimp only
    split
    · exact K.respond h ..
    · exact K.respond h ..
    · exact K.respond h ..
    next hb =>
      split
      · exact K.respond h ..
      · exact K.respond (K.deleteCurve h hb) ..

theorem bindChannelsBody (hI : I s) (f : Frame) : P (bindChannelsBody f s) := by
  unfold Machine.bindChannelsBody
  split
  · exact K.respond h ..
  next hv =>
    dsimp only
    split
    · exact K.respond h ..
    · exact K.respond (K.bindNow h hI (State.namesCurves_of_validate hv)) ..

theorem applyBindBody (hI : I s) (f : Frame) : P (applyBindBody f s) := by
  unfold Machine.applyBindBody
  split
  · exact K.respond h ..
  next b hb =>
    split
    · exact K.respond (K.applyPending h hI hb) ..
    · exact K.respond h ..

theorem applyBindBroadcastBody (hI : I s) (f : Frame) : P (applyBindBroadcastBody f s) := by
  unfold Machine.applyBindBroadcastBody
  split
  next b hb =>
    split
    · exact K.same _ _ (.leave _) (K.applyPending h hI hb)
    · exact K.same _ _ (.applyMiss s) h
  · exact K.same _ _ (.applyMiss s) h

/-! ### Ports, lookup and takings -/

theorem dPortTake (hI : I s) {use : Frame → State → State}
    (huse : ∀ (f : Frame) (t : State), t.Quiet (use f t) ∧ (use f t).store = t.store ∧ (use f t).loader = t.loader ∧ (use f t).mgmt = t.mgmt) :
    P (s.dPortTake use) := by
  unfold State.dPortTake
  split
  · exact h
  next x _ =>
    split
    · exact h
    next f taken ht =>
      obtain ⟨hq, hs, hl, hm⟩ := huse f taken
      obtain ⟨hsame, hholders, hloader⟩ := State.SamePages.takeFrom ht
      have hused : P ((use f taken).pointPast x) := K.same s _ ((hsame.trans (.of_eq hs hl hm)).trans (.of_eq rfl rfl rfl)) h
      have hside : I ((use f taken).pointPast x) :=
        K.side s _ (((State.takeFrom_quiet ht).trans hq).trans (.pointPast _ x)) ((congrArg Management.holders hm).trans hholders) (hl.trans hloader) hI
      unfold State.fillPlace
      split
      · exact K.enterCq hused
      · split
        · exact K.same _ _ (.of_eq (by simp) (by simp) (by simp)) hused
        · exact hused
      · exact K.placePosted _ hside hused
      · exact hused

theorem lookup : Follows P .lookup (execLookup s) := by
  unfold execLookup
  split
  next f rest k i hr =>
    have htaken : P { s with uPort := { s.uPort with buffer := rest } } := K.same s _ (.of_eq rfl rfl rfl) h
    dsimp only
    split
    · exact K.same _ _ (.of_eq (by simp) (by simp) (by simp)) htaken
    · split
      next c hc =>
        exact K.same _ _ (((State.SamePages.of_eq (t := State.countGap _ _ _ _) (by simp) (by simp) (by simp)).trans (.occupy _ _ _ _ _)).trans
          (.startConversions _)) htaken
      next => exact ⟨rfl, rfl⟩
  next => exact h

theorem carrierLoss (p : Port) : NextIs (execCarrierLoss p s) P := by
  unfold execCarrierLoss
  split
  · exact K.same _ _ (.of_eq (by simp) (by simp) (by simp)) h
  · exact K.same _ _ (.of_eq (by simp) (by simp) (by simp)) h
  · exact h

theorem upQueueTake : NextIs (execUpQueueTake s) P := by
  unfold execUpQueueTake
  split
  · exact nextIs_ite (fun _ => K.same s _ (.of_eq rfl rfl rfl) h) fun _ => h
  · exact h

theorem upQueueDiscard : NextIs (execUpQueueDiscard s) P := by
  unfold execUpQueueDiscard
  split
  · exact nextIs_ite (fun _ => h) fun _ => K.same s _ (.of_eq rfl rfl rfl) h
  · exact h

end KeptByStoreEvents

/-! ### Every command that lets no access period pass -/

/-- The rows in which access periods pass, or may pass within a tick (log 7, 9). -/
def takesPeriods : Instr → Bool
  | .conversionEnd _ | .pageWriteCompletion | .defineCurveCheckDone | .readKnotsDone | .leaseExpiry | .noticeRetryExpiry | .millisecondTick => true
  | _ => false

/-- Every command that is no full reset and lets no access period pass keeps what every event of the store keeps. -/
theorem KeptByStoreEvents.exec {I P : State → Prop} (K : KeptByStoreEvents I P) {s : State} (hI : I s) (h : P s) {c : Instr} (hc : takesPeriods c = false)
    (hrelease : c ≠ .resetnRelease) (hfull : c ≠ .resetNodeFull) : Follows P c (exec c s) := by
  have hrow (accepts : Frame → Bool) (ok : List Byte → Bool) {body : Frame → State → State} (hbody : ∀ f t, t.SamePages (body f t)) :
      Follows P c (s.command accepts ok body) :=
    follows_of_nextIs (K.command h hI accepts ok fun f t _ _ _ _ ht => K.same _ _ (hbody f t) ht)
  have hleased (accepts : Frame → Bool) (ok : List Byte → Bool) (renews : Bool) {go : Frame → State → State} (hgo : ∀ f t, t.SamePages (go f t)) :
      Follows P c (s.command accepts ok fun f t => t.leaseCheck f renews (go f)) :=
    follows_of_nextIs (K.command h hI accepts ok fun f _ _ _ _ _ ht => K.leaseCheck ht f renews fun u _ hu => K.same _ _ (hgo f u) hu)
  cases c with
  | resetnRelease => exact absurd rfl hrelease
  | resetNodeFull => exact absurd rfl hfull
  | conversionEnd | pageWriteCompletion | defineCurveCheckDone | readKnotsDone | leaseExpiry | noticeRetryExpiry | millisecondTick => cases hc
  | carrierDetect p =>
    exact follows_of_nextIs (nextIs_ite (fun _ => K.same _ _ (.of_eq (by simp) (by simp) (by simp)) h) fun _ => h)
  | alignmentAchieved p =>
    exact follows_of_nextIs (nextIs_ite (fun _ => K.same _ _ (.of_eq (by simp) (by simp) (by simp)) h) fun _ => h)
  | carrierLoss p => exact follows_of_nextIs (K.carrierLoss h p)
  | frameArrival p run => exact follows_of_nextIs (nextIs_ite (fun _ => K.same _ _ (.of_eq (by simp) (by simp) (by simp)) h) fun _ => h)
  | frameSent p => exact K.same _ _ (.of_eq (by simp) (by simp) (by simp)) h
  | dataClassifierTake => exact K.same _ _ (.of_eq (by simp) (by simp) (by simp)) h
  | lookup => exact K.lookup h
  | cqEntry => exact K.enterCq h
  | fenceApply => exact K.same _ _ (.settleFence s) h
  | commandClassifierTake => exact K.same _ _ (.classifyCommand s) h
  | unknownCommand => exact hrow _ _ fun f t => .respond t f _ _
  | ping => exact hrow _ _ fun f t => .respond t f _ _
  | getStatus => exact hrow _ _ fun f t => .getStatusBody t f
  | setParam => exact hrow _ _ fun f t => .setParamBody t f
  | mapChannel => exact hrow _ _ fun f t => .mapChannelBody t f
  | setChannel => exact hrow _ _ fun f t => .setChannelBody t f
  | getChannel => exact hrow _ _ fun f t => .getChannelBody t f
  | openLease => exact hrow _ _ fun f t => .openLeaseBody t f
  | stageKnots => exact hleased _ _ _ fun f t => .stageKnotsChecked t f
  | clearStaging => exact hleased _ _ _ fun f t => .clearStagingChecked t f
  | readStaging => exact hleased _ _ _ fun f t => .readStagingChecked t f
  | getCurve => exact hrow _ _ fun f t => .getCurveBody t f
  | prepareBind => exact hrow _ _ fun f t => .prepareBindBody t f
  | cancelBind => exact hrow _ _ fun f t => .cancelBindBody t f
  | ackNotices => exact hrow _ _ fun f t => .ackNoticesBody t f
  | resumeNotices => exact hrow _ _ fun f t => .resumeNoticesBody t f
  | readCounters => exact hrow _ _ fun f t => .readCountersBody t f
  | cancelBindBroadcast => exact follows_of_nextIs (K.broadcastCopy h _ fun f => K.same _ _ (.cancelBindBroadcastBody s f) h)
  | resetNodeSoft =>
    refine follows_of_nextIs (K.command h hI _ _ fun f t _ ha _ _ ht => K.resetNodeBody ht ?_)
    simp only [Frame.resetsBut, Bool.and_eq_true, bne_iff_ne] at ha
    exact ha.2
  | writePage => exact follows_of_nextIs (K.command h hI _ _ fun f _ _ _ _ _ ht => K.leaseCheck ht f _ fun _ _ hu => K.writePageChecked hu f)
  | closeLease =>
    exact follows_of_nextIs (K.command h hI _ _ fun f t hf _ _ _ ht => K.leaseCheck ht f _ fun u hm hu => K.closeLeaseChecked hu (hm ▸ hf))
  | defineCurve =>
    exact follows_of_nextIs (K.command h hI _ _ fun f t hf _ hl _ ht => K.leaseCheck ht f _ fun u hm hu => K.defineCurveChecked hu (hm ▸ hf) hl)
  | readKnots => exact follows_of_nextIs (K.command h hI _ _ fun _ _ hf _ _ _ ht => K.readKnotsBody ht hf)
  | deleteCurve => exact follows_of_nextIs (K.command h hI _ _ fun f _ _ _ _ _ ht => K.deleteCurveBody ht f)
  | bindChannels => exact follows_of_nextIs (K.command h hI _ _ fun f _ _ _ _ hJ ht => K.bindChannelsBody ht hJ f)
  | applyBind => exact follows_of_nextIs (K.command h hI _ _ fun f _ _ _ _ hJ ht => K.applyBindBody ht hJ f)
  | applyBindBroadcast => exact follows_of_nextIs (K.broadcastCopy h _ fun f => K.applyBindBroadcastBody h hI f)
  | dPortTaking =>
    exact follows_of_nextIs (nextIs_ite (fun _ => K.dPortTake h hI fun _ _ => ⟨by constructor <;> simp [State.sendDown], rfl, rfl, rfl⟩) fun _ => h)
  | dPortDiscardTaking =>
    exact follows_of_nextIs (nextIs_ite (fun _ => h) fun _ => K.dPortTake h hI fun _ _ => ⟨by constructor <;> simp [State.discardDown], rfl, rfl, rfl⟩)
  | upQueueTake => exact follows_of_nextIs (K.upQueueTake h)
  | upQueueDiscard => exact follows_of_nextIs (K.upQueueDiscard h)
  | postedResponsePlaced => exact K.placePosted s hI h

end Sys2Proof.Machine
end

section
/-! No command but a full reset writes a page, the page of the write in flight apart: O4. -/

namespace Sys2Proof.Machine

/-! ### The page of the write in flight through an access period -/

theorem State.mem_pageInFlight {s : State} {p : PageId} :
    p ∈ s.pageInFlight ↔ s.loader.state = .writing ∧ ∃ r, s.loader.write = some r ∧ r.page = p := by
  unfold State.pageInFlight
  split
  next hs => simp [hs]
  next hs => simp [hs]

theorem State.claim_mem_pageInFlight {s : State} {q : WriteRecord × Fin 16} (h : q ∈ s.pageWriteClaim) : q.1.page ∈ s.pageInFlight := by
  obtain ⟨hs, hw, -⟩ := State.pageWriteClaim_eq_some (r := q.1) (i := q.2).1 h
  exact State.mem_pageInFlight.2 ⟨hs, _, hw, rfl⟩

/-- A grant writes the next slot of the same page. -/
theorem State.grantPeriod_pageInFlight (s : State) : s.grantPeriod.pageInFlight = s.pageInFlight := by
  obtain e | ⟨r, hw, -, e⟩ := s.grantPeriod_loader
  · exact State.pageInFlight_congr (by rw [e]) (by rw [e])
  · unfold State.pageInFlight
    rw [e, hw]
    rfl

/-- A page write goes on, or is no longer in flight. -/
theorem State.completeWrite_pageInFlight (s : State) : s.completeWrite = s ∨ s.completeWrite.pageInFlight = [] :=
  s.completeWrite_cases.imp_right fun h => State.pageInFlight_of_not_writing h.2

/-! ### The rows in which access periods pass -/

/-- A condition of the part that each part of an access period keeps: the ends due at its start, and its grant. -/
structure KeptByPeriods (P : State → Prop) : Prop where
  conversion : ∀ s u, P s → P (s.endConversion u)
  readBack : ∀ s, P s → P s.finishReadBack
  write : ∀ s, P s → P s.completeWrite
  grant : ∀ s, P s → P s.grantPeriod

namespace KeptByPeriods
variable {P : State → Prop} (K : KeptByPeriods P) {s : State} (h : P s)
include K h

theorem accessPeriod : P s.accessPeriod := State.accessPeriod_keeps K.conversion K.readBack K.write K.grant h

theorem passUntil (done : State → Bool) (n : Nat) : P (s.passUntil done n) := State.passUntil_keeps (fun _ ht => K.accessPeriod ht) done n h

theorem completeDefine : P s.completeDefine := by
  unfold State.completeDefine
  split
  · exact K.readBack _ (K.passUntil h _ _)
  · exact h

/-- What access periods keep, and this state's tick, every row in which access periods pass keeps. -/
theorem exec (htick : P s.tick) {c : Instr} (hc : takesPeriods c = true) : NextIs (exec c s) P := by
  cases c with
  | conversionEnd unit =>
    show NextIs (execConversionEnd unit s) P
    unfold execConversionEnd
    split
    · exact nextIs_ite (fun _ => h) fun _ => K.conversion _ _ (K.passUntil h _ _)
    · exact h
  | pageWriteCompletion => exact nextIs_ite (fun _ => K.write _ (K.passUntil h _ _)) fun _ => h
  | defineCurveCheckDone => exact K.completeDefine h
  | readKnotsDone => exact nextIs_ite (fun _ => K.readBack _ (K.passUntil h _ _)) fun _ => h
  | leaseExpiry => exact nextIs_ite (fun _ => htick) fun _ => h
  | noticeRetryExpiry => exact nextIs_ite (fun _ => htick) fun _ => h
  | millisecondTick => exact htick
  | _ => cases hc

end KeptByPeriods

/-! ### A page that is not being written -/

/-- The page holds these knots, and is not the page of the write in flight. -/
def State.PageRests (p : PageId) (v : Vector Knot 16) (s : State) : Prop := s.store.pages[p] = v ∧ p ∉ s.pageInFlight

namespace State.PageRests
variable {p : PageId} {v : Vector Knot 16} {s t : State} (h : s.PageRests p v)
include h

theorem same (ha : t.store.pages = s.store.pages) (hl : t.pageInFlight = s.pageInFlight) : t.PageRests p v := by
  unfold State.PageRests
  rw [ha, hl]
  exact h

/-- A page write that ends writes nothing more. -/
theorem completeWrite : s.completeWrite.PageRests p v := by
  obtain e | e := s.completeWrite_pageInFlight
  · rw [e]
    exact h
  · refine ⟨?_, by simp [e]⟩
    rw [CurveStore.pages_of_accessed s.completeWrite_accessed]
    exact h.1

/-- A grant writes the page of the write in flight, which this one is not and does not become. -/
theorem grantPeriod : s.grantPeriod.PageRests p v := by
  obtain ⟨hv, hp⟩ := h
  have hother : ∀ q ∈ s.pageWriteClaim, q.1.page ≠ p := by
    rintro q hq rfl
    exact hp (State.claim_mem_pageInFlight hq)
  exact ⟨(s.grantPeriod_page hother).trans hv, by rwa [State.grantPeriod_pageInFlight]⟩

theorem endConversion (u : UnitId) : (s.endConversion u).PageRests p v :=
  h.same (CurveStore.pages_of_accessed (s.endConversion_accessed u)) (State.pageInFlight_congr (by simp) (by simp))

theorem finishReadBack : s.finishReadBack.PageRests p v :=
  h.same (CurveStore.pages_of_accessed s.finishReadBack_accessed) (State.pageInFlight_congr (by simp) (by simp))

theorem countLease : s.countLease.PageRests p v := by
  unfold State.countLease State.expireLease
  split
  · split
    · exact h.same (by simp [State.endLease, CurveStore.returnLoose]) (State.pageInFlight_congr (by simp) (by simp))
    · exact h
  · exact h.same rfl rfl

end State.PageRests

theorem State.PageRests.keptByPeriods (p : PageId) (v : Vector Knot 16) : KeptByPeriods (State.PageRests p v) :=
  ⟨fun _ u h => h.endConversion u, fun _ h => h.finishReadBack, fun _ h => h.completeWrite, fun _ h => h.grantPeriod⟩

theorem State.PageRests.tick {p : PageId} {v : Vector Knot 16} {s : State} (h : s.PageRests p v) : s.tick.PageRests p v := by
  have hlease : s.tickLease.PageRests p v := by
    unfold State.tickLease
    split
    · exact ((State.PageRests.keptByPeriods p v).completeDefine h).countLease
    · exact h.countLease
  exact hlease.same (t := s.tickLease.tickRetry) (by simp) (State.pageInFlight_congr (by simp) (by simp))

/-- Every event of the store leaves page array and arbiter while no access period passes. -/
theorem State.accessed_kept (s : State) : KeptByStoreEvents (fun _ => True) fun t => t.store.accessed = s.store.accessed where
  side _ _ _ _ _ h := h
  same _ _ e h := e.accessed.trans h
  placePosted _ _ h := by simpa using h
  applyChanges _ _ _ _ h := by simpa [State.applyChanges, CurveStore.accessed] using h
  reclaim _ _ h := h
  endLease _ _ h := h
  startWrite _ _ _ _ _ _ h := h
  startReadBack _ _ _ _ _ h := h
  resetSoft _ _ h := h

/-- Settles O4: a row in which access periods pass leaves a page that is not being written, and every other row leaves the page array. -/
theorem onlyThePageBeingWrittenChanges : Obligations.OnlyThePageBeingWrittenChanges := by
  intro c s t hrelease hfull hexec p hp i
  suffices hpage : t.store.pages[p] = s.store.pages[p] by rw [hpage]
  cases hc : takesPeriods c with
  | true =>
    have hrests : s.PageRests p s.store.pages[p] := by
      refine ⟨rfl, fun hmem => ?_⟩
      obtain ⟨hs, r, hr, e⟩ := State.mem_pageInFlight.1 hmem
      exact hp hs r hr e
    have hnext := (State.PageRests.keptByPeriods p s.store.pages[p]).exec hrests hrests.tick hc
    rw [hexec] at hnext
    exact hnext.1
  | false =>
    have hfollows := s.accessed_kept.exec (s := s) trivial rfl hc hrelease hfull
    rw [hexec] at hfollows
    rw [CurveStore.pages_of_accessed hfollows]

end Sys2Proof.Machine
end

section
/-! What chapters 03 and 05 have of the pages, taken apart: where each page is, what an order check and the curves' knots rest on: O57. -/

namespace Sys2Proof.Machine

/-! ### How often a page is held (03 R43) -/

/-- A page is held in the free list, in the loose set, and by descriptors. -/
theorem State.held_count (s : State) (p : PageId) :
    s.store.held.count p = s.store.free.count p + (s.store.loose.map LoosePage.page).count p + ∑ c, (s.curve c).pages.count p := by
  unfold CurveStore.held
  rw [List.count_append, List.count_append, s.curves_toList, List.flatMap_map, List.count_flatMap, ← Fin.sum_univ_def]
  rfl

/-- Pages held as often as before are each in one place as before. -/
theorem CurveStore.Partitioned.of_count {t u : CurveStore} (h : t.Partitioned) (hc : ∀ p, u.held.count p = t.held.count p) : u.Partitioned := by
  have hperm : u.held.Perm t.held := List.perm_iff_count.2 hc
  exact ⟨hperm.nodup_iff.2 h.1, hperm.length_eq.trans h.2⟩

/-- A descriptor's page list changed. -/
theorem sum_curves_update {f g : CurveId → Nat} (c : CurveId) (h : ∀ d, d ≠ c → g d = f d) : (∑ d, g d) + f c = (∑ d, f d) + g c := by
  have hrest : ∑ d ∈ Finset.univ.erase c, g d = ∑ d ∈ Finset.univ.erase c, f d :=
    Finset.sum_congr rfl fun d hd => h d (Finset.ne_of_mem_erase hd)
  have hf := Finset.add_sum_erase Finset.univ f (Finset.mem_univ c)
  have hg := Finset.add_sum_erase Finset.univ g (Finset.mem_univ c)
  omega

/-- A list and what is taken out of it count as the list. -/
theorem count_filter_add {α : Type} (l : List α) (q : α → Bool) (f : α → PageId) (p : PageId) :
    ((l.filter q).map f).count p + ((l.filter fun x => !q x).map f).count p = (l.map f).count p := by
  rw [← List.count_append, ← List.map_append]
  exact ((List.filter_append_perm q l).map f).count_eq p

/-! ### Pages are in one place -/

section
variable {s : State} (h : s.store.Partitioned)
include h

theorem CurveStore.Partitioned.count_le (p : PageId) :
    s.store.free.count p + (s.store.loose.map LoosePage.page).count p + ∑ c, (s.curve c).pages.count p ≤ 1 := by
  rw [← s.held_count]
  exact List.nodup_iff_count_le_one.1 h.1 p

/-- A loose page is no descriptor's. -/
theorem CurveStore.Partitioned.loose_alone {p : PageId} (hp : p ∈ s.store.loose.map LoosePage.page) (c : CurveId) : p ∉ (s.curve c).pages := fun hc => by
  have hle := h.count_le p
  have hloose := List.count_pos_iff.2 hp
  have hcurve := List.count_pos_iff.2 hc
  have hsum := Finset.single_le_sum (f := fun c => (s.curve c).pages.count p) (fun _ _ => Nat.zero_le _) (Finset.mem_univ c)
  omega

/-- A page is loose with one mark. -/
theorem CurveStore.Partitioned.loose_unique {a b : LoosePage} (ha : a ∈ s.store.loose) (hb : b ∈ s.store.loose) (hp : a.page = b.page) : a = b := by
  have hnodup : (s.store.loose.map LoosePage.page).Nodup := by
    refine List.nodup_iff_count_le_one.2 fun p => ?_
    have := h.count_le p
    omega
  exact List.inj_on_of_nodup_map hnodup ha hb hp

end

/-! ### The conditions, and what each of them needs of an event -/

/-- What chapters 03 and 05 have of the pages, field by field. -/
structure State.PagesHold (s : State) : Prop where
  partitioned : s.store.Partitioned
  empty : ∀ c, (s.curve c).state = .empty → (s.curve c).pages = [] ∧ (s.curve c).knots = 0
  marked : (s.store.loose.filter LoosePage.writing).map LoosePage.page = s.pageInFlight
  check : s.OrderCheckKept
  knots : s.KnotsKept
  arbiter : s.store.arbiter.Kept
  bounded : s.LeaseBounded
  room : s.store.loose.length ≤ Config.looseSize
  closed : s.loader.lease = none → ∀ p ∈ s.store.loose, p.writing = true

theorem State.pagesKept_iff (s : State) : s.PagesKept ↔ s.PagesHold := by
  constructor
  · rintro ⟨hp, he, hm, hc, hk, ha, ht, hl, hg, hr, hn⟩
    exact ⟨hp, he, hm, hc, hk, ha, ⟨ht, hl, hg⟩, hr, hn⟩
  · rintro ⟨hp, he, hm, hc, hk, ha, ⟨ht, hl, hg⟩, hr, hn⟩
    exact ⟨hp, he, hm, hc, hk, ha, ht, hl, hg, hr, hn⟩

/-- Every curve that is not EMPTY was so before, with its knots in the same pages, and those pages hold what they held. -/
theorem State.KnotsKept.keep {s t : State} (h : s.KnotsKept)
    (hc : ∀ c, (t.curve c).state ≠ .empty → (s.curve c).state ≠ .empty ∧ (t.curve c).knots = (s.curve c).knots ∧ (t.curve c).pages = (s.curve c).pages)
    (hp : ∀ c, ∀ p ∈ (s.curve c).pages, t.store.pages[p] = s.store.pages[p]) : t.KnotsKept := by
  intro c he
  obtain ⟨hs, hk, hpages⟩ := hc c he
  obtain ⟨hfit, hfour, hall⟩ := h c hs
  rw [hk, hpages]
  refine ⟨hfit, hfour, fun i hi => ?_⟩
  rw [CurveStore.knotAt_congr (hp c), CurveStore.knotAt_congr (hp c)]
  exact hall i hi

/-- The record still fits: EMPTY curves stay so, and the unmarked loose pages stay loose and unmarked with what they hold. -/
theorem State.CheckFits.keep {s t : State} {r : ReadBack} (h : s.CheckFits r) (hc : ∀ c, (s.curve c).state = .empty → (t.curve c).state = .empty)
    (hl : ∀ p, ⟨p, false⟩ ∈ s.store.loose → ⟨p, false⟩ ∈ t.store.loose)
    (hp : ∀ p, ⟨p, false⟩ ∈ s.store.loose → t.store.pages[p] = s.store.pages[p]) : t.CheckFits r := by
  intro failed hf
  obtain ⟨hempty, hnodup, hloose, hfit, hfour, hfirst, hcount, hgot, hinc⟩ := h failed hf
  refine ⟨hc _ hempty, hnodup, fun p hm => hl p (hloose p hm), hfit, hfour, hfirst, hcount, fun i k hi => ?_, hinc⟩
  rw [CurveStore.knotAt_congr fun p hm => hp p (hloose p hm)]
  exact hgot i k hi

theorem State.OrderCheckKept.keep {s t : State} (h : s.OrderCheckKept)
    (hr : ∀ r, t.mgmt.readBack = some r → s.mgmt.readBack = some r ∧ t.mgmt.current = s.mgmt.current)
    (hc : ∀ c, (s.curve c).state = .empty → (t.curve c).state = .empty)
    (hl : ∀ p, ⟨p, false⟩ ∈ s.store.loose → ⟨p, false⟩ ∈ t.store.loose)
    (hp : ∀ p, ⟨p, false⟩ ∈ s.store.loose → t.store.pages[p] = s.store.pages[p]) : t.OrderCheckKept := by
  rw [State.orderCheckKept_iff] at h ⊢
  intro r hr'
  obtain ⟨hs, hcur⟩ := hr r hr'
  obtain ⟨hsome, hfits⟩ := h r hs
  exact ⟨hcur ▸ hsome, hfits.keep hc hl hp⟩

theorem State.orderCheckKept_of_none {s : State} (h : s.mgmt.readBack = none) : s.OrderCheckKept := fun r hr => by
  rw [h] at hr
  cases hr

/-! ### Events at descriptors and the free list -/

/-- From `s` to `t` each page is held as often as before, those of the loose set and the knots in pages as before; a descriptor keeps its pages or is EMPTY
without them; the page being written is the same, the bounds of the lease still hold and it has not ended, and no read-back has begun or moved on. -/
structure State.PagesReturn (s t : State) : Prop where
  accessed : t.store.accessed = s.store.accessed
  held : ∀ p, t.store.held.count p = s.store.held.count p
  loose : t.store.loose = s.store.loose
  curve : ∀ c, (s.curve c).SameKnots (t.curve c) ∨ (t.curve c).state = .empty ∧ (t.curve c).pages = [] ∧ (t.curve c).knots = 0
  inFlight : t.pageInFlight = s.pageInFlight
  bounded : s.LeaseBounded → t.LeaseBounded
  ended : t.loader.lease = none → s.loader.lease = none
  readBack : ∀ r, t.mgmt.readBack = some r → s.mgmt.readBack = some r ∧ t.mgmt.current = s.mgmt.current

theorem State.SamePages.pagesReturn {s t : State} (h : s.SamePages t) : s.PagesReturn t where
  accessed := h.accessed
  held p := by
    rw [State.held_count, State.held_count, h.free, h.loose]
    exact congrArg _ (Finset.sum_congr rfl fun c _ => by rw [(h.curve c).pages])
  loose := h.loose
  curve c := .inl (h.curve c)
  inFlight := h.inFlight
  bounded := h.bounded
  ended := h.ended
  readBack := h.readBack

/-- A descriptor reclaimed gives its pages to the free list (03 R50). -/
theorem State.reclaim_pagesReturn (s : State) (c : CurveId) : s.PagesReturn (s.reclaim c) where
  accessed := s.reclaim_accessed c
  held p := by
    have hsum := sum_curves_update (f := fun d => (s.curve d).pages.count p) (g := fun d => ((s.reclaim c).curve d).pages.count p) c
      fun d hd => by simp only [State.curve_reclaim, if_neg hd.symm]
    simp only [State.curve_reclaim, if_pos, Curve.emptied, List.count_nil] at hsum
    rw [State.held_count, State.held_count]
    simp only [State.curve_reclaim, Curve.emptied]
    have hfree : (s.reclaim c).store.free = s.store.free ++ (s.curve c).pages := rfl
    have hloose : (s.reclaim c).store.loose = s.store.loose := rfl
    rw [hfree, hloose, List.count_append]
    omega
  loose := rfl
  curve d := by
    rw [State.curve_reclaim]
    split
    · exact .inr ⟨rfl, rfl, rfl⟩
    · exact .inl (.refl _)
  inFlight := State.pageInFlight_congr (by simp) (by simp)
  bounded h := h.of_eq (by simp) (by simp)
  ended h := by simpa using h
  readBack r hr := ⟨by simpa using hr, by simp⟩

/-- A soft reset leaves lease and staging page (05 R110). -/
theorem Loader.resetSoft_frame (l : Loader) : l.resetSoft.lease = l.lease ∧ l.resetSoft.staging = l.staging := by
  unfold Loader.resetSoft
  split <;> exact ⟨rfl, rfl⟩

/-- A soft reset gives the pages of the RETIRING curves to the free list; the loader keeps lease, staging page and a write in flight (03 R62, 05 R110). -/
theorem State.resetSoft_pagesReturn (s : State) (f : Frame) : s.PagesReturn (s.resetSoft f) where
  accessed := rfl
  held p := by
    rw [State.held_count, State.held_count]
    have hfree : (s.resetSoft f).store.free.count p =
        s.store.free.count p + ∑ c, if (s.curve c).state = .retiring then (s.curve c).pages.count p else 0 := by
      show (s.store.free ++ _).count p = _
      rw [List.count_append, s.retiringPages_eq, List.count_flatMap, ← Fin.sum_univ_def]
      refine congrArg _ (Finset.sum_congr rfl fun c _ => ?_)
      simp only [Function.comp]
      split <;> simp
    have hloose : (s.resetSoft f).store.loose = s.store.loose := rfl
    have hcurves : ∑ c, (s.curve c).pages.count p =
        (∑ c, if (s.curve c).state = .retiring then (s.curve c).pages.count p else 0) + ∑ c, ((s.resetSoft f).curve c).pages.count p := by
      rw [← Finset.sum_add_distrib]
      refine Finset.sum_congr rfl fun c _ => ?_
      rw [State.curve_resetSoft, Curve.resetSoft]
      split <;> simp
    rw [hfree, hloose]
    omega
  loose := rfl
  curve c := by
    rw [State.curve_resetSoft, Curve.resetSoft]
    split
    · exact .inr ⟨rfl, rfl, rfl⟩
    · exact .inl ⟨Iff.rfl, rfl, rfl⟩
  inFlight := by
    by_cases hp : s.loader.state = .posting
    · rw [State.pageInFlight_of_not_writing (s := s.resetSoft f) (by simp [State.resetSoft, Loader.resetSoft, hp]),
        State.pageInFlight_of_not_writing (by simp [hp])]
    · have hl : (s.resetSoft f).loader = s.loader := if_neg hp
      exact State.pageInFlight_congr (by rw [hl]) (by rw [hl])
  bounded h := by
    obtain ⟨htime, hlease, hcursor⟩ := h
    obtain ⟨hl, hg⟩ := s.loader.resetSoft_frame
    exact ⟨htime, fun l h => hlease l (hl.symm.trans h), hg ▸ hcursor⟩
  ended h := s.loader.resetSoft_frame.1.symm.trans h
  readBack r hr := by
    rw [show (s.resetSoft f).mgmt.readBack = none from rfl] at hr
    cases hr

theorem State.PagesHold.returned {s t : State} (h : s.PagesHold) (e : s.PagesReturn t) : t.PagesHold := by
  have hpages := CurveStore.pages_of_accessed e.accessed
  constructor
  case partitioned => exact h.partitioned.of_count e.held
  case empty =>
    intro c hc
    obtain hk | ⟨-, hp, hk⟩ := e.curve c
    · rw [hk.pages, hk.knots]
      exact h.empty c (hk.empty.1 hc)
    · exact ⟨hp, hk⟩
  case marked => rw [e.loose, e.inFlight, h.marked]
  case check =>
    refine h.check.keep e.readBack (fun c hc => ?_) (fun p hp => by rwa [e.loose]) fun p _ => by rw [hpages]
    obtain hk | ⟨he, -⟩ := e.curve c
    · exact hk.empty.2 hc
    · exact he
  case knots =>
    refine h.knots.keep (fun c hc => ?_) fun c p _ => by rw [hpages]
    obtain hk | ⟨he, -⟩ := e.curve c
    · exact ⟨fun he => hc (hk.empty.2 he), hk.knots, hk.pages⟩
    · exact absurd he hc
  case arbiter => exact CurveStore.arbiter_of_accessed e.accessed ▸ h.arbiter
  case bounded => exact e.bounded h.bounded
  case room => exact e.loose ▸ h.room
  case closed => exact fun hl p hp => h.closed (e.ended hl) p (e.loose ▸ hp)

theorem State.PagesHold.same {s t : State} (h : s.PagesHold) (e : s.SamePages t) : t.PagesHold := h.returned e.pagesReturn

end Sys2Proof.Machine
end

section
/-! The events that move pages, a write in flight or a read-back on, one lemma each: O57. -/

namespace Sys2Proof.Machine

/-- Increasing knots, one beside the next. -/
theorem increasing_getElem {l : List Knot} (h : increasing l) {i : Nat} {a b : Knot} (ha : l[i]? = some a) (hb : l[i + 1]? = some b) :
    a.x.toInt < b.x.toInt := by
  induction l generalizing i with
  | nil => simp at ha
  | cons c l ih =>
    cases l with
    | nil => simp at hb
    | cons d rest =>
      obtain ⟨hlt, hrest⟩ := h
      cases i with
      | zero =>
        simp only [List.getElem?_cons_zero, List.getElem?_cons_succ, Option.some.injEq] at ha hb
        exact ha ▸ hb ▸ hlt
      | succ i => exact ih hrest (by simpa using ha) (by simpa using hb)

namespace State.PagesHold
variable {s : State} (h : s.PagesHold)
include h

/-! ### Marks (03 R45) -/

/-- A loose page is marked exactly when it is the page of the write in flight. -/
theorem marked_iff {a : LoosePage} (ha : a ∈ s.store.loose) : a.writing = true ↔ a.page ∈ s.pageInFlight := by
  rw [← h.marked, List.mem_map]
  constructor
  · exact fun hw => ⟨a, List.mem_filter.2 ⟨ha, hw⟩, rfl⟩
  · rintro ⟨b, hb, e⟩
    obtain ⟨hb, hw⟩ := List.mem_filter.1 hb
    exact h.partitioned.loose_unique ha hb e.symm ▸ hw

/-- The page of the write in flight is loose, and an unmarked loose page is another. -/
theorem inFlight_loose {p : PageId} (hp : p ∈ s.pageInFlight) : p ∈ s.store.loose.map LoosePage.page ∧ ∀ q, ⟨q, false⟩ ∈ s.store.loose → q ≠ p := by
  constructor
  · rw [← h.marked] at hp
    exact List.map_subset _ (List.filter_subset_self _) hp
  · rintro q hq rfl
    exact absurd ((h.marked_iff hq).2 hp) Bool.false_ne_true

/-! ### Events at the free list and the loose set -/

/-- Pages moved between the free list and the loose set. -/
theorem relist {t : State} (ha : t.store.accessed = s.store.accessed) (hc : t.store.curves = s.store.curves)
    (hfree : ∀ p, t.store.free.count p + (t.store.loose.map LoosePage.page).count p = s.store.free.count p + (s.store.loose.map LoosePage.page).count p)
    (hmarked : (t.store.loose.filter LoosePage.writing).map LoosePage.page = t.pageInFlight) (hcheck : t.OrderCheckKept) (hbounded : t.LeaseBounded)
    (hroom : t.store.loose.length ≤ Config.looseSize) (hclosed : t.loader.lease = none → ∀ p ∈ t.store.loose, p.writing = true) : t.PagesHold := by
  have hpages := CurveStore.pages_of_accessed ha
  have hcurve (c : CurveId) : t.curve c = s.curve c := by unfold State.curve; rw [hc]
  refine ⟨h.partitioned.of_count fun p => ?_, fun c he => ?_, hmarked, hcheck, h.knots.keep (fun c he => ?_) fun c p _ => by rw [hpages],
    CurveStore.arbiter_of_accessed ha ▸ h.arbiter, hbounded, hroom, hclosed⟩
  · rw [State.held_count, State.held_count, hfree p]
    simp only [hcurve]
  · rw [hcurve] at he ⊢
    exact h.empty c he
  · rw [hcurve] at he ⊢
    exact ⟨he, rfl, rfl⟩

/-- The lease ends: the unmarked loose pages are free (05 R89). No order check is in progress. -/
theorem endLease (hr : s.checkingOrder = false) : s.endLease.PagesHold := by
  refine h.relist rfl rfl (fun p => ?_) ?_ ?_ ?_ ((List.length_filter_le _ _).trans h.room) fun _ p hp => (List.mem_filter.1 hp).2
  · have hcount := count_filter_add s.store.loose LoosePage.writing LoosePage.page p
    show (s.store.free ++ _).count p + _ = _
    rw [List.count_append]
    show _ + ((s.store.loose.filter LoosePage.writing).map LoosePage.page).count p = _
    omega
  · show ((s.store.loose.filter LoosePage.writing).filter LoosePage.writing).map LoosePage.page = _
    rw [List.filter_filter, State.pageInFlight_congr s.endLease_loaderState s.endLease_loaderWrite, ← h.marked]
    simp
  · intro r hrb
    refine ⟨(h.check r hrb).1, fun failed hf => ?_⟩
    have hchecking : s.checkingOrder = true := s.checkingOrder_iff.2 ⟨r, hrb, by simp [hf]⟩
    rw [hr] at hchecking
    cases hchecking
  · obtain ⟨htime, -, hcursor⟩ := h.bounded
    refine ⟨htime, ?_, ?_⟩
    · intro l hl
      cases hl
    · show (if s.loader.state = .writing then s.loader.staging else .cleared).cursor ≤ 15
      split
      · exact hcursor
      · exact Nat.zero_le 15

/-- A page write starts: a free page is loose and marked (05 R99). -/
theorem startWrite (f : Frame) {p : PageId} (hs : s.loader.state = .idle) (hroom : s.store.loose.length < Config.looseSize) (hp : p ∈ s.store.free) :
    (s.startWrite f p).PagesHold := by
  unfold State.startWrite
  refine same ?_ (.leave _)
  refine h.relist rfl rfl (fun q => ?_) ?_ ?_ ?_ ?_ ?_
  · show (s.store.free.erase p).count q + ((s.store.loose ++ [(⟨p, true⟩ : LoosePage)]).map LoosePage.page).count q = _
    have hpos := List.count_pos_iff.2 hp
    rw [List.count_erase, List.map_append, List.count_append, List.map_cons, List.map_nil, List.count_singleton]
    by_cases hq : p = q
    · subst hq
      simp only [beq_self_eq_true, if_true]
      omega
    · simp [hq]
  · show ((s.store.loose ++ [(⟨p, true⟩ : LoosePage)]).filter LoosePage.writing).map LoosePage.page = [p]
    rw [List.filter_append, List.map_append, h.marked, State.pageInFlight_of_not_writing (by simp [hs])]
    rfl
  · exact h.check.keep (fun r hr => ⟨hr, rfl⟩) (fun _ hc => hc) (fun q hq => List.mem_append_left _ hq) fun _ _ => rfl
  · exact h.bounded
  · show (s.store.loose ++ [(⟨p, true⟩ : LoosePage)]).length ≤ _
    rw [List.length_append]
    exact hroom
  · intro hl q hq
    obtain hq | hq := List.mem_append.1 hq
    · exact h.closed hl q hq
    · rw [List.mem_singleton.1 hq]

/-! ### The end of a page write (05 R101, R102) -/

/-- A page write ends: its page stays loose, its mark cleared, or is free again; the loader is not WRITING any more. -/
theorem landed {t : State} (ha : t.store.accessed = s.store.accessed) (hc : t.store.curves = s.store.curves)
    (hfree : ∀ p, t.store.free.count p + (t.store.loose.map LoosePage.page).count p = s.store.free.count p + (s.store.loose.map LoosePage.page).count p)
    (hmarked : ∀ a ∈ t.store.loose, a.writing = false) (hs : t.loader.state ≠ .writing) (hm : s.mgmt.Eases t.mgmt)
    (hl : ∀ p, ⟨p, false⟩ ∈ s.store.loose → ⟨p, false⟩ ∈ t.store.loose) (hbounded : t.LeaseBounded)
    (hroom : t.store.loose.length ≤ s.store.loose.length) (hclosed : t.loader.lease = none → ∀ p ∈ t.store.loose, p.writing = true) : t.PagesHold := by
  have hpages := CurveStore.pages_of_accessed ha
  refine h.relist ha hc hfree ?_ (h.check.keep hm.readBack (fun c he => ?_) hl fun p _ => by rw [hpages]) hbounded (hroom.trans h.room) hclosed
  · rw [State.pageInFlight_of_not_writing hs, List.map_eq_nil_iff, List.filter_eq_nil_iff]
    exact fun a ha => by simp [hmarked a ha]
  · unfold State.curve at he ⊢
    rwa [hc]

end State.PagesHold

/-- The answer of a page write writes engine and loader: of the engine nothing that its own command rests on, of the loader its state and record. -/
theorem State.answerWrite_frame (s : State) (r : WriteRecord) (st : Status) :
    (s.answerWrite r st).store = s.store ∧ (s.answerWrite r st).loader.lease = s.loader.lease ∧ (s.answerWrite r st).loader.staging = s.loader.staging ∧
      (s.answerWrite r st).mgmt.params = s.mgmt.params ∧ s.mgmt.Eases (s.answerWrite r st).mgmt := by
  refine ⟨?_, ?_, ?_, ?_, (State.Quiet.answerWrite s r st).mgmt⟩ <;> unfold State.answerWrite State.offerLoader <;> dsimp only
  case refine_4 =>
    obtain ⟨c, e⟩ := s.mgmt.store_eq (responseFrame s.mgmt.address r.tag r.manager st [byteOf r.page.val, flagByte r.saturated])
    rw [e]
    split <;> rfl
  all_goals split <;> rfl

namespace State.PagesHold
variable {s : State} (h : s.PagesHold) {r : WriteRecord} (hs : s.loader.state = .writing) (hw : s.loader.write = some r)
include h hs hw

theorem marked_iff_record {a : LoosePage} (ha : a ∈ s.store.loose) : a.writing = true ↔ a.page = r.page := by
  rw [h.marked_iff ha, State.mem_pageInFlight]
  constructor
  · rintro ⟨-, r', hr', e⟩
    rw [hw] at hr'
    cases hr'
    exact e.symm
  · exact fun e => ⟨hs, r, hw, e.symm⟩

theorem completeOpen (hl : s.loader.lease.isSome = true) : (s.completeOpen r).PagesHold := by
  unfold State.completeOpen
  generalize hu : State.renewLease _ = u
  have hstore : u.store = s.store.writeDone r.page := by rw [← hu]; rfl
  have hmgmt : u.mgmt = s.mgmt := by rw [← hu]; rfl
  have hopen : u.loader.lease.isSome = true := by
    rw [← hu]
    exact Option.isSome_map.trans hl
  have hbounded : u.LeaseBounded := by
    rw [← hu]
    refine (State.SamePages.renewLease _).bounded ?_
    exact ⟨h.bounded.1, h.bounded.2.1, Nat.zero_le 15⟩
  obtain ⟨hstore', hlease, hstaging, hparams, heases⟩ := u.answerWrite_frame r .ok
  have hloose : (u.answerWrite r .ok).store.loose = s.store.loose.map fun q => if q.page = r.page then { q with writing := false } else q := by
    rw [hstore', hstore]
    rfl
  have hmap : (u.answerWrite r .ok).store.loose.map LoosePage.page = s.store.loose.map LoosePage.page := by
    rw [hloose, List.map_map]
    refine List.map_congr_left fun q _ => ?_
    simp only [Function.comp]
    split <;> rfl
  refine h.landed (by rw [hstore', hstore]; rfl) (by rw [hstore', hstore]; rfl) (fun p => ?_) (fun a ha => ?_) (State.offerLoader_state _ _)
    (hmgmt ▸ heases) (fun p hp => ?_) ?_ ?_ fun hn => ?_
  · rw [hmap, hstore', hstore]
    rfl
  · rw [hloose] at ha
    obtain ⟨q, hq, rfl⟩ := List.mem_map.1 ha
    split
    · rfl
    next hne => exact Bool.eq_false_iff.2 fun ht => hne ((h.marked_iff_record hs hw hq).1 ht)
  · rw [hloose]
    exact List.mem_map.2 ⟨_, hp, by split <;> rfl⟩
  · obtain ⟨htime, hlease', hcursor⟩ := hbounded
    refine ⟨by rw [hparams]; exact htime, fun l hl => hlease' l (hlease ▸ hl), by rw [hstaging]; exact hcursor⟩
  · rw [hloose, List.length_map]
  · rw [hlease] at hn
    rw [hn] at hopen
    cases hopen

theorem completeLost (hl : s.loader.lease = none) : (s.completeLost r).PagesHold := by
  unfold State.completeLost
  generalize hu : ({ s with store := s.store.returnWriting r.page, loader := { s.loader with staging := .cleared } } : State) = u
  have hstore : u.store = s.store.returnWriting r.page := by rw [← hu]
  have hmgmt : u.mgmt = s.mgmt := by rw [← hu]
  have hbounded : u.LeaseBounded := by
    rw [← hu]
    exact ⟨h.bounded.1, h.bounded.2.1, Nat.zero_le 15⟩
  obtain ⟨hstore', hlease, hstaging, hparams, heases⟩ := u.answerWrite_frame r .leaseLost
  have hloose : (u.answerWrite r .leaseLost).store.loose = s.store.loose.filter fun q => q.page ≠ r.page := by
    rw [hstore', hstore]
    rfl
  have hfree : (u.answerWrite r .leaseLost).store.free = s.store.free ++ (s.store.loose.filter fun q => q.page = r.page).map LoosePage.page := by
    rw [hstore', hstore]
    rfl
  have hnone : ∀ a ∈ (u.answerWrite r .leaseLost).store.loose, a ∈ s.store.loose ∧ a.writing = false := by
    intro a ha
    rw [hloose] at ha
    obtain ⟨ha, hne⟩ := List.mem_filter.1 ha
    exact ⟨ha, Bool.eq_false_iff.2 fun ht => absurd ((h.marked_iff_record hs hw ha).1 ht) (of_decide_eq_true hne)⟩
  refine h.landed (by rw [hstore', hstore]; rfl) (by rw [hstore', hstore]; rfl) (fun p => ?_) (fun a ha => (hnone a ha).2) (State.offerLoader_state _ _)
    (hmgmt ▸ heases) (fun p hp => ?_) ?_ ?_ fun _ a ha => h.closed hl a (hnone a ha).1
  · have hcount := count_filter_add s.store.loose (fun q => q.page = r.page) LoosePage.page p
    rw [hfree, hloose, List.count_append]
    simp only [ne_eq, decide_not]
    omega
  · rw [hloose]
    refine List.mem_filter.2 ⟨hp, decide_eq_true fun e => ?_⟩
    exact Bool.false_ne_true ((h.marked_iff_record hs hw hp).2 e)
  · obtain ⟨htime, hlease', hcursor⟩ := hbounded
    exact ⟨by rw [hparams]; exact htime, fun l hl => hlease' l (hlease ▸ hl), by rw [hstaging]; exact hcursor⟩
  · rw [hloose]
    exact List.length_filter_le _ _

end State.PagesHold

namespace State.PagesHold
variable {s : State} (h : s.PagesHold)
include h

theorem completeWrite : s.completeWrite.PagesHold := by
  unfold State.completeWrite
  split
  next hd =>
    have hs : s.loader.state = .writing := by
      simp only [State.pageWriteDone, Bool.and_eq_true, beq_iff_eq] at hd
      exact hd.1
    split
    next r hw =>
      split
      next hl => exact h.completeOpen hs hw hl
      next hl => exact h.completeLost hs hw (Option.not_isSome_iff_eq_none.1 hl)
    next => exact h
  next => exact h

/-! ### Defining a curve (03 R49, 05 R105, R106) -/

/-- An order check that has passed: its pages are the curve's, whose knots are those read. -/
theorem define {r : ReadBack} (hr : s.mgmt.readBack = some r) (hd : r.done = true) (hp : r.purpose = .orderCheck none) :
    ({ s with store := s.store.define r.curve r.pages r.knots, mgmt := { s.mgmt with readBack := none } } : State).PagesHold := by
  obtain ⟨hempty, hnodup, hloose, hfit, hfour, -, hcount, hgot, hinc⟩ := (h.check r hr).2 none hp
  obtain ⟨hnone, -⟩ := h.empty r.curve hempty
  generalize ht : ({ s with store := s.store.define r.curve r.pages r.knots, mgmt := { s.mgmt with readBack := none } } : State) = t
  have hcurve (c : CurveId) : t.curve c = if r.curve = c then
      { s.curve c with state := .built, knots := r.knots, pages := r.pages, generation := (s.curve c).generation + 1 } else s.curve c := by
    rw [← ht]
    exact s.curve_define ..
  have hset : t.store.loose = s.store.loose.filter fun p => !r.pages.contains p.page := by rw [← ht]; rfl
  have hfree : t.store.free = s.store.free := by rw [← ht]; rfl
  have hpages : t.store.pages = s.store.pages := by rw [← ht]; rfl
  have hloader : t.loader = s.loader := by rw [← ht]
  have hunmarked : ∀ a ∈ s.store.loose, a.page ∈ r.pages → a.writing = false := fun a ha hm => by
    rw [h.partitioned.loose_unique ha (hloose _ hm) rfl]
  have htaken (p : PageId) : ((s.store.loose.filter fun p => r.pages.contains p.page).map LoosePage.page).count p = r.pages.count p := by
    refine List.Perm.count_eq ((List.perm_ext_iff_of_nodup ?_ hnodup).2 fun q => ?_) p
    · refine List.Nodup.sublist (List.filter_sublist.map _) (List.nodup_iff_count_le_one.2 fun q => ?_)
      have := h.partitioned.count_le q
      omega
    · simp only [List.mem_map, List.mem_filter, List.contains_eq_mem, decide_eq_true_eq]
      constructor
      · rintro ⟨a, ⟨-, hm⟩, rfl⟩
        exact hm
      · exact fun hm => ⟨_, ⟨hloose q hm, hm⟩, rfl⟩
  constructor
  case partitioned =>
    refine h.partitioned.of_count fun p => ?_
    have hsum := sum_curves_update (f := fun d => (s.curve d).pages.count p) (g := fun d => (t.curve d).pages.count p) r.curve
      fun d hd => by simp only [hcurve, if_neg hd.symm]
    have hnew : (t.curve r.curve).pages = r.pages := by rw [hcurve, if_pos rfl]
    have hsplit := count_filter_add s.store.loose (fun q => r.pages.contains q.page) LoosePage.page p
    rw [htaken p] at hsplit
    simp only [hnew, hnone, List.count_nil] at hsum
    rw [State.held_count, State.held_count, hfree, hset]
    omega
  case empty =>
    intro c hc
    rw [hcurve] at hc ⊢
    split at hc
    · cases hc
    next hne =>
      rw [if_neg hne]
      exact h.empty c hc
  case marked =>
    rw [hset, List.filter_filter, State.pageInFlight_congr (s := s) (by rw [hloader]) (by rw [hloader]), ← h.marked]
    refine congrArg _ (List.filter_congr fun a ha => ?_)
    cases hw : a.writing with
    | false => rfl
    | true =>
      have hnot : a.page ∉ r.pages := fun hm => by
        rw [hunmarked a ha hm] at hw
        cases hw
      simp [hnot]
  case check => exact State.orderCheckKept_of_none (by rw [← ht])
  case knots =>
    intro c hc
    have hknot (l : List PageId) (i : Nat) : t.store.knotAt l i = s.store.knotAt l i := CurveStore.knotAt_congr (fun p _ => by rw [hpages]) i
    simp only [hknot]
    rw [hcurve] at hc ⊢
    split at hc
    next hcc =>
      rw [if_pos hcc]
      refine ⟨hfit, hfour, fun i hi => ?_⟩
      have hlen := hcount ▸ ReadBack.count_le_of_done hd (.inr hp)
      have ha : i < r.got.length := by simp only at hi; omega
      have hb : i + 1 < r.got.length := by simp only at hi; omega
      exact ⟨_, _, hgot i _ (List.getElem?_eq_getElem ha), hgot (i + 1) _ (List.getElem?_eq_getElem hb),
        increasing_getElem (hinc rfl) (List.getElem?_eq_getElem ha) (List.getElem?_eq_getElem hb)⟩
    next hne =>
      rw [if_neg hne]
      exact h.knots c hc
  case arbiter => exact ht ▸ h.arbiter
  case bounded => exact ht ▸ h.bounded
  case room =>
    rw [hset]
    exact (List.length_filter_le _ _).trans h.room
  case closed =>
    intro hl p hp
    rw [hset] at hp
    exact h.closed (hloader ▸ hl) p (List.mem_filter.1 hp).1

theorem finishReadBack : s.finishReadBack.PagesHold := by
  unfold State.finishReadBack
  split
  next r hr =>
    split
    next hd =>
      split
      · exact h.same (.endReadBack s _ _)
      · exact h.same (.endReadBack s _ _)
      next hp =>
        unfold State.defineCurve State.endReadBack
        split
        next f _ => exact (h.define hr hd hp).same (.respond _ f _ _)
        next hn =>
          have hcur := (h.check r hr).1
          rw [hn] at hcur
          cases hcur
    next => exact h
  next => exact h

/-! ### A read-back begins and moves on (05 R105) -/

/-- The engine's read-back written, with a record of a current command that fits. -/
theorem withReadBack {r : ReadBack} (hcur : s.mgmt.current.isSome = true) (hfits : s.CheckFits r) :
    ({ s with mgmt := { s.mgmt with readBack := some r } } : State).PagesHold where
  partitioned := h.partitioned
  empty := h.empty
  marked := h.marked
  check r' hr' := by
    cases hr'
    exact ⟨hcur, hfits⟩
  knots := h.knots
  arbiter := h.arbiter
  bounded := h.bounded
  room := h.room
  closed := h.closed

theorem startReadBack {f : Frame} {r : ReadBack} (hf : s.mgmt.inHand = some f) (hfits : s.CheckFits r) : (s.startReadBack r).PagesHold := by
  obtain ⟨-, -, hcur⟩ := Management.inHand_eq_some hf
  exact h.withReadBack (by rw [hcur]; rfl) hfits

/-- A read-back takes the knot its pages hold next, and notes one out of order. -/
theorem grantReadBack : s.grantReadBack.PagesHold := by
  unfold State.grantReadBack
  split
  next r k hr hk =>
    obtain ⟨hcur, hfits⟩ := h.check r hr
    refine h.withReadBack hcur fun failed hf => ?_
    have hclaim : s.store.knotAt r.pages (r.first + r.got.length) = some k := by
      unfold State.readBackClaim at hk
      rw [hr] at hk
      dsimp only at hk
      split at hk
      · cases hk
      · exact hk
    cases hp : r.purpose with
    | readKnots =>
      simp only [ReadBack.granted, hp] at hf
      cases hf
    | orderCheck failed' =>
      obtain ⟨hempty, hnodup, hloose, hfit, hfour, hfirst, hcount, hgot, hinc⟩ := hfits failed' hp
      refine ⟨hempty, hnodup, hloose, hfit, hfour, hfirst, hcount, fun i k' hi => ?_, fun hn => ?_⟩
      · replace hi : (r.got ++ [k])[i]? = some k' := hi
        by_cases hlt : i < r.got.length
        · rw [List.getElem?_append_left hlt] at hi
          exact hgot i k' hi
        · rw [List.getElem?_append_right (Nat.not_lt.1 hlt), List.getElem?_singleton] at hi
          split at hi
          next h0 =>
            cases hi
            rw [hfirst] at hclaim
            rwa [show i = 0 + r.got.length by omega]
          next => cases hi
      · subst hn
        simp only [ReadBack.granted, hp] at hf
        split at hf
        next => cases hf
        next ho =>
          cases hf
          exact (increasing_append _ _).2 ⟨hinc rfl, Bool.eq_false_iff.2 ho⟩
  next => exact h

/-! ### The grants of the store port -/

/-- A page-write grant writes a marked page, which is no curve's and no order check's. -/
theorem grantPageWrite : s.grantPageWrite.PagesHold := by
  cases hc : s.pageWriteClaim with
  | none =>
    rw [State.grantPageWrite_of_none hc]
    exact h
  | some q =>
    obtain ⟨r, i⟩ := q
    obtain ⟨hloose, hother⟩ := h.inFlight_loose (State.claim_mem_pageInFlight hc)
    obtain ⟨hs, hw, -⟩ := State.pageWriteClaim_eq_some.1 hc
    have hkept (p : PageId) (hp : p ≠ r.page) : s.grantPageWrite.store.pages[p] = s.store.pages[p] :=
      s.grantPageWrite_other fun q hq => by
        rw [hc] at hq
        cases hq
        exact hp.symm
    have hknots : s.grantPageWrite.KnotsKept := h.knots.keep (fun c he => by
        rw [State.grantPageWrite_eq hc] at he ⊢
        exact ⟨he, rfl, rfl⟩) fun c p hp => hkept p fun e => h.partitioned.loose_alone hloose c (e ▸ hp)
    have hcheck : s.grantPageWrite.OrderCheckKept := h.check.keep (fun r hr => ⟨by simpa using hr, by simp⟩) (fun c he => by
        rw [State.grantPageWrite_eq hc]
        exact he) (fun p hp => by
        rw [State.grantPageWrite_eq hc]
        exact hp) fun p hp => hkept p (hother p hp)
    have hflight : s.grantPageWrite.pageInFlight = s.pageInFlight := by
      rw [State.grantPageWrite_eq hc]
      unfold State.pageInFlight
      rw [hw]
      rfl
    rw [State.grantPageWrite_eq hc] at hknots hcheck hflight ⊢
    exact ⟨h.partitioned, h.empty, h.marked.trans hflight.symm, hcheck, hknots, h.arbiter, h.bounded, h.room, h.closed⟩

/-- The arbiter's records written. -/
theorem withArbiter {a : StoreArbiter} (ha : a.Kept) : ({ s with store := { s.store with arbiter := a } } : State).PagesHold :=
  ⟨h.partitioned, h.empty, h.marked, h.check, h.knots, ha, h.bounded, h.room, h.closed⟩

theorem grantPeriod : s.grantPeriod.PagesHold := by
  have haccess (g : Option Grant) : (s.access g).PagesHold :=
    match g with
    | some (.unit u) => h.same (.of_eq (by simp [State.access]) (by simp [State.access]) (by simp [State.access]))
    | some (.other .readBack) => h.grantReadBack
    | some (.other .pageWrite) => h.grantPageWrite
    | none => h
  exact (haccess _).withArbiter (h.arbiter.after s.claims)

end State.PagesHold

end Sys2Proof.Machine
end

section
/-! Every step keeps each page in its place, the curves' knots and an order check: O57. -/

namespace Sys2Proof.Machine

/-! ### A bind moves no page (03 R51) -/

/-- Reference claims leave a descriptor its pages and knots, and leave it EMPTY when no change names it then. -/
theorem Curve.claim_sameKnots {d : Curve} {c : CurveId} {l : List Change} (h : d.state = .empty → ∀ x ∈ l, x.new ≠ some c ∧ x.old ≠ some c) :
    d.SameKnots (d.claim c l) := by
  unfold Curve.claim
  dsimp only
  split
  next => exact .refl d
  next hnamed =>
    refine ⟨⟨fun he => ?_, fun he => absurd ?_ hnamed⟩, rfl, rfl⟩
    · dsimp only at he
      split at he <;> cases he
    · exact ⟨List.countP_eq_zero.2 fun x hx => by simpa using (h he x hx).1, List.countP_eq_zero.2 fun x hx => by simpa using (h he x hx).2⟩

/-- An EMPTY curve is bound to no context and reserved by no pending pair, so a bind of pairs that name other curves leaves it EMPTY (03 R48). -/
theorem State.SamePages.applyChanges {s : State} {l : List Pair} (h : s.CountsKept) (hl : s.NamesCurves l) : s.SamePages (s.applyChanges (s.changes l)) := by
  obtain ⟨-, htallied, -⟩ := (State.countsKept_iff s).1 h
  refine .of_curves (by simp [State.applyChanges, CurveStore.accessed]) (by simp [State.applyChanges]) (by simp [State.applyChanges]) (fun c => ?_)
    (by simp [State.applyChanges]) (by simp [State.applyChanges])
  rw [State.curve_applyChanges]
  refine Curve.claim_sameKnots fun he x hx => ?_
  obtain ⟨hrefs, -, hreservations, hfit⟩ := htallied.curves c
  simp only [Curve.CountsFit, he] at hfit
  obtain ⟨hr, -, hn⟩ := hfit
  obtain ⟨p, hp, hchange⟩ := List.mem_filterMap.1 hx
  obtain ⟨-, hold, hnew⟩ := State.changeOf_eq_some hchange
  constructor
  · rw [hnew]
    intro hc
    obtain hvalid | ⟨b, hb, rfl⟩ := hl
    · exact hvalid p hp c hc he
    · have hpos : 0 < naming b.pairs c := by
        rw [naming_eq_countP]
        exact List.countP_pos_iff.2 ⟨p, hp, by simp [hc]⟩
      rw [reservationsHeld, hb, Option.elim_some] at hreservations
      omega
  · rw [hold]
    intro hc
    have hpos : 1 ≤ s.table.refsHeld c := countP_pos_of_getElem s.table.contexts x.context (beq_iff_eq.2 hc)
    omega

/-! ### Every event of the store keeps the pages -/

/-- The counts are kept, and a loader that holds a response is POSTING: what a bind and the placing of a held response rest on. -/
def State.CountsAndHolderKept (s : State) : Prop := s.CountsKept ∧ (Holder.loader ∈ s.mgmt.holders → s.loader.state = .posting)

theorem State.pagesHold_keptByStoreEvents : KeptByStoreEvents State.CountsAndHolderKept State.PagesHold where
  side s t hq hm hl hI := by
    obtain ⟨hcounts, hposting⟩ := hI
    exact ⟨State.countsKept_keptByEvents.quiet s t hq hcounts, by rw [hm, hl]; exact hposting⟩
  same _ _ e h := h.same e
  placePosted s hI h := h.same (.placePosted s hI.2)
  applyChanges _ _ hI hl h := h.same (.applyChanges hI.1 hl)
  reclaim s c h := h.returned (s.reclaim_pagesReturn c)
  endLease _ hr h := h.endLease hr
  startWrite _ f _ hs hroom hp h := h.startWrite f hs hroom hp
  startReadBack _ _ _ hf hr h := h.startReadBack hf hr
  resetSoft s f h := h.returned (s.resetSoft_pagesReturn f)

theorem State.PagesHold.endConversion {s : State} (h : s.PagesHold) (u : UnitId) : (s.endConversion u).PagesHold :=
  State.pagesHold_keptByStoreEvents.endConversion h u

/-- Each part of an access period keeps the pages. -/
theorem State.pagesHold_keptByPeriods : KeptByPeriods State.PagesHold :=
  ⟨fun _ u h => h.endConversion u, fun _ h => h.finishReadBack, fun _ h => h.completeWrite, fun _ h => h.grantPeriod⟩

/-! ### The full resets (03 R61, 05 R109) -/

theorem State.reset_pagesHold : State.reset.PagesHold where
  partitioned := by
    have hheld : State.reset.store.held = List.finRange 128 := by
      unfold CurveStore.held
      rw [State.curves_toList, List.flatMap_map]
      have hnone : (List.finRange 48).flatMap (fun c => (State.reset.curve c).pages) = [] :=
        List.flatMap_eq_nil_iff.2 fun c _ => by rw [State.reset_curve]; rfl
      rw [hnone]
      simp [State.reset, CurveStore.reset]
    unfold CurveStore.Partitioned
    rw [hheld]
    exact ⟨List.nodup_finRange 128, by simp⟩
  empty c _ := by
    rw [State.reset_curve]
    exact ⟨rfl, rfl⟩
  marked := rfl
  check := State.orderCheckKept_of_none rfl
  knots c h := absurd (by rw [State.reset_curve]; rfl) h
  arbiter := Nat.zero_le 3
  bounded := ⟨by decide, fun l hl => (by cases hl), Nat.zero_le 15⟩
  room := Nat.zero_le _
  closed _ p hp := by cases hp

theorem State.resetFull_pagesHold (s : State) (f : Frame) : (s.resetFull f).PagesHold :=
  State.reset_pagesHold.same (.of_engine rfl rfl ⟨fun h => (by cases h), fun _ h => (by cases h)⟩ rfl)

/-! ### The tick (05 R86, R89) -/

/-- The knots a record has still to read, when its pages hold them. -/
theorem ReadBack.stillToRead {r : ReadBack} (t : CurveStore) (hg : r.got.length ≤ r.count) (hfit : r.first + r.count ≤ 16 * r.pages.length) :
    r.StillToRead t ((List.range (r.count - r.got.length)).filterMap fun i => t.knotAt r.pages (r.first + r.got.length + i)) := by
  obtain ⟨hlen, hget⟩ := filterMap_range_of_isSome (f := fun i => t.knotAt r.pages (r.first + r.got.length + i)) (n := r.count - r.got.length)
    fun i hi => t.knotAt_isSome r.pages (by omega)
  refine ⟨by rw [hlen]; omega, fun i hi => ?_⟩
  rw [hlen] at hi
  rw [hget i hi]

namespace State.PagesHold
variable {s : State} (h : s.PagesHold)
include h

/-- An order check ends within the periods allowed for it: 8 for each of at most 64 knots (05 R105). -/
theorem passUntil_readBackDone (hs : s.mgmt.state = .executing) {r : ReadBack} (hr : s.mgmt.readBack = some r) {failed : Option Nat}
    (hp : r.purpose = .orderCheck failed) :
    (s.passUntil State.readBackDone Config.orderCheckPeriods).readBackDone = true ∧
      (s.passUntil State.readBackDone Config.orderCheckPeriods).mgmt.current = s.mgmt.current := by
  cases hd : r.done with
  | true =>
    have hdone := (State.readBackDone_of_record hr).trans hd
    rw [State.passUntil_of_done hdone]
    exact ⟨hdone, rfl⟩
  | false =>
    obtain ⟨-, -, hloose, hfit, hfour, hfirst, hcount, -⟩ := (h.check r hr).2 failed hp
    simp only [knotsFit, Bool.and_eq_true, decide_eq_true_eq] at hfit
    have hgot : r.got.length ≤ r.count := by
      by_contra hlt
      rw [ReadBack.done_of_count (by omega)] at hd
      cases hd
    have hstill := ReadBack.stillToRead (r := r) s.store hgot (by omega)
    have hlen := hstill.count
    have hspared : ∀ q ∈ s.pageWriteClaim, q.1.page ∉ r.pages := fun q hq hm =>
      (h.inFlight_loose (State.claim_mem_pageInFlight hq)).2 _ (hloose _ hm) rfl
    obtain ⟨j, hreading, hdone⟩ := ReadingBack.passUntil hr hs hspared h.arbiter hstill (n := Config.orderCheckPeriods)
      (show _ ≤ 512 by omega)
    exact ⟨(State.readBackDone_of_record hreading.record).trans hdone, hreading.current⟩

/-- After an order check in progress is carried to its end none is. -/
theorem completeDefine_not_checking (hq : s.QueuesKept) : s.completeDefine.checkingOrder = false := by
  cases hc : s.checkingOrder with
  | false => rw [State.completeDefine_of_not_checking (by simp [hc]), hc]
  | true =>
    obtain ⟨r, hr, hne⟩ := s.checkingOrder_iff.1 hc
    obtain ⟨-, -, -, -, -, -, -, -, hexec⟩ := hq.engine
    obtain ⟨f, hf⟩ := Option.isSome_iff_exists.1 (h.check r hr).1
    cases hp : r.purpose with
    | readKnots => exact absurd hp hne
    | orderCheck failed =>
      obtain ⟨hdone, hcur⟩ := h.passUntil_readBackDone (hexec (by rw [hr]; rfl)) hr hp
      have hnone := State.finishReadBack_readBack (hcur.trans hf) hdone
      unfold State.completeDefine
      rw [hc, if_pos rfl]
      unfold State.checkingOrder
      rw [hnone]
      rfl

/-- A tick at the lease timer: an expiry finds no order check in progress. -/
theorem countLease (hr : s.leaseDue = true → s.checkingOrder = false) : s.countLease.PagesHold := by
  cases hd : s.leaseDue with
  | false => exact h.same (.countLease s hd)
  | true =>
    unfold State.countLease State.expireLease
    rw [hd, if_pos rfl]
    split
    · exact (h.endLease (hr hd)).same (.raise _ _ _ _)
    · exact h

theorem tick (hq : s.QueuesKept) : s.tick.PagesHold := by
  have hlease : s.tickLease.PagesHold := by
    unfold State.tickLease
    split
    next => exact (State.pagesHold_keptByPeriods.completeDefine h).countLease fun _ => h.completeDefine_not_checking hq
    next hd => exact h.countLease fun hd' => absurd hd' hd
  exact hlease.same (t := s.tickLease.tickRetry) (.of_eq (by simp) (by simp) (by simp))

/-! ### Every command, and every step -/

/-- Every command keeps what chapters 03 and 05 have of the pages. -/
theorem exec (hq : s.QueuesKept) (hc : s.CountsKept) (c : Instr) : Follows State.PagesHold c (exec c s) := by
  have K := State.pagesHold_keptByStoreEvents
  have hI : s.CountsAndHolderKept := by
    obtain ⟨-, -, -, -, -, hposting, -⟩ := hq
    exact ⟨hc, hposting.1⟩
  by_cases hrelease : c = .resetnRelease
  · subst hrelease
    exact State.reset_pagesHold.same (.of_eq rfl rfl rfl)
  by_cases hfull : c = .resetNodeFull
  · subst hfull
    refine follows_of_nextIs (K.command h hI _ _ fun f t _ _ _ _ ht => ?_)
    by_cases hp : f.payload = [levelFull]
    · rw [resetNodeBody_full t hp]
      exact t.resetFull_pagesHold f
    · exact K.resetNodeBody ht hp
  cases htakes : takesPeriods c with
  | true => exact follows_of_nextIs (State.pagesHold_keptByPeriods.exec h (h.tick hq) htakes)
  | false => exact K.exec hI h htakes hrelease hfull

end State.PagesHold

/-- Settles O57: a step is one access period, or the front command on the part with the rest of the commands waiting; each event of either keeps the pages. -/
theorem stepKeepsPages : Obligations.StepKeepsPages := by
  intro s t hq hc hp hstep
  have h := s.pagesKept_iff.1 hp
  refine t.pagesKept_iff.2 ?_
  unfold step at hstep
  split at hstep
  · cases hstep
    exact State.pagesHold_keptByPeriods.accessPeriod h
  next c rest _ =>
    have hqueues : ({ s with pending := rest } : State).QueuesKept := hq.same (by constructor <;> simp)
    have hfollows := State.PagesHold.exec (s := { s with pending := rest }) (h.same (.of_eq rfl rfl rfl)) hqueues hc c
    rw [hstep] at hfollows
    exact hfollows

end Sys2Proof.Machine
end

section
/-! The sequence check and LOOKUP: O14, O15. -/

namespace Sys2Proof.Machine

/-! ### The sequence check (04 R67) -/

theorem sequenceCheck_admitted {e q : Byte} (h : (q - e).toNat ≤ 127) : sequenceCheck (some e) q = .admitted (q - e).toNat := if_pos h

theorem sequenceCheck_late {e q : Byte} (h : 128 ≤ (q - e).toNat) : sequenceCheck (some e) q = .late := if_neg (by omega)

/-! ### The samples of a SAMPLE frame (01 R4) -/

/-- Field `i` of a run of two-byte fields is its bytes 2i and 2i + 1. -/
theorem halvesOf_getElem? {l : List Byte} {i : Nat} (h : 2 * i + 1 < l.length) :
    (halvesOf l)[i]? = some (l.getD (2 * i) 0 ++ l.getD (2 * i + 1) 0) := by
  induction l using halvesOf.induct generalizing i with
  | case1 high low rest ih =>
    cases i with
    | zero => rfl
    | succ i =>
      rw [halvesOf, List.getElem?_cons_succ, ih (by simp only [List.length_cons] at h; omega)]
      rfl
  | case2 l hl =>
    match l with
    | [] | [_] => simp at h
    | high :: low :: rest => exact absurd rfl (hl high low rest)

/-- Settles O14: each row of the table is a branch of the check; the samples are the two-byte fields after the timestamp. -/
theorem sequenceCheckTable : Obligations.SequenceCheckTable := by
  refine ⟨fun q => rfl, fun e q => ⟨fun h => ?_, fun _ h => sequenceCheck_admitted h, sequenceCheck_late⟩, fun f h => ?_⟩
  · rw [sequenceCheck_admitted (by omega), h]
  · simp only [kindLengthOk, Bool.and_eq_true, decide_eq_true_eq, beq_iff_eq] at h
    obtain ⟨⟨hlow, -⟩, hlen⟩ := h
    refine ⟨?_, ?_, fun i hi => ?_⟩
    · rw [Frame.samples, halvesOf_length, List.length_drop]
      omega
    · unfold Frame.timestamp
      match hp : f.payload with
      | [] | [_] => simp only [hp, List.length_nil, List.length_singleton] at hlen; omega
      | a :: b :: rest => rfl
    · rw [Frame.samples, halvesOf_getElem? (by rw [List.length_drop]; omega)]
      simp only [List.getD_eq_getElem?_getD, List.getElem?_drop]
      rw [show 2 + (2 * i + 1) = 3 + 2 * i by omega]

/-! ### What LOOKUP finds (04 R66) -/

/-- The context whose lookup a head frame is: the one the data classifier offers it for. -/
theorem State.conditioned_eq_some {s : State} {f : Frame} {k : ContextId} :
    s.conditioned f = some k ↔ f.kind = .sample ∧ s.table.lookup f.addr = some k ∧ (s.context k).mode = .cond ∧ (s.context k).fenced = false := by
  unfold State.conditioned
  split
  next h => simp [h, Option.filter_eq_some_iff]
  next h => simp [h]

/-- A frame that is not offered for conditioning is no context's (01 R17). -/
theorem State.conditioned_of_not_offered {s : State} {f : Frame} (h : s.decide f ≠ .offered) : s.conditioned f = none := by
  refine Option.eq_none_iff_forall_ne_some.2 fun k hk => h ?_
  obtain ⟨hs, hl, hm, hf⟩ := State.conditioned_eq_some.1 hk
  exact State.decide_cond hs hl hf hm

theorem Conditioner.freeSlot_eq_none {c : Conditioner} (h : ∀ i : SlotId, c.slots[i] ≠ none) : c.freeSlot = none := by
  simpa [Conditioner.freeSlot] using h

theorem Conditioner.freeSlot_eq_some {c : Conditioner} {i : SlotId} (hi : c.slots[i] = none) (hj : ∀ j : SlotId, j < i → c.slots[j] ≠ none) :
    c.freeSlot = some i := by
  refine List.find?_eq_some_iff_getElem.2 ⟨by simpa using hi, i.val, by simp, by simp, fun j hlt => ?_⟩
  simpa [Option.isSome_iff_ne_none] using hj ⟨j, by omega⟩ hlt

section
variable {s : State} {f : Frame} {rest : List Frame} (hb : s.uPort.buffer = f :: rest)
include hb

/-- Nothing to look up, or no slot for it. -/
theorem execLookup_waits (h : s.conditioned f = none ∨ s.conditioner.freeSlot = none) : execLookup s = .next s := by
  have hready : s.lookupReady = none := by
    unfold State.lookupReady
    rw [hb]
    obtain h | h := h
    · simp only [h]
    · simp only [h]
      cases s.conditioned f <;> rfl
  simp only [execLookup, hready]

variable {k : ContextId} {i : SlotId} (hk : s.conditioned f = some k) (hi : s.conditioner.freeSlot = some i)
include hk hi

theorem State.lookupReady_eq : s.lookupReady = some (f, rest, k, i) := by
  unfold State.lookupReady
  simp only [hb, hk, hi]

theorem execLookup_late (h : sequenceCheck (s.context k).expected f.seq = .late) :
    execLookup s = .next (({ s with uPort := { s.uPort with buffer := rest } } : State).countContext k fun c => { c with late := c.late + 1 }) := by
  simp only [execLookup, State.lookupReady_eq hb hk hi, h]

variable {gap : Nat} (h : sequenceCheck (s.context k).expected f.seq = .admitted gap)
include h

theorem execLookup_unbound (hc : (s.context k).curve = none) : execLookup s = .fault .condWithoutCurve := by
  simp only [execLookup, State.lookupReady_eq hb hk hi, h, hc]

theorem execLookup_admitted {curve : CurveId} (hc : (s.context k).curve = some curve) :
    execLookup s =
      .next ((({ s with uPort := { s.uPort with buffer := rest } } : State).countGap k f.addr gap).occupy k i curve f).startConversions := by
  simp only [execLookup, State.lookupReady_eq hb hk hi, h, hc]

end

/-- Settles O15: what LOOKUP finds decides whether it waits; the rows of its sequence check are its outcomes. -/
theorem lookupResult : Obligations.LookupResult := by
  refine ⟨fun s => ⟨fun hb => ?_, fun f rest hb => ⟨fun hd => ?_, fun _ hfull => ?_, fun k i hs hl hm hf hi hj => ?_⟩⟩, fun s k i curve f => rfl⟩
  · show execLookup s = .next s
    simp only [execLookup, State.lookupReady, hb]
  · exact execLookup_waits hb (.inl (State.conditioned_of_not_offered hd))
  · exact execLookup_waits hb (.inr (Conditioner.freeSlot_eq_none hfull))
  · have hk := State.conditioned_eq_some.2 ⟨hs, hl, hm, hf⟩
    have hslot := Conditioner.freeSlot_eq_some hi hj
    exact ⟨execLookup_late hb hk hslot, fun gap hadmitted =>
      ⟨execLookup_unbound hb hk hslot hadmitted, fun curve hc => execLookup_admitted hb hk hslot hadmitted hc⟩⟩

end Sys2Proof.Machine
end

section
/-! Conversion start: O16. -/

namespace Sys2Proof.Machine

/-! ### The eligible slot (04 R70) -/

namespace Conditioner
variable (c : Conditioner)

/-- A slot of the list is CONVERTING for the context. -/
def Converts (l : List SlotId) (k : ContextId) : Prop :=
  ∃ j ∈ l, ∃ v u, c.slots[j] = some v ∧ v.context = k ∧ v.phase = .converting u

variable {c}

theorem Converts.cons {l : List SlotId} {k : ContextId} (h : c.Converts l k) (i : SlotId) : c.Converts (i :: l) k := by
  obtain ⟨j, hj, hv⟩ := h
  exact ⟨j, List.mem_cons_of_mem i hj, hv⟩

/-- The search goes past a FREE slot and a READY one, and past a QUEUED one of a busy context; past a CONVERTING slot, whose context is busy from there on. -/
theorem eligible_cons (busy : List ContextId) (i : SlotId) (rest : List SlotId) :
    (∃ w, c.slots[i] = some w ∧ w.phase = .queued ∧ w.context ∉ busy ∧ c.eligible busy (i :: rest) = some i) ∨
    (∃ w u, c.slots[i] = some w ∧ w.phase = .converting u ∧ c.eligible busy (i :: rest) = c.eligible (w.context :: busy) rest) ∨
    ((∀ w, c.slots[i] = some w → w.phase = .queued ∧ w.context ∈ busy ∨ ∃ o q, w.phase = .ready o q) ∧
      c.eligible busy (i :: rest) = c.eligible busy rest) := by
  cases hw : c.slots[i] with
  | none => exact .inr (.inr ⟨by simp, by simp only [eligible, hw]⟩)
  | some w =>
    cases hp : w.phase with
    | queued =>
      by_cases hb : w.context ∈ busy
      · refine .inr (.inr ⟨?_, by simp only [eligible, hw, hp, if_pos hb]⟩)
        rintro _ ⟨⟩
        exact .inl ⟨hp, hb⟩
      · exact .inl ⟨w, rfl, hp, hb, by simp only [eligible, hw, hp, if_neg hb]⟩
    | converting u => exact .inr (.inl ⟨w, u, rfl, hp, by simp only [eligible, hw, hp]⟩)
    | ready o q =>
      refine .inr (.inr ⟨?_, by simp only [eligible, hw, hp]⟩)
      rintro _ ⟨⟩
      exact .inr ⟨o, q, hp⟩

/-- The slot found: QUEUED, of no busy context; before it the slots of its context are READY, and a QUEUED slot's context is busy or converts before it. -/
theorem eligible_eq_some {busy : List ContextId} {l : List SlotId} {i : SlotId} (h : c.eligible busy l = some i) :
    ∃ older younger w, l = older ++ i :: younger ∧ c.slots[i] = some w ∧ w.phase = .queued ∧ w.context ∉ busy ∧
      (∀ j ∈ older, ∀ v, c.slots[j] = some v → v.context = w.context → ∃ o q, v.phase = .ready o q) ∧
      ∀ j ∈ older, ∀ v, c.slots[j] = some v → v.phase = .queued → v.context ∈ busy ∨ c.Converts older v.context := by
  induction l generalizing busy with
  | nil => cases h
  | cons a rest ih =>
    obtain ⟨w, hw, hq, hb, e⟩ | ⟨x, u, hx, hp, e⟩ | ⟨hpast, e⟩ := c.eligible_cons busy a rest
    · rw [e] at h
      cases h
      exact ⟨[], rest, w, rfl, hw, hq, hb, by simp, by simp⟩
    · rw [e] at h
      obtain ⟨older, younger, w, rfl, hw, hq, hb, hready, hqueued⟩ := ih h
      rw [List.mem_cons, not_or] at hb
      refine ⟨a :: older, younger, w, rfl, hw, hq, hb.2, fun j hj v hv hk => ?_, fun j hj v hv hvq => ?_⟩
      · obtain rfl | hj := List.mem_cons.1 hj
        · rw [hx] at hv
          cases hv
          exact absurd hk.symm hb.1
        · exact hready j hj v hv hk
      · have hconverts : c.Converts (a :: older) x.context := ⟨a, List.mem_cons_self, x, u, hx, rfl, hp⟩
        obtain rfl | hj := List.mem_cons.1 hj
        · rw [hx] at hv
          cases hv
          exact .inr hconverts
        · obtain hmem | hc := hqueued j hj v hv hvq
          · obtain heq | hmem := List.mem_cons.1 hmem
            · exact .inr (heq ▸ hconverts)
            · exact .inl hmem
          · exact .inr (hc.cons a)
    · rw [e] at h
      obtain ⟨older, younger, w, rfl, hw, hq, hb, hready, hqueued⟩ := ih h
      refine ⟨a :: older, younger, w, rfl, hw, hq, hb, fun j hj v hv hk => ?_, fun j hj v hv hvq => ?_⟩
      · obtain rfl | hj := List.mem_cons.1 hj
        · obtain ⟨-, hmem⟩ | hr := hpast v hv
          · exact absurd (hk ▸ hmem) hb
          · exact hr
        · exact hready j hj v hv hk
      · obtain rfl | hj := List.mem_cons.1 hj
        · obtain ⟨-, hmem⟩ | ⟨o, q, hr⟩ := hpast v hv
          · exact .inl hmem
          · rw [hvq] at hr
            cases hr
        · exact (hqueued j hj v hv hvq).imp_right fun hc => hc.cons a

/-- With no slot found every QUEUED slot's context is busy or converts. -/
theorem eligible_eq_none {busy : List ContextId} {l : List SlotId} (h : c.eligible busy l = none) {i : SlotId} (hi : i ∈ l) {w : WorkSlot}
    (hw : c.slots[i] = some w) (hq : w.phase = .queued) : w.context ∈ busy ∨ c.Converts l w.context := by
  induction l generalizing busy with
  | nil => cases hi
  | cons a rest ih =>
    obtain ⟨v, -, -, -, e⟩ | ⟨x, u, hx, hp, e⟩ | ⟨hpast, e⟩ := c.eligible_cons busy a rest
    · rw [e] at h
      cases h
    · rw [e] at h
      obtain rfl | hi := List.mem_cons.1 hi
      · rw [hw] at hx
        cases hx
        rw [hq] at hp
        cases hp
      · obtain hmem | hc := ih h hi
        · obtain heq | hmem := List.mem_cons.1 hmem
          · exact .inr ⟨a, List.mem_cons_self, x, u, hx, heq.symm, hp⟩
          · exact .inl hmem
        · exact .inr (hc.cons a)
    · rw [e] at h
      obtain rfl | hi := List.mem_cons.1 hi
      · obtain ⟨-, hmem⟩ | ⟨o, q, hr⟩ := hpast w hw
        · exact .inl hmem
        · rw [hq] at hr
          cases hr
      · exact (ih h hi).imp_right fun hc => hc.cons a

/-! ### The unit taken (04 R70) -/

theorem idleUnit_zero (h : c.units[(0 : UnitId)] = none) : c.idleUnit = some 0 := if_pos h

theorem idleUnit_one (h0 : c.units[(0 : UnitId)] ≠ none) (h1 : c.units[(1 : UnitId)] = none) : c.idleUnit = some 1 := by
  rw [idleUnit, if_neg h0, if_pos h1]

theorem idleUnit_none (h : ∀ u : UnitId, c.units[u] ≠ none) : c.idleUnit = none := by
  rw [idleUnit, if_neg (h 0), if_neg (h 1)]

end Conditioner

/-! ### The starts of an event (04 R70) -/

theorem State.startOn_eq {s : State} {i : SlotId} {w : WorkSlot} (u : UnitId) (hi : s.conditioner.slots[i] = some w) :
    s.startOn u i = { s with conditioner := { s.conditioner with
      slots := vmod s.conditioner.slots i fun _ => some { w with phase := .converting u }
      units := vmod s.conditioner.units u fun _ => some ⟨i, .start (s.context w.context)⟩ } } := by
  unfold State.startOn
  rw [hi]

theorem State.startOne_of_none {s : State} (h : s.conditioner.idleUnit = none ∨ s.conditioner.eligible [] s.conditioner.age = none) :
    s.startOne = s := by
  unfold State.startOne
  obtain h | h := h
  · rw [h]
  · rw [h]
    cases s.conditioner.idleUnit <;> rfl

theorem State.startOne_of_some {s : State} {u : UnitId} {i : SlotId} (hu : s.conditioner.idleUnit = some u)
    (hi : s.conditioner.eligible [] s.conditioner.age = some i) : s.startOne = s.startOn u i := by
  unfold State.startOne
  rw [hu, hi]

/-- Nothing is left to start: no unit is IDLE, or no slot eligible. -/
def State.StartsDone (s : State) : Prop := s.conditioner.idleUnit = none ∨ s.conditioner.eligible [] s.conditioner.age = none

/-- A start that takes place makes an IDLE unit BUSY, and the other stays as it was. -/
theorem State.startOne_progress (s : State) :
    s.StartsDone ∨ ∃ u, s.conditioner.idleUnit = some u ∧ s.startOne.conditioner.units[u] ≠ none ∧
      ∀ v, v ≠ u → s.startOne.conditioner.units[v] = s.conditioner.units[v] := by
  cases hu : s.conditioner.idleUnit with
  | none => exact .inl (.inl hu)
  | some u =>
    cases hi : s.conditioner.eligible [] s.conditioner.age with
    | none => exact .inl (.inr hi)
    | some i =>
      obtain ⟨w, hw, -⟩ := s.conditioner.eligible_queued _ _ hi
      rw [State.startOne_of_some hu hi, State.startOn_eq u hw]
      exact .inr ⟨u, rfl, by simp, fun v hv => vmod_other _ _ (Ne.symm hv)⟩

/-- After two starts none is left: each that takes place makes another unit BUSY, and there are two. -/
theorem State.startConversions_done (s : State) : s.startConversions.StartsDone := by
  unfold State.startConversions
  have hstop {t : State} (h : t.StartsDone) : t.startOne.StartsDone := by rwa [State.startOne_of_none h]
  obtain h | ⟨u, hu, hbusy, hother⟩ := s.startOne_progress
  · exact hstop (hstop h)
  obtain h | ⟨v, hv, hbusy', hother'⟩ := s.startOne.startOne_progress
  · exact hstop h
  have hne : v ≠ u := by
    rintro rfl
    exact hbusy (Conditioner.idleUnit_eq_some hv)
  refine .inl (Conditioner.idleUnit_none fun x => ?_)
  by_cases hx : x = v
  · exact hx ▸ hbusy'
  · have hxu : x = u := (by decide : ∀ u v x : UnitId, v ≠ u → x ≠ v → x = u) u v x hne hx
    rw [hother' x hx, hxu]
    exact hbusy

/-- Settles O16: what the search for an eligible slot finds, what one start writes, and why two starts are all. -/
theorem conversionStart : Obligations.ConversionStart := by
  refine ⟨fun c i h => ?_, fun c h i hi w hw hq => ?_, fun s u i w hi => ?_, fun s => ⟨State.startOne_of_none, rfl⟩,
    fun c => ⟨Conditioner.idleUnit_zero, Conditioner.idleUnit_one, fun h0 h1 => Conditioner.idleUnit_none ?_⟩, State.startConversions_done⟩
  · obtain ⟨older, younger, w, hl, hw, hq, -, hready, hqueued⟩ := Conditioner.eligible_eq_some h
    exact ⟨older, younger, w, hl, hw, hq, hready, fun j hj v hv hvq => (hqueued j hj v hv hvq).resolve_left List.not_mem_nil⟩
  · exact (Conditioner.eligible_eq_none h hi hw hq).resolve_left List.not_mem_nil
  · exact ⟨State.startOn_eq u hi, fun hu he => (State.startOne_of_some hu he).trans (State.startOn_eq u hi)⟩
  · intro u
    match u with
    | 0 => exact h0
    | 1 => exact h1

end Sys2Proof.Machine
end

section
/-! The value of a sample on a curve: interpolation and bisection: O17. -/

namespace Sys2Proof.Machine

/-! ### Words read as integers -/

theorem Half.toInt_range (v : Half) : -32768 ≤ v.toInt ∧ v.toInt ≤ 32767 := by
  have hlow := v.le_toInt
  have hhigh := v.toInt_lt
  omega

theorem Half.toInt_ofInt {x : Int} (hlow : -32768 ≤ x) (hhigh : x ≤ 32767) : (BitVec.ofInt 16 x).toInt = x :=
  BitVec.toInt_ofInt_eq_self (by decide) hlow (Int.lt_add_one_of_le hhigh)

/-! ### Interpolation (04 R72) -/

/-- A quotient truncated toward zero lies between two bounds around 0 when the dividend lies between their multiples. -/
theorem tdiv_range {x d lo hi : Int} (hd : 0 < d) (hlo : lo ≤ 0) (hhi : 0 ≤ hi) (hlow : lo * d ≤ x) (hhigh : x ≤ hi * d) :
    lo ≤ x.tdiv d ∧ x.tdiv d ≤ hi := by
  have hpart {y m : Int} (hy : 0 ≤ y) (hm : y ≤ m * d) : 0 ≤ y.tdiv d ∧ y.tdiv d ≤ m := by
    refine ⟨Int.tdiv_nonneg hy hd.le, ?_⟩
    rw [Int.tdiv_eq_ediv_of_nonneg hy]
    exact Int.ediv_le_of_le_mul hd hm
  obtain hx | hx := Int.le_total 0 x
  · have := hpart hx hhigh
    omega
  · have := hpart (y := -x) (m := -lo) (by omega) (by rw [Int.neg_mul]; omega)
    rw [Int.neg_tdiv] at this
    omega

/-- A part of a difference, truncated toward zero, lies between 0 and the difference. -/
theorem tdiv_part_range {a d e : Int} (ha : 0 ≤ a) (had : a ≤ d) (hd : 0 < d) : min 0 e ≤ (a * e).tdiv d ∧ (a * e).tdiv d ≤ max 0 e := by
  refine tdiv_range hd (min_le_left 0 e) (le_max_left 0 e) ?_ ?_
  · obtain he | he := Int.le_total 0 e
    · rw [min_eq_left he, Int.zero_mul]
      exact Int.mul_nonneg ha he
    · rw [min_eq_right he]
      nlinarith
  · obtain he | he := Int.le_total 0 e
    · rw [max_eq_right he]
      nlinarith
    · rw [max_eq_left he, Int.zero_mul]
      exact Int.mul_nonpos_of_nonneg_of_nonpos ha he

/-- The value on a segment is the exact one, and lies between the y of its knots. -/
theorem interpolate_toInt {a b : Knot} {r : Half} (ha : a.x.toInt < r.toInt) (hb : r.toInt < b.x.toInt) :
    (interpolate a b r).toInt =
        a.y.toInt + ((r.toInt - a.x.toInt) * (b.y.toInt - a.y.toInt)).tdiv (b.x.toInt - a.x.toInt) ∧
      min a.y.toInt b.y.toInt ≤ (interpolate a b r).toInt ∧ (interpolate a b r).toInt ≤ max a.y.toInt b.y.toInt := by
  obtain ⟨hlow, hhigh⟩ := tdiv_part_range (a := r.toInt - a.x.toInt) (d := b.x.toInt - a.x.toInt) (e := b.y.toInt - a.y.toInt)
    (by omega) (by omega) (by omega)
  have hya := Half.toInt_range a.y
  have hyb := Half.toInt_range b.y
  have hexact : (interpolate a b r).toInt = _ := Half.toInt_ofInt (by omega) (by omega)
  rw [hexact]
  exact ⟨rfl, by omega, by omega⟩

/-! ### Knots of increasing x (03 R47) -/

/-- The x of each of `n` knots is less than that of the next. -/
def KnotsIncrease (knot : Nat → Knot) (n : Nat) : Prop := ∀ i, i + 1 < n → (knot i).x.toInt < (knot (i + 1)).x.toInt

section
variable {knot : Nat → Knot} {n : Nat} (hx : KnotsIncrease knot n)
include hx

theorem KnotsIncrease.lt {i j : Nat} (hij : i < j) (hj : j < n) : (knot i).x.toInt < (knot j).x.toInt := by
  induction j, hij using Nat.le_induction with
  | base => exact hx i hj
  | succ j _ ih => exact (ih (by omega)).trans (hx j hj)

theorem KnotsIncrease.le {i j : Nat} (hij : i ≤ j) (hj : j < n) : (knot i).x.toInt ≤ (knot j).x.toInt := by
  obtain rfl | hlt := Nat.eq_or_lt_of_le hij
  · exact Int.le_refl _
  · exact (hx.lt hlt hj).le

theorem KnotsIncrease.index_lt {i j : Nat} (hi : i < n) (h : (knot i).x.toInt < (knot j).x.toInt) : i < j := by
  by_contra hle
  obtain hlt | rfl := Nat.lt_or_eq_of_le (Nat.not_lt.1 hle)
  · exact absurd h (hx.lt hlt hi).asymm
  · exact absurd h (Int.lt_irrefl _)

theorem KnotsIncrease.index_eq {i j : Nat} (hi : i < n) (hj : j < n) (h : (knot i).x.toInt = (knot j).x.toInt) : i = j := by
  obtain hlt | rfl | hlt := Nat.lt_trichotomy i j
  · exact absurd h (hx.lt hlt hj).ne
  · rfl
  · exact absurd h.symm (hx.lt hlt hi).ne

end

/-! ### Bisection (04 R71) -/

/-- A bisection holds two of the curve's `n` knots with the sample strictly between them. -/
structure Search.Brackets (q : Search) (knot : Nat → Knot) (n : Nat) (r : Half) : Prop where
  order : q.lo < q.hi
  within : q.hi < n
  loKnot : q.loKnot = knot q.lo
  hiKnot : q.hiKnot = knot q.hi
  lower : (knot q.lo).x.toInt < r.toInt
  upper : r.toInt < (knot q.hi).x.toInt

/-- What a search between two knots comes to: a knot's y at its x, else the interpolated value of the segment that contains the sample. -/
structure FoundBetween (knot : Nat → Knot) (r : Half) (lo hi : Nat) (x : Option (Clamp × Half)) : Prop where
  atKnot : ∀ i, lo < i → i < hi → r.toInt = (knot i).x.toInt → x = some (.none, (knot i).y)
  onSegment : ∀ i, lo ≤ i → i + 1 ≤ hi → (knot i).x.toInt < r.toInt → r.toInt < (knot (i + 1)).x.toInt →
    x = some (.none, interpolate (knot i) (knot (i + 1)) r)

@[simp] theorem searchRun_value (knot : Nat → Knot) (r : Half) (fuel : Nat) (c : Clamp) (v : Half) :
    searchRun knot r fuel (.value c v) = some (c, v) := by
  cases fuel <;> rfl

section
variable {knot : Nat → Knot} {n : Nat} {q : Search} {r : Half}

/-- A segment found holds no other knot, and is the only one that contains the sample. -/
theorem Search.Brackets.adjacent (h : q.Brackets knot n r) (hadj : q.hi = q.lo + 1) :
    FoundBetween knot r q.lo q.hi (some (.none, interpolate q.loKnot q.hiKnot r)) where
  atKnot i hlo hhi _ := by omega
  onSegment i hlo hhi _ _ := by
    obtain rfl : i = q.lo := by omega
    rw [h.loKnot, h.hiKnot, hadj]

variable (hx : KnotsIncrease knot n)
include hx

/-- A knot of the curve at the sample is the only one, and no segment contains the sample. -/
theorem KnotsIncrease.found_knot {j lo hi : Nat} (hj : j < n) (hhi : hi < n) (e : (knot j).x.toInt = r.toInt) :
    FoundBetween knot r lo hi (some (.none, (knot j).y)) where
  atKnot i _ hlt hr := by rw [hx.index_eq hj (by omega) (e.trans hr)]
  onSegment i _ hle hlower hupper := by
    rw [← e] at hlower hupper
    have hlt := hx.index_lt (by omega) hlower
    have hgt := hx.index_lt hj hupper
    omega

/-- What is found between two knots that hold the sample is found between knots further apart. -/
theorem FoundBetween.widen {x : Option (Clamp × Half)} (h : q.Brackets knot n r) {lo hi : Nat} (hn : hi < n)
    (hf : FoundBetween knot r q.lo q.hi x) : FoundBetween knot r lo hi x where
  atKnot i _ hlt hr := by
    have hlower := h.lower
    have hupper := h.upper
    rw [hr] at hlower hupper
    have hwithin := h.within
    have horder := h.order
    exact hf.atKnot i (hx.index_lt (by omega) hlower) (hx.index_lt (by omega) hupper) hr
  onSegment i _ _ hlower hupper := by
    have hwithin := h.within
    have horder := h.order
    have hlt := hx.index_lt (by omega) (h.lower.trans hupper)
    have hgt := hx.index_lt (by omega) (hlower.trans h.upper)
    exact hf.onSegment i (by omega) (by omega) hlower hupper

/-- A bisection between indices at most 2 to the power of the fuel apart ends: each read halves the distance. -/
theorem Search.Brackets.found (h : q.Brackets knot n r) {fuel : Nat} (hfuel : q.hi - q.lo ≤ 2 ^ fuel) :
    FoundBetween knot r q.lo q.hi (searchRun knot r fuel (q.narrow r)) := by
  induction fuel generalizing q with
  | zero =>
    have horder := h.order
    rw [Search.narrow, if_neg (by omega), searchRun_value]
    exact h.adjacent (by omega)
  | succ fuel ih =>
    obtain ⟨horder, hwithin, hloKnot, hhiKnot, hlower, hupper⟩ := h
    by_cases hgap : q.lo + 1 < q.hi
    · have hlo : q.lo < q.mid := by unfold Search.mid; omega
      have hhi : q.mid < q.hi := by unfold Search.mid; omega
      have hhalf : q.hi - q.mid ≤ 2 ^ fuel ∧ q.mid - q.lo ≤ 2 ^ fuel := by
        rw [Nat.pow_succ] at hfuel
        unfold Search.mid
        omega
      rw [Search.narrow, if_pos hgap, searchRun, Search.step]
      split
      next e =>
        rw [searchRun_value]
        exact hx.found_knot (hhi.trans hwithin) hwithin e
      next hne =>
        split
        next hbelow =>
          have hq : Search.Brackets { q with lo := q.mid, loKnot := knot q.mid } knot n r := ⟨hhi, hwithin, rfl, hhiKnot, hbelow, hupper⟩
          exact (ih hq hhalf.1).widen hx hq hwithin
        next habove =>
          have hq : Search.Brackets { q with hi := q.mid, hiKnot := knot q.mid } knot n r :=
            ⟨hlo, hhi.trans hwithin, hloKnot, rfl, hlower, lt_of_le_of_ne (Int.not_lt.1 habove) (Ne.symm hne)⟩
          exact (ih hq hhalf.2).widen hx hq hwithin
    · rw [Search.narrow, if_neg hgap, searchRun_value]
      exact Search.Brackets.adjacent ⟨horder, hwithin, hloKnot, hhiKnot, hlower, hupper⟩ (by omega)

end

/-! ### The search of a sample (04 R71, R72) -/

section
variable {knot : Nat → Knot} {n : Nat} {r : Half}

theorem searchStart_low {first last : Knot} (h : r.toInt < first.x.toInt) : searchStart first last n r = .value .low first.y := if_pos h

theorem searchStart_first {first last : Knot} (h : r.toInt = first.x.toInt) : searchStart first last n r = .value .none first.y := by
  unfold searchStart
  dsimp only
  rw [if_neg (by omega), if_pos h]

/-- A sample between the end knots is searched for from both of them. -/
theorem searchStart_between {first last : Knot} (hlow : first.x.toInt < r.toInt) (hhigh : r.toInt < last.x.toInt) :
    searchStart first last n r = Search.narrow ⟨0, n - 1, first, last⟩ r := by
  unfold searchStart
  dsimp only
  rw [if_neg (by omega), if_neg (by omega), if_neg (by omega), if_neg (by omega)]

section
variable {first last : Knot} (hends : first.x.toInt < last.x.toInt)
include hends

theorem searchStart_high (h : last.x.toInt < r.toInt) : searchStart first last n r = .value .high last.y := by
  unfold searchStart
  dsimp only
  rw [if_neg (by omega), if_neg (by omega), if_pos h]

theorem searchStart_last (h : r.toInt = last.x.toInt) : searchStart first last n r = .value .none last.y := by
  unfold searchStart
  dsimp only
  rw [if_neg (by omega), if_neg (by omega), if_neg (by omega), if_pos h]

end

/-- The search of a sample between the end knots of 2..64 ends within six reads. -/
theorem searchStart_found (hx : KnotsIncrease knot n) (h2 : 2 ≤ n) (h64 : n ≤ 64) (hlow : (knot 0).x.toInt < r.toInt)
    (hhigh : r.toInt < (knot (n - 1)).x.toInt) :
    FoundBetween knot r 0 (n - 1) (searchRun knot r 6 (searchStart (knot 0) (knot (n - 1)) n r)) := by
  have hpos : 0 < n - 1 := by omega
  have hlt : n - 1 < n := by omega
  have hq : Search.Brackets ⟨0, n - 1, knot 0, knot (n - 1)⟩ knot n r := ⟨hpos, hlt, rfl, rfl, hlow, hhigh⟩
  rw [searchStart_between hlow hhigh]
  exact hq.found hx (show n - 1 - 0 ≤ 64 by omega)

end

/-- Settles O17: the search begins at or beyond an end knot with its value; between them the bisection finds knot or segment. -/
theorem convertedValue : Obligations.ConvertedValue := by
  refine ⟨fun a b r ha hb => interpolate_toInt ha hb, fun knot n r h2 h64 hx => ?_⟩
  have hx : KnotsIncrease knot n := hx
  have hends : (knot 0).x.toInt < (knot (n - 1)).x.toInt := hx.lt (by omega) (by omega)
  intro result
  have hstart {c : Clamp} {v : Half} (e : searchStart (knot 0) (knot (n - 1)) n r = .value c v) : result = some (c, v) :=
    (congrArg (searchRun knot r 6) e).trans (searchRun_value ..)
  refine ⟨fun h => hstart (searchStart_low h), fun h => hstart (searchStart_high hends h), fun i hi h => ?_, fun i hi hlower hupper => ?_⟩
  · obtain rfl | hfirst := Nat.eq_zero_or_pos i
    · exact hstart (searchStart_first h)
    obtain rfl | hlast := Nat.eq_or_lt_of_le (Nat.le_sub_one_of_lt hi)
    · exact hstart (searchStart_last hends h)
    · exact (searchStart_found hx h2 h64 (h ▸ hx.lt hfirst hi) (h ▸ hx.lt hlast (by omega))).atKnot i hfirst hlast h
  · have hlow := (hx.le (Nat.zero_le i) (by omega)).trans_lt hlower
    have hhigh := hupper.trans_le (hx.le (Nat.le_sub_one_of_lt hi) (by omega))
    exact (searchStart_found hx h2 h64 hlow hhigh).onSegment i (Nat.zero_le i) (by omega) hlower hupper

end Sys2Proof.Machine
end

section
/-! The limit check and decimation: O18, O19. -/

namespace Sys2Proof.Machine

/-! ### The limit check (04 R73) -/

theorem LimitRecord.ok_iff (b : LimitRecord) : b.ok = true ↔ b.low.toInt ≤ b.high.toInt ∧ b.hysteresis.toNat ≤ 4095 := by
  simp [LimitRecord.ok]

section
variable {w : Working} (v : Half)

/-- No check is made without a limit record. -/
theorem Working.check_of_none (h : w.limits = none) : w.check v = w := by
  unfold Working.check
  rw [h]

/-- A value that keeps the state leaves the working record as it is. -/
theorem Working.check_of_kept {l : Limits} (hl : w.limits = some l) (h : limitAfter l.bounds l.state v = l.state) : w.check v = w := by
  unfold Working.check
  rw [hl]
  simp only [h, if_true]
  rw [← hl]

/-- A transition moves the limit state and is appended. -/
theorem Working.check_of_transition {l : Limits} (hl : w.limits = some l) (h : limitAfter l.bounds l.state v ≠ l.state) :
    w.check v = { w with
      limits := some ⟨l.bounds, limitAfter l.bounds l.state v⟩
      transitions := w.transitions ++ [⟨limitAfter l.bounds l.state v, v⟩] } := by
  unfold Working.check
  rw [hl]
  simp only [if_neg h]

/-- What a check moves depends on the limit state and the transitions alone. -/
theorem Working.check_congr {x : Working} (hl : x.limits = w.limits) (ht : x.transitions = w.transitions) :
    (x.check v).limits = (w.check v).limits ∧ (x.check v).transitions = (w.check v).transitions := by
  unfold Working.check
  rw [hl]
  cases hw : w.limits with
  | none => exact ⟨hl, ht⟩
  | some l => exact ⟨rfl, by rw [ht]⟩

end

/-- The accumulator, the counts and the outputs are no matter of a check. -/
theorem Working.check_frame (w : Working) (v : Half) : ∃ l t, w.check v = { w with limits := l, transitions := t } := by
  unfold Working.check
  split
  · exact ⟨w.limits, w.transitions, rfl⟩
  · exact ⟨_, _, rfl⟩

/-! ### Decimation (04 R74) -/

section
variable {w : Working} {n : Nat} {v : Half}

theorem Working.accumulate_full (h : w.acc.count + 1 = n) :
    w.accumulate n v = { w with
      acc := .empty
      outputs := w.outputs ++ [⟨average (w.acc.sum + v.toInt) n, sampleFlags w.acc.clampLow w.acc.clampHigh w.limits⟩] } := if_pos h

theorem Working.accumulate_more (h : w.acc.count + 1 ≠ n) :
    w.accumulate n v = { w with acc := { w.acc with sum := w.acc.sum + v.toInt, count := w.acc.count + 1 } } := if_neg h

end

/-- A clamp changes its count and its carried flag (04 R72). -/
theorem Working.clamp_eq (w : Working) (clamp : Clamp) :
    w.clamp clamp = { w with
      clampedLow := w.clampedLow + (if clamp = .low then 1 else 0)
      clampedHigh := w.clampedHigh + (if clamp = .high then 1 else 0)
      acc := { w.acc with clampLow := w.acc.clampLow || clamp == .low, clampHigh := w.acc.clampHigh || clamp == .high } } := by
  cases clamp <;> simp [Working.clamp, beq_eq_decide]

/-- A value clamped and checked, before it is added. -/
theorem Working.check_clamp (w : Working) (clamp : Clamp) (v : Half) :
    (w.clamp clamp).check v = { w with
      clampedLow := w.clampedLow + (if clamp = .low then 1 else 0)
      clampedHigh := w.clampedHigh + (if clamp = .high then 1 else 0)
      acc := { w.acc with clampLow := w.acc.clampLow || clamp == .low, clampHigh := w.acc.clampHigh || clamp == .high }
      limits := (w.check v).limits
      transitions := (w.check v).transitions } := by
  obtain ⟨l, t, e⟩ := (w.clamp clamp).check_frame v
  obtain ⟨hl, ht⟩ := Working.check_congr v (w := w) (x := w.clamp clamp) (by rw [Working.clamp_eq]) (by rw [Working.clamp_eq])
  rw [e] at hl ht
  rw [e, ← hl, ← ht, Working.clamp_eq]

section
variable {w : Working} {n : Nat} (clamp : Clamp) (v : Half)

/-- The value that brings the count to N: an output, and an empty accumulator. -/
theorem Working.take_full (h : w.acc.count + 1 = n) :
    w.take n clamp v = { w with
      clampedLow := w.clampedLow + (if clamp = .low then 1 else 0)
      clampedHigh := w.clampedHigh + (if clamp = .high then 1 else 0)
      acc := .empty
      outputs := w.outputs ++ [⟨average (w.acc.sum + v.toInt) n,
        sampleFlags (w.acc.clampLow || clamp == .low) (w.acc.clampHigh || clamp == .high) (w.check v).limits⟩]
      limits := (w.check v).limits
      transitions := (w.check v).transitions
      next := w.next + 1
      search := none } := by
  unfold Working.take
  rw [Working.accumulate_full (w := (w.clamp clamp).check v) (by simpa using h), Working.check_clamp]

/-- Any other value is added. -/
theorem Working.take_more (h : w.acc.count + 1 ≠ n) :
    w.take n clamp v = { w with
      clampedLow := w.clampedLow + (if clamp = .low then 1 else 0)
      clampedHigh := w.clampedHigh + (if clamp = .high then 1 else 0)
      acc := ⟨w.acc.sum + v.toInt, w.acc.count + 1, w.acc.clampLow || clamp == .low, w.acc.clampHigh || clamp == .high⟩
      limits := (w.check v).limits
      transitions := (w.check v).transitions
      next := w.next + 1
      search := none } := by
  unfold Working.take
  rw [Working.accumulate_more (w := (w.clamp clamp).check v) (by simpa using h), Working.check_clamp]

end

/-- What every value taken writes alike, the last of a group or not. -/
theorem Working.take_frame (w : Working) (n : Nat) (clamp : Clamp) (v : Half) :
    (w.take n clamp v).limits = (w.check v).limits ∧ (w.take n clamp v).transitions = (w.check v).transitions ∧
      (w.take n clamp v).next = w.next + 1 ∧ (w.take n clamp v).search = none ∧
      (w.take n clamp v).clampedLow = w.clampedLow + (if clamp = .low then 1 else 0) ∧
      (w.take n clamp v).clampedHigh = w.clampedHigh + (if clamp = .high then 1 else 0) := by
  by_cases h : w.acc.count + 1 = n
  · rw [Working.take_full clamp v h]
    exact ⟨rfl, rfl, rfl, rfl, rfl, rfl⟩
  · rw [Working.take_more clamp v h]
    exact ⟨rfl, rfl, rfl, rfl, rfl, rfl⟩

/-- c values taken at a count a below N give (a + c) div N outputs and leave (a + c) mod N (04 R74). -/
theorem takeAll_counts {n : Nat} {w : Working} (h : w.acc.count < n) (values : List (Clamp × Half)) :
    (takeAll n w values).outputs.length = w.outputs.length + (w.acc.count + values.length) / n ∧
    (takeAll n w values).acc.count = (w.acc.count + values.length) % n ∧
    (takeAll n w values).next = w.next + values.length := by
  induction values generalizing w with
  | nil => simp [takeAll, Nat.div_eq_of_lt h, Nat.mod_eq_of_lt h]
  | cons x rest ih =>
    have hrest : takeAll n w (x :: rest) = takeAll n (w.take n x.1 x.2) rest := rfl
    obtain ⟨-, -, hnext, -⟩ := w.take_frame n x.1 x.2
    obtain ⟨ho, ha, hnext'⟩ := ih (Working.take_count h x.1 x.2)
    rw [hrest, ho, ha, hnext', hnext, List.length_cons]
    by_cases hn : w.acc.count + 1 = n
    · have hacc : (w.take n x.1 x.2).acc.count = 0 := by rw [Working.take_full _ _ hn]; rfl
      have hout : (w.take n x.1 x.2).outputs.length = w.outputs.length + 1 := by rw [Working.take_full _ _ hn]; simp
      have hcount : w.acc.count + (rest.length + 1) = rest.length + n := by omega
      rw [hacc, hout, hcount, Nat.add_div_right _ (Nat.zero_lt_of_lt h), Nat.add_mod_right, Nat.zero_add]
      exact ⟨by omega, rfl, by omega⟩
    · have hacc : (w.take n x.1 x.2).acc.count = w.acc.count + 1 := by rw [Working.take_more _ _ hn]
      have hout : (w.take n x.1 x.2).outputs = w.outputs := by rw [Working.take_more _ _ hn]
      rw [hacc, hout, Nat.add_right_comm, Nat.add_assoc]
      exact ⟨rfl, rfl, by omega⟩

/-! ### What decimation and the limit check come to -/

/-- Settles O18: the rows are the branches of the check, which exclude each other for L at most H. -/
theorem limitCheckTable : Obligations.LimitCheckTable := by
  refine ⟨fun b v hok => ?_, fun w v => ⟨Working.check_of_none v, fun l hl => ⟨Working.check_of_kept v hl, Working.check_of_transition v hl⟩⟩,
    fun w n clamp v => ?_, by decide⟩
  · intro x low high h
    have hlh : low ≤ high := (b.ok_iff.1 hok).1
    exact ⟨fun ha => if_pos ha, fun hb => (if_neg (by omega)).trans (if_pos hb), fun ha hb => (if_neg ha).trans (if_neg hb),
      fun hb => if_pos hb, fun hn hl => (if_neg (by omega)).trans (if_pos ⟨hn, hl⟩), fun hb hn => (if_neg hb).trans (if_neg fun hc => hn hc.1),
      fun ha => if_pos ha, fun hl hn => (if_neg (by omega)).trans (if_pos ⟨hl, hn⟩), fun ha hl => (if_neg ha).trans (if_neg fun hc => hl hc.1)⟩
  · obtain ⟨hl, ht, -⟩ := w.take_frame n clamp v
    exact ⟨hl, ht⟩

/-- The flag byte's bits: the clamps, then the limit state (01 Table 1-6). -/
theorem sampleFlags_bits (low high : Bool) (limits : Option Limits) :
    (sampleFlags low high limits).getLsbD 0 = low ∧ (sampleFlags low high limits).getLsbD 1 = high ∧
      (sampleFlags low high limits).toNat / 4 = ((limits.elim LimitState.normal Limits.state).code).toNat := by
  unfold sampleFlags
  generalize limits.elim LimitState.normal Limits.state = state
  revert low high
  cases state <;> decide

/-- Settles O19: the counts by induction on the values; one value by its two cases. -/
theorem decimationRule : Obligations.DecimationRule := by
  refine ⟨fun n w values h => takeAll_counts h values, fun n w clamp v => ?_, sampleFlags_bits, fun n sum h1 h16 hlow hhigh => ?_, ⟨rfl, rfl, rfl⟩⟩
  · obtain ⟨hl, -, -, -, hclow, hchigh⟩ := w.take_frame n clamp v
    intro x sum low high
    refine ⟨fun h => ?_, fun h => ?_, hclow, hchigh⟩
    · rw [show x.limits = _ from hl, show x = _ from Working.take_full clamp v h]
      exact ⟨rfl, rfl⟩
    · rw [show x = _ from Working.take_more clamp v h]
      exact ⟨rfl, rfl⟩
  · obtain ⟨hlo, hhi⟩ := tdiv_range (x := sum) (d := n) (lo := -32768) (hi := 32767) (by omega) (by omega) (by omega) hlow hhigh
    exact ⟨Half.toInt_ofInt hlo hhi, by omega, by omega⟩

end Sys2Proof.Machine
end

section
/-! Conversion end: what it does to slots and units, what it commits, and which period brings it about: O20, O21. -/

namespace Sys2Proof.Machine

/-! ### Slots and units at a conversion end -/

/-- From `x` to `y` an occupied slot holds what it held, its phase apart, or is FREE, and a unit works on as it was, or was IDLE and starts. -/
structure Conditioner.Moves (x y : Conditioner) : Prop where
  slot : ∀ (i : SlotId) (v : WorkSlot), y.slots[i] = some v → ∃ w, x.slots[i] = some w ∧ v = { w with phase := v.phase }
  unit : ∀ u : UnitId, y.units[u] = x.units[u] ∨ x.units[u] = none ∧ ∃ i c, y.units[u] = some ⟨i, .start c⟩

namespace Conditioner.Moves
variable {x y z : Conditioner}

theorem refl (x : Conditioner) : x.Moves x := ⟨fun _ w hw => ⟨w, hw, rfl⟩, fun _ => .inl rfl⟩

theorem trans (h : x.Moves y) (h' : y.Moves z) : x.Moves z where
  slot i v hv := by
    obtain ⟨w, hw, e⟩ := h'.slot i v hv
    obtain ⟨w', hw', e'⟩ := h.slot i w hw
    exact ⟨w', hw', by rw [e, e']⟩
  unit u := by
    obtain e' | ⟨hn', hs'⟩ := h'.unit u
    · rw [e']
      exact h.unit u
    · obtain e | ⟨-, i, c, hs⟩ := h.unit u
      · exact .inr ⟨e ▸ hn', hs'⟩
      · rw [hs] at hn'
        cases hn'

theorem free (x : Conditioner) (i : SlotId) : x.Moves (x.free i) where
  slot j v hv := by
    have hv' : (vmod x.slots i fun _ => none)[j] = some v := hv
    rw [vmod_getElem] at hv'
    split at hv'
    · cases hv'
    · exact ⟨v, hv', rfl⟩
  unit _ := .inl rfl

/-- A slot's phase written. -/
theorem phase {i : SlotId} {w : WorkSlot} (p : SlotPhase) (hi : x.slots[i] = some w) (hs : y.slots = vmod x.slots i fun _ => some { w with phase := p })
    (hu : ∀ u : UnitId, y.units[u] = x.units[u] ∨ x.units[u] = none ∧ ∃ i c, y.units[u] = some ⟨i, .start c⟩) : x.Moves y where
  slot j v hv := by
    rw [hs, vmod_getElem] at hv
    split at hv
    next e =>
      cases hv
      exact ⟨w, e ▸ hi, rfl⟩
    next => exact ⟨v, hv, rfl⟩
  unit := hu

end Conditioner.Moves

section
variable (s : State)

theorem State.releaseSlot_moves (i : SlotId) : s.conditioner.Moves (s.releaseSlot i).conditioner := by
  cases hi : s.conditioner.slots[i] with
  | none =>
    unfold State.releaseSlot
    rw [hi]
    exact .refl _
  | some w =>
    rw [State.releaseSlot_conditioner hi]
    exact .free _ i

theorem State.enterCq_moves : s.conditioner.Moves s.enterCq.conditioner := by
  unfold State.enterCq
  split
  next i w f _ =>
    split
    · exact ({ s with merger := { s.merger with cq := s.merger.cq ++ [(⟨f, w.context⟩ : CqEntry)] } } : State).releaseSlot_moves i
    · exact .refl _
  · exact .refl _

theorem State.startOne_moves : s.conditioner.Moves s.startOne.conditioner := by
  obtain e | ⟨u, i, w, hu, -, hi, -, e⟩ := s.startOne_cases
  · rw [e]
    exact .refl _
  · rw [e, State.startOn_eq u hi]
    refine .phase (.converting u) hi rfl fun v => ?_
    show (vmod s.conditioner.units u fun _ => some ⟨i, .start (s.context w.context)⟩)[v] = _ ∨ _ ∧ ∃ i c, (vmod s.conditioner.units u _)[v] = _
    rw [vmod_getElem]
    split
    next huv =>
      subst huv
      exact .inr ⟨Conditioner.idleUnit_eq_some hu, i, _, rfl⟩
    next => exact .inl rfl

theorem State.startConversions_moves : s.conditioner.Moves s.startConversions.conditioner :=
  s.startOne_moves.trans s.startOne.startOne_moves

theorem State.settleSlot_moves {s : State} {i : SlotId} {w : WorkSlot} (outputs : List Output) (hi : s.conditioner.slots[i] = some w) :
    s.conditioner.Moves (s.settleSlot i w outputs).conditioner := by
  have hready : s.conditioner.Moves (s.makeReady i w outputs).conditioner := .phase _ hi rfl fun _ => .inl rfl
  unfold State.settleSlot
  dsimp only
  split
  · exact s.releaseSlot_moves i
  · split
    · exact hready.trans (State.enterCq_moves _)
    · exact hready

end

/-! ### The end of a conversion whose work is done (04 R76, R77) -/

theorem State.unitDone_iff {s : State} {u : UnitId} : s.unitDone u = true ↔
    ∃ b w, s.busySlot u = some (b, w) ∧ b.work.wants (s.curve w.curve).knots = none ∧ b.work.next = w.samples.length := by
  unfold State.unitDone
  cases hb : s.busySlot u with
  | none => simp
  | some p =>
    obtain ⟨b, w⟩ := p
    simp only [Bool.and_eq_true, beq_iff_eq, Option.some.injEq, Prod.mk.injEq]
    constructor
    · exact fun h => ⟨b, w, ⟨rfl, rfl⟩, h⟩
    · rintro ⟨_, _, ⟨rfl, rfl⟩, h⟩
      exact h

theorem State.endConversion_done {s : State} {u : UnitId} {b : BusyUnit} {w : WorkSlot} (hb : s.busySlot u = some (b, w)) (hd : s.unitDone u = true) :
    s.endConversion u = (((s.commit w b.work).idleUnit u).settleSlot b.slot w b.work.outputs).startConversions := by
  unfold State.endConversion
  rw [if_pos hd, hb]

/-- A conversion end makes its unit IDLE; what else it brings about moves slots to other phases, and starts conversions on IDLE units. -/
theorem State.endConversion_moves {s : State} {u : UnitId} (hd : s.unitDone u = true) :
    (s.idleUnit u).conditioner.Moves (s.endConversion u).conditioner := by
  obtain ⟨b, w, hb, -⟩ := State.unitDone_iff.1 hd
  have hcommit : ((s.commit w b.work).idleUnit u).conditioner = (s.idleUnit u).conditioner := by
    unfold State.idleUnit
    rw [State.commit_conditioner]
  have hslot : ((s.commit w b.work).idleUnit u).conditioner.slots[b.slot] = some w := by
    rw [hcommit]
    exact (State.busySlot_iff.1 hb).2
  rw [State.endConversion_done hb hd, ← hcommit]
  exact (State.settleSlot_moves b.work.outputs hslot).trans (State.startConversions_moves _)

/-- A unit that has just started has its first knot to read. -/
theorem State.not_unitDone_of_start {s : State} {u : UnitId} {i : SlotId} {c : Context} (h : s.conditioner.units[u] = some ⟨i, .start c⟩) :
    s.unitDone u = false := by
  refine Bool.eq_false_iff.2 fun hd => ?_
  obtain ⟨b, w, hb, hwants, -⟩ := State.unitDone_iff.1 hd
  have hu := (State.busySlot_iff.1 hb).1
  rw [h] at hu
  cases hu
  cases hwants

/-- Moves bring no unit's work to its end: a slot that is still occupied has its samples, and a unit that starts has all its knots to read. -/
theorem Conditioner.Moves.not_unitDone {s t : State} (h : s.conditioner.Moves t.conditioner) {u : UnitId} (hd : s.unitDone u = false) :
    t.unitDone u = false := by
  obtain e | ⟨-, i, c, hstart⟩ := h.unit u
  · refine Bool.eq_false_iff.2 fun ht => ?_
    obtain ⟨b, v, hb, hwants, hnext⟩ := State.unitDone_iff.1 ht
    obtain ⟨hbu, hv⟩ := State.busySlot_iff.1 hb
    obtain ⟨w, hw, hvw⟩ := h.slot b.slot v hv
    have hwants' : b.work.wants (s.curve w.curve).knots = none := by
      have hsame := b.work.wants_isNone (s.curve w.curve).knots (t.curve v.curve).knots
      rw [hwants] at hsame
      exact beq_iff_eq.1 hsame
    have hdone : s.unitDone u = true :=
      State.unitDone_iff.2 ⟨b, w, State.busySlot_iff.2 ⟨e ▸ hbu, hw⟩, hwants', hnext.trans (by rw [hvw])⟩
    rw [hd] at hdone
    cases hdone
  · exact State.not_unitDone_of_start hstart

/-- An IDLE unit has no work done, and the other unit's work is as it was. -/
theorem State.idleUnit_not_unitDone {s : State} {u v : UnitId} (h : v = u ∨ s.unitDone v = false) : (s.idleUnit u).unitDone v = false := by
  by_cases huv : u = v
  · exact State.unitDone_of_idle (by rw [← huv]; exact vmod_self ..)
  · have hunit : (s.idleUnit u).conditioner.units[v] = s.conditioner.units[v] := vmod_other _ _ huv
    have hbusy : (s.idleUnit u).busySlot v = s.busySlot v := by
      unfold State.busySlot
      rw [hunit]
      rfl
    unfold State.unitDone
    rw [hbusy]
    exact h.resolve_left (Ne.symm huv)

/-- Once its conversion has ended a unit's work is not done, and neither is that of a unit whose work was not. -/
theorem State.endConversion_not_unitDone {s : State} {u v : UnitId} (hd : s.unitDone u = true) (h : v = u ∨ s.unitDone v = false) :
    (s.endConversion u).unitDone v = false :=
  (State.endConversion_moves hd).not_unitDone (State.idleUnit_not_unitDone h)

/-! ### CONVERSION_END and the periods (04 R75) -/

theorem execConversionEnd_idle {s : State} {u : UnitId} (h : s.conditioner.units[u] = none) : exec (.conversionEnd u.val) s = .next s := by
  show execConversionEnd u.val s = .next s
  rw [execConversionEnd, dif_pos u.isLt, if_pos h]

/-- A BUSY unit's periods pass until its work is done, and its conversion ends. -/
theorem execConversionEnd_busy {s : State} {u : UnitId} (h : s.conditioner.units[u] ≠ none) :
    exec (.conversionEnd u.val) s = .next ((s.passUntil (fun t => t.unitDone u) 151).endConversion u) := by
  show execConversionEnd u.val s = _
  rw [execConversionEnd, dif_pos u.isLt, if_neg h]
  rfl

/-- The end that is due first in a period may as well come before the period: nothing else is due earlier, and it leaves nothing due anew. -/
theorem State.accessPeriod_of_unitDone {s : State} {u : UnitId} (hd : s.unitDone u = true) (h0 : u = 1 → s.unitDone 0 = false) :
    s.accessPeriod = (s.endConversion u).accessPeriod := by
  unfold State.accessPeriod State.endDue
  match u with
  | 0 => rw [State.endConversion_of_not_done (State.endConversion_not_unitDone hd (.inl rfl))]
  | 1 =>
    have hzero := h0 rfl
    rw [State.endConversion_of_not_done hzero, State.endConversion_of_not_done (State.endConversion_not_unitDone hd (.inr hzero)),
      State.endConversion_of_not_done (State.endConversion_not_unitDone hd (.inl rfl))]

/-- Settles O20: the unit's condition decides what CONVERSION_END waits for; an end that is due comes before the period as well as in it. -/
theorem conversionEndResult : Obligations.ConversionEndResult := by
  refine fun s => ⟨fun n hn => dif_neg (by omega), fun u => execConversionEnd_idle, fun u => execConversionEnd_busy, fun u b w hb hd => ?_,
    fun done n => ⟨rfl, rfl⟩⟩
  have hbusy : s.conditioner.units[u] ≠ none := by
    rw [(State.busySlot_iff.1 hb).1]
    simp
  rw [execConversionEnd_busy hbusy, State.passUntil_of_done hd, ← State.endConversion_done hb hd]
  exact ⟨rfl, State.accessPeriod_of_unitDone hd⟩

/-! ### What a conversion end commits (04 R76 to R78) -/

theorem State.raiseLimits_on (s : State) (channel : Byte) (l : List Transition) :
    s.raiseLimits true channel l = l.foldl (fun s t => s.raise .limit channel (t.state.code :: halfBytes t.value)) s := rfl

theorem State.raiseLimits_off (s : State) (channel : Byte) (l : List Transition) : s.raiseLimits false channel l = s := rfl

/-- The context's flag is no part of the commit. -/
theorem State.commit_eq (s : State) (w : WorkSlot) (r : Working) : s.commit w r = State.raiseLimits
    ((s.modContext w.context fun c =>
        { c with acc := r.acc, limits := c.limits.map fun l => { l with state := r.limits.elim l.state Limits.state } }).countContext w.context fun c =>
      { c with
        clampLow := c.clampLow + amount r.clampedLow
        clampHigh := c.clampHigh + amount r.clampedHigh
        limitEvents := c.limitEvents + amount r.transitions.length })
    (s.context w.context).limitNotices w.channel r.transitions := by
  unfold State.commit
  dsimp only
  congr 1
  show ((s.modContext w.context _).context w.context).limitNotices = _
  rw [State.context_modContext, if_pos rfl]

theorem State.settleSlot_nil (s : State) (i : SlotId) (w : WorkSlot) : s.settleSlot i w [] = s.releaseSlot i := rfl

theorem State.settleSlot_cons (s : State) (i : SlotId) (w : WorkSlot) (o : Output) (outputs : List Output) :
    s.settleSlot i w (o :: outputs) =
      if s.conditioner.ready = [] then (s.makeReady i w (o :: outputs)).enterCq else s.makeReady i w (o :: outputs) := by
  have hhead : (s.makeReady i w (o :: outputs)).conditioner.ready = [i] ↔ s.conditioner.ready = [] := by
    show s.conditioner.ready ++ [i] = [i] ↔ _
    simp
  unfold State.settleSlot
  simp only [List.isEmpty_cons, Bool.false_eq_true, if_false, hhead]

/-- Settles O21: the commit's writes and raises, the slot's fate by its outputs, and the frame of a READY slot. -/
theorem conversionEffects : Obligations.ConversionEffects := by
  refine ⟨fun s w r l hl => ?_, fun s i w => ⟨s.settleSlot_nil i w, fun o outputs => ?_, fun o q => rfl⟩, fun v => rfl⟩
  · subst hl
    intro k t raised committed
    rw [show t = _ from s.commit_eq w r]
    refine ⟨fun hon => ?_, fun hoff => ?_⟩
    · rw [hon]
      rfl
    · rw [hoff]
      rfl
  · intro k made
    rw [State.settleSlot_cons]
    exact ⟨fun h => if_neg h, fun h => if_pos h⟩

end Sys2Proof.Machine
end

section
/-! CQ_ENTRY and the slot release: O22. -/

namespace Sys2Proof.Machine

/-! ### CQ_ENTRY (04 R78) -/

section
variable {s : State} {i : SlotId} {rest : List SlotId} {w : WorkSlot} {f : Frame} (hr : s.conditioner.ready = i :: rest)
  (hi : s.conditioner.slots[i] = some w) (hf : w.built = some f)
include hr hi hf

theorem State.readyHead_eq : s.readyHead = some (i, w, f) := by
  unfold State.readyHead
  rw [hr]
  simp only [hi, Option.bind_some, hf, Option.map_some]

theorem State.enterCq_room (h : s.merger.cq.length < 4) :
    s.enterCq = ({ s with merger := { s.merger with cq := s.merger.cq ++ [⟨f, w.context⟩] } } : State).releaseSlot i := by
  unfold State.enterCq
  rw [State.readyHead_eq hr hi hf]
  exact if_pos h

theorem State.enterCq_full (h : 4 ≤ s.merger.cq.length) : s.enterCq = s := by
  unfold State.enterCq
  rw [State.readyHead_eq hr hi hf]
  exact if_neg (Nat.not_lt.2 h)

end

theorem State.enterCq_of_none_ready {s : State} (h : s.conditioner.ready = []) : s.enterCq = s := by
  unfold State.enterCq State.readyHead
  rw [h]

/-! ### A fenced command's effect (02 R31, R34, R37) -/

/-- A fenced command changes no count of frames in flight, and N in the context that a SET_CHANNEL names alone. -/
theorem State.finishFenced_context (s : State) (f : Frame) (k : ContextId) :
    ((s.finishFenced f).context k).inFlight = (s.context k).inFlight ∧
      (((s.finishFenced f).context k).decimation = (s.context k).decimation ∨
        f.code ≠ codeMapChannel ∧ ∃ p, settingsOf f.payload = some p ∧ p.context = k) := by
  unfold State.finishFenced
  split
  · split
    next channel target _ =>
      split
      next t _ =>
        show ((s.applyMap channel t).context k).inFlight = _ ∧ (((s.applyMap channel t).context k).decimation = _ ∨ _)
        rw [State.applyMap_context]
        split
        · exact ⟨rfl, .inl rfl⟩
        · split <;> exact ⟨rfl, .inl rfl⟩
      next => exact ⟨rfl, .inl rfl⟩
    next => exact ⟨rfl, .inl rfl⟩
  next hc =>
    split
    next p hp =>
      show ((s.applySettings p).context k).inFlight = _ ∧ (((s.applySettings p).context k).decimation = _ ∨ _)
      rw [State.applySettings_context]
      split
      next hk => exact ⟨rfl, .inr ⟨hc, p, hp, hk⟩⟩
      next => exact ⟨rfl, .inl rfl⟩
    next => exact ⟨rfl, .inl rfl⟩

/-- The settling of a fence changes N only where no frame is in flight. -/
theorem State.settleFence_context (s : State) (k : ContextId) :
    (s.settleFence.context k).inFlight = (s.context k).inFlight ∧
      ((s.settleFence.context k).decimation = (s.context k).decimation ∨ (s.context k).inFlight = 0) := by
  have hfence (j : ContextId) : ((s.setFence j false).context k).inFlight = (s.context k).inFlight ∧
      ((s.setFence j false).context k).decimation = (s.context k).decimation := by
    rw [State.setFence, State.context_modContext]
    split <;> exact ⟨rfl, rfl⟩
  unfold State.settleFence
  split
  next f j hd =>
    obtain ⟨-, -, htarget, -, hzero⟩ := State.fenceDue_eq_some hd
    obtain ⟨hflight, hn⟩ := (s.setFence j false).finishFenced_context f k
    obtain ⟨hflight', hn'⟩ := hfence j
    refine ⟨hflight.trans hflight', hn.imp (fun e => e.trans hn') ?_⟩
    rintro ⟨hc, p, hp, hk⟩
    have hset : f.code = codeSetChannel := by
      by_contra hne
      rw [State.fenceTarget, if_neg hc, if_neg hne] at htarget
      cases htarget
    rw [State.fenceTarget_settings hset hp, hk] at htarget
    cases htarget
    exact hzero
  next => exact ⟨rfl, .inl rfl⟩

theorem State.settleFence_of_none_due {s : State}
    (h : s.mgmt.state ≠ .fenceWait ∨ ∀ k : ContextId, (s.context k).fenced = true → (s.context k).inFlight ≠ 0) : s.settleFence = s := by
  unfold State.settleFence
  split
  next f k hd =>
    obtain ⟨hs, -, -, hfenced, hzero⟩ := State.fenceDue_eq_some hd
    obtain h | h := h
    · exact absurd hs h
    · exact absurd hzero (h k hfenced)
  next => rfl

/-! ### The claims of a release (04 R79) -/

/-- The slot FREE, its pin and its place in flight given back: a release before what a count that reaches 0 brings about. -/
def State.releaseClaims (s : State) (i : SlotId) (w : WorkSlot) : State :=
  (({ s with conditioner := s.conditioner.free i } : State).unpin w.curve).modContext w.context fun c => { c with inFlight := c.inFlight - 1 }

theorem State.releaseSlot_eq {s : State} {i : SlotId} {w : WorkSlot} (hi : s.conditioner.slots[i] = some w) :
    s.releaseSlot i = (s.releaseClaims i w).settleFence := by
  unfold State.releaseSlot
  rw [hi]
  rfl

section
variable (s : State) (i : SlotId) (w : WorkSlot)

theorem State.releaseClaims_mgmt : (s.releaseClaims i w).mgmt = s.mgmt := by simp [State.releaseClaims]

theorem State.releaseClaims_context (k : ContextId) : (s.releaseClaims i w).context k =
    if w.context = k then { s.context k with inFlight := (s.context k).inFlight - 1 } else s.context k := by
  have hk : (({ s with conditioner := s.conditioner.free i } : State).unpin w.curve).context k = s.context k := by
    unfold State.context
    rw [State.unpin_table]
  rw [State.releaseClaims, State.context_modContext, hk]

theorem State.releaseClaims_lookup (channel : Byte) : (s.releaseClaims i w).table.lookup channel = s.table.lookup channel := by
  show (({ s with conditioner := s.conditioner.free i } : State).unpin w.curve).table.lookup channel = _
  rw [State.unpin_table]

theorem State.releaseClaims_curve (c : CurveId) : (s.releaseClaims i w).curve c = if w.curve = c then (s.curve c).unpinned else s.curve c :=
  State.curve_unpin _ _ _

end

theorem Curve.unpinned_last {d : Curve} (hs : d.state = .retiring) (hp : d.pins ≤ 1) :
    d.unpinned = { d with pins := d.pins - 1, state := .empty, knots := 0, pages := [] } := if_pos ⟨hs, by omega⟩

theorem Curve.unpinned_more {d : Curve} (h : ¬ (d.state = .retiring ∧ d.pins ≤ 1)) : d.unpinned = { d with pins := d.pins - 1 } :=
  if_neg fun hc => h ⟨hc.1, by omega⟩

/-- A RETIRING curve's last pin gives its pages back, which is reported (03 R50, R54). -/
theorem State.unpin_last_frame {s : State} {c : CurveId} (hs : (s.curve c).state = .retiring) (hp : (s.curve c).pins ≤ 1) :
    (s.unpin c).store.free = s.store.free ++ (s.curve c).pages ∧
      (s.unpin c).notices = (s.raise .curveFreed (byteOf c.val) [byteOf (s.curve c).pages.length]).notices := by
  have hpages : ((s.modCurve c fun d => { d with pins := d.pins - 1 }).curve c).pages = (s.curve c).pages := by
    rw [State.curve_modCurve, if_pos rfl]
  rw [State.unpin_of_last hs hp]
  exact ⟨congrArg (s.store.free ++ ·) hpages,
    congrArg (fun p : List PageId => (s.raise .curveFreed (byteOf c.val) [byteOf p.length]).notices) hpages⟩

theorem State.unpin_more {s : State} {c : CurveId} (h : ¬ ((s.curve c).state = .retiring ∧ (s.curve c).pins ≤ 1)) :
    s.unpin c = s.modCurve c fun d => { d with pins := d.pins - 1 } := State.unpin_of_not fun hc => h ⟨hc.1, by omega⟩

/-! ### What a release settles (02 R37) -/

section
variable {s : State} {i : SlotId} {w : WorkSlot} {f : Frame} (hs : s.mgmt.state = .fenceWait) (hf : s.mgmt.current = some f)
  (hfenced : (s.context w.context).fenced = true) (hlast : (s.context w.context).inFlight ≤ 1)
include hs hf hfenced hlast

/-- A release that brings the fenced context's count to 0 clears the fence and applies the waiting command. -/
theorem State.releaseClaims_settles (ht : (s.releaseClaims i w).fenceTarget f = some w.context) :
    (s.releaseClaims i w).settleFence = ((s.releaseClaims i w).setFence w.context false).finishFenced f := by
  refine State.settleFence_of_zero (by rwa [State.releaseClaims_mgmt]) (by rwa [State.releaseClaims_mgmt]) ht ?_ ?_
  · rw [State.releaseClaims_context, if_pos rfl]
    exact hfenced
  · rw [State.releaseClaims_context, if_pos rfl]
    exact Nat.sub_eq_zero_of_le hlast

theorem State.releaseClaims_settles_map (i : SlotId) {channel target : Byte} {x : Option ContextId} (hc : f.code = codeMapChannel) (hp : f.payload = [channel, target])
    (hl : s.table.lookup channel = some w.context) (hx : mapTarget target = some x) :
    (s.releaseClaims i w).settleFence = ((s.releaseClaims i w).setFence w.context false).finishMap f channel x := by
  rw [State.releaseClaims_settles hs hf hfenced hlast (((State.fenceTarget_map _ hc hp).trans (s.releaseClaims_lookup i w channel)).trans hl),
    State.finishFenced_map _ hc hp hx]

theorem State.releaseClaims_settles_settings (i : SlotId) {p : ChannelSettings} (hc : f.code = codeSetChannel) (hp : settingsOf f.payload = some p)
    (hk : p.context = w.context) :
    (s.releaseClaims i w).settleFence = ((s.releaseClaims i w).setFence w.context false).finishSettings f p := by
  rw [State.releaseClaims_settles hs hf hfenced hlast (hk ▸ State.fenceTarget_settings hc hp), State.finishFenced_settings _ hc hp]

end

/-- Settles O22: a release is its claims, then the settling of the fence, which touches neither store nor slots nor notices nor counts. -/
theorem cqEntryAndSlotRelease : Obligations.CqEntryAndSlotRelease := by
  have hexec (s : State) : exec .cqEntry s = .next s.enterCq := rfl
  refine ⟨fun s => ⟨fun i rest w f hr hi hf => ⟨fun h => ?_, fun h => ?_⟩, fun hr => ?_⟩, fun s i w hi => ?_,
    fun s c => ⟨fun h => State.unpin_of_last h.1 h.2, State.unpin_more⟩, fun s k g => rfl⟩
  · rw [hexec, State.enterCq_room hr hi hf h]
  · rw [hexec, State.enterCq_full hr hi hf h]
  · rw [hexec, State.enterCq_of_none_ready hr]
  · intro t d
    have ht : t = (s.releaseClaims i w).settleFence := State.releaseSlot_eq hi
    have hstore : t.store = (s.releaseClaims i w).store := by rw [ht]; simp
    have hcurve (c : CurveId) : t.curve c = if w.curve = c then (s.curve c).unpinned else s.curve c := by
      rw [← s.releaseClaims_curve i w c]
      unfold State.curve
      rw [hstore]
    have hflight (k : ContextId) : (t.context k).inFlight = ((s.releaseClaims i w).context k).inFlight := by
      rw [ht]
      exact ((s.releaseClaims i w).settleFence_context k).1
    have hnotices : t.notices = (({ s with conditioner := s.conditioner.free i } : State).unpin w.curve).notices := by
      rw [ht, State.settleFence_notices]
      rfl
    have hconditioner : t.conditioner = s.conditioner.free i := State.releaseSlot_conditioner hi
    refine ⟨hconditioner, ?_, fun k hk => ?_, ?_, fun c hc => ?_, fun hr hp => ?_, fun hn => ?_, ?_⟩
    · rw [hflight, State.releaseClaims_context, if_pos rfl]
    · rw [hflight, State.releaseClaims_context, if_neg hk.symm]
    · rw [hcurve, if_pos rfl, Curve.unpinned]
      split <;> rfl
    · rw [hcurve, if_neg hc.symm]
    · obtain ⟨hfree, hraise⟩ := State.unpin_last_frame (s := { s with conditioner := s.conditioner.free i }) hr hp
      have hempty : t.curve w.curve = _ := (hcurve _).trans ((if_pos rfl).trans (Curve.unpinned_last hr hp))
      rw [hempty, hnotices, hraise, hstore]
      exact ⟨rfl, rfl, rfl, hfree, rfl⟩
    · have hmore := State.unpin_more (s := { s with conditioner := s.conditioner.free i }) hn
      rw [hcurve, if_pos rfl, hnotices, hmore, hstore, State.releaseClaims, hmore]
      exact ⟨Curve.unpinned_more hn, rfl, rfl⟩
    · intro freed claimed
      have hclaimed : claimed = s.releaseClaims i w := by
        show (State.unpin { s with conditioner := t.conditioner } w.curve).modContext w.context _ = _
        rw [hconditioner]
        rfl
      rw [hclaimed, ht]
      refine ⟨fun h => State.settleFence_of_none_due ?_, fun f hs hf hfenced hlast => ?_⟩
      · rwa [State.releaseClaims_mgmt]
      · exact ⟨fun channel target x hc hp hl hx => State.releaseClaims_settles_map hs hf hfenced hlast i hc hp hl hx,
          fun p hc hp hk => State.releaseClaims_settles_settings hs hf hfenced hlast i hc hp hk⟩

end Sys2Proof.Machine
end

section
/-! How far a unit's work is from its end: the knots it has still to read: O54. -/

namespace Sys2Proof.Machine

/-! ### What is taken, the knots apart -/

/-- A working record without the knots and the search it holds. -/
def Working.bare (w : Working) : Working := { w with firstKnot := none, lastKnot := none, search := none }

/-- Nothing that a value taken writes depends on the knots held, and the end knots stay. -/
theorem Working.take_bare (w : Working) (n : Nat) (c : Clamp) (v : Half) :
    (w.take n c v).bare = w.bare.take n c v ∧ (w.take n c v).firstKnot = w.firstKnot ∧ (w.take n c v).lastKnot = w.lastKnot := by
  obtain ⟨hlimits, htransitions⟩ := Working.check_congr v (w := w) (x := w.bare) rfl rfl
  by_cases h : w.acc.count + 1 = n
  · rw [Working.take_full c v h, Working.take_full (w := w.bare) c v h, hlimits, htransitions]
    exact ⟨rfl, rfl, rfl⟩
  · rw [Working.take_more c v h, Working.take_more (w := w.bare) c v h, hlimits, htransitions]
    exact ⟨rfl, rfl, rfl⟩

/-! ### A bisection stays on the curve (04 R71) -/

theorem Search.bisect_of_narrow {p q : Search} {r : Half} (h : p.narrow r = .bisect q) : q = p := by
  unfold Search.narrow at h
  split at h <;> cases h
  rfl

theorem searchStart_bisect {first last : Knot} {n : Nat} {r : Half} {q : Search} (h : searchStart first last n r = .bisect q) :
    q.lo = 0 ∧ q.hi = n - 1 := by
  unfold searchStart at h
  dsimp only at h
  split at h
  · cases h
  split at h
  · cases h
  split at h
  · cases h
  split at h
  · cases h
  cases Search.bisect_of_narrow h
  exact ⟨rfl, rfl⟩

/-- The indices held lie on a curve of `n` knots. -/
def Search.Within (q : Search) (n : Nat) : Prop := q.lo < n ∧ q.hi < n

theorem Search.Within.mid_lt {q : Search} {n : Nat} (h : q.Within n) : q.mid < n := by
  obtain ⟨hlo, hhi⟩ := h
  unfold Search.mid
  omega

theorem Search.Within.step {q q' : Search} {n : Nat} {k : Knot} {r : Half} (h : q.Within n) (hs : q.step k r = .bisect q') : q'.Within n := by
  unfold Search.step at hs
  split at hs
  · cases hs
  split at hs
  · cases Search.bisect_of_narrow hs
    exact ⟨h.mid_lt, h.2⟩
  · cases Search.bisect_of_narrow hs
    exact ⟨h.1, h.mid_lt⟩

/-! ### The knots still to read (04 R70, R71) -/

section
variable (knot : Nat → Knot) (knots : Nat) (value : Half → Clamp × Half) (m : Nat) (samples : List Half)

/-- A unit's work has at most so many knots still to read: two end knots, then at most `m` for each sample, until every sample's value is taken. -/
inductive Working.ReadsLeft : Nat → Working → Prop
  | first {w : Working} (hfirst : w.firstKnot = none) (hlast : w.lastKnot = none) (hsearch : w.search = none) (hnext : w.next = 0) :
    ReadsLeft (2 + m * samples.length) w
  | last {w : Working} (hfirst : w.firstKnot = some (knot 0)) (hlast : w.lastKnot = none) (hsearch : w.search = none) (hnext : w.next = 0) :
    ReadsLeft (1 + m * samples.length) w
  | search {w : Working} {q : Search} {r : Half} {rest : List Half} {fuel : Nat} (hfirst : w.firstKnot = some (knot 0))
    (hlast : w.lastKnot = some (knot (knots - 1))) (hsearch : w.search = some q) (hrest : samples.drop w.next = r :: rest)
    (hq : q.Within knots) (hrun : searchRun knot r (fuel + 1) (.bisect q) = some (value r)) :
    ReadsLeft (fuel + 1 + m * rest.length) w
  | done {w : Working} (hfirst : w.firstKnot = some (knot 0)) (hlast : w.lastKnot = some (knot (knots - 1))) (hsearch : w.search = none)
    (hnext : w.next = samples.length) : ReadsLeft 0 w

/-- What the unit has taken and what it has still to take come to `goal`. -/
def Working.Owes (n : Nat) (w goal : Working) : Prop := takeAll n w.bare ((samples.drop w.next).map value) = goal

end

theorem drop_succ_of_cons {α : Type} {l rest : List α} {x : α} {i : Nat} (h : l.drop i = x :: rest) : i < l.length ∧ l.drop (i + 1) = rest := by
  refine ⟨?_, by rw [← List.tail_drop, h]; rfl⟩
  by_contra hge
  rw [List.drop_eq_nil_of_le (Nat.not_lt.1 hge)] at h
  cases h

section
variable {knot : Nat → Knot} {knots : Nat} {value : Half → Clamp × Half} {m : Nat} {samples : List Half} {n : Nat} {goal w : Working}

/-- The next sample's value taken is one less to take. -/
theorem Working.Owes.take {r : Half} {rest : List Half} {c : Clamp} {v : Half} (h : w.Owes value samples n goal) (hr : samples.drop w.next = r :: rest)
    (hv : value r = (c, v)) : (w.take n c v).Owes value samples n goal := by
  obtain ⟨hbare, -⟩ := w.take_bare n c v
  obtain ⟨-, -, hnext, -⟩ := w.take_frame n c v
  unfold Working.Owes at h ⊢
  rw [hbare, hnext, (drop_succ_of_cons hr).2, ← h, hr, List.map_cons, hv]
  rfl

section
variable (hfirst : w.firstKnot = some (knot 0)) (hlast : w.lastKnot = some (knot (knots - 1))) {r : Half} (rest : List Half)
include hfirst hlast

theorem Working.run_of_value {c : Clamp} {v : Half} (hs : searchStart (knot 0) (knot (knots - 1)) knots r = .value c v) :
    w.run n knots (r :: rest) = (w.take n c v).run n knots rest := by
  rw [Working.run, hfirst, hlast]
  dsimp only
  rw [hs]

theorem Working.run_of_bisect {q : Search} (hs : searchStart (knot 0) (knot (knots - 1)) knots r = .bisect q) :
    w.run n knots (r :: rest) = { w with search := some q } := by
  rw [Working.run, hfirst, hlast]
  dsimp only
  rw [hs, ← hfirst, ← hlast]

end

variable (hvalue : ∀ r, searchRun knot r m (searchStart (knot 0) (knot (knots - 1)) knots r) = some (value r)) (hknots : 0 < knots)
include hvalue hknots

/-- Converting on with both end knots held leaves at most `m` reads for each sample left. -/
theorem Working.run_readsLeft {l : List Half} (hfirst : w.firstKnot = some (knot 0)) (hlast : w.lastKnot = some (knot (knots - 1)))
    (hsearch : w.search = none) (hl : samples.drop w.next = l) (hle : w.next ≤ samples.length) (ho : w.Owes value samples n goal) :
    (∃ i, i ≤ m * l.length ∧ (w.run n knots l).ReadsLeft knot knots value m samples i) ∧ (w.run n knots l).Owes value samples n goal := by
  induction l generalizing w with
  | nil =>
    have hnext : w.next = samples.length := Nat.le_antisymm hle (List.drop_eq_nil_iff.1 hl)
    exact ⟨⟨0, Nat.zero_le _, .done hfirst hlast hsearch hnext⟩, ho⟩
  | cons r rest ih =>
    have hlength : m * (r :: rest).length = m + m * rest.length := by rw [List.length_cons, Nat.mul_succ, Nat.add_comm]
    have hr := hvalue r
    rw [hlength]
    cases hs : searchStart (knot 0) (knot (knots - 1)) knots r with
    | value c v =>
      rw [hs, searchRun_value] at hr
      obtain ⟨-, hfirst', hlast'⟩ := w.take_bare n c v
      obtain ⟨-, -, hnext, hsearch', -⟩ := w.take_frame n c v
      obtain ⟨hlt, hdrop⟩ := drop_succ_of_cons hl
      obtain ⟨⟨i, hi, hreads⟩, howes⟩ := ih (hfirst'.trans hfirst) (hlast'.trans hlast) hsearch' (hnext ▸ hdrop) (hnext ▸ hlt)
        (ho.take hl (Option.some.inj hr).symm)
      rw [Working.run_of_value hfirst hlast rest hs]
      exact ⟨⟨i, by omega, hreads⟩, howes⟩
    | bisect q =>
      obtain ⟨hlo, hhi⟩ := searchStart_bisect hs
      rw [hs] at hr
      rw [Working.run_of_bisect hfirst hlast rest hs]
      obtain ⟨fuel, rfl⟩ : ∃ fuel, m = fuel + 1 := Nat.exists_eq_succ_of_ne_zero fun h0 => by rw [h0] at hr; cases hr
      exact ⟨⟨_, Nat.le_refl _, .search (w := { w with search := some q }) hfirst hlast rfl hl ⟨by omega, by omega⟩ hr⟩, ho⟩

/-- Work with reads left wants a knot of the curve, and that knot is one less to read. -/
theorem Working.ReadsLeft.granted {i : Nat} (h : w.ReadsLeft knot knots value m samples i) (hi : 0 < i) (ho : w.Owes value samples n goal) :
    ∃ k, k < knots ∧ w.wants knots = some k ∧
      (∃ j, j < i ∧ (w.granted n knots samples (knot k)).ReadsLeft knot knots value m samples j) ∧
      (w.granted n knots samples (knot k)).Owes value samples n goal := by
  cases h with
  | first hfirst hlast hsearch hnext =>
    have hg : w.granted n knots samples (knot 0) = { w with firstKnot := some (knot 0) } := by
      unfold Working.granted
      rw [hfirst]
    refine ⟨0, hknots, ?_, ?_⟩
    · unfold Working.wants
      rw [hfirst]
    · rw [hg]
      exact ⟨⟨_, by omega, .last (w := { w with firstKnot := some (knot 0) }) rfl hlast hsearch hnext⟩, ho⟩
  | last hfirst hlast hsearch hnext =>
    have hg : w.granted n knots samples (knot (knots - 1)) =
        { w with lastKnot := some (knot (knots - 1)) }.run n knots (samples.drop w.next) := by
      unfold Working.granted
      rw [hfirst, hlast]
    refine ⟨knots - 1, by omega, ?_, ?_⟩
    · unfold Working.wants
      rw [hfirst, hlast]
    · obtain ⟨⟨i, hle, hreads⟩, howes⟩ := Working.run_readsLeft hvalue hknots (w := { w with lastKnot := some (knot (knots - 1)) })
        (l := samples.drop w.next) hfirst rfl hsearch rfl (hnext ▸ Nat.zero_le _) ho
      rw [hnext, List.drop_zero] at hle
      rw [hg]
      exact ⟨⟨i, by omega, hreads⟩, howes⟩
  | @search _ q r rest fuel hfirst hlast hsearch hrest hq hrun =>
    refine ⟨q.mid, hq.mid_lt, ?_, ?_⟩
    · unfold Working.wants
      rw [hfirst, hlast, hsearch]
      rfl
    · have hrun' : searchRun knot r fuel (q.step (knot q.mid) r) = some (value r) := hrun
      cases hs : q.step (knot q.mid) r with
      | value c v =>
        have hg : w.granted n knots samples (knot q.mid) = (w.take n c v).run n knots rest := by
          unfold Working.granted
          rw [hfirst, hlast, hsearch, hrest]
          dsimp only
          rw [hs]
        rw [hs, searchRun_value] at hrun'
        obtain ⟨-, hfirst', hlast'⟩ := w.take_bare n c v
        obtain ⟨-, -, hnext, hsearch', -⟩ := w.take_frame n c v
        obtain ⟨hlt, hdrop⟩ := drop_succ_of_cons hrest
        obtain ⟨⟨i, hle, hreads⟩, howes⟩ := Working.run_readsLeft hvalue hknots (hfirst'.trans hfirst) (hlast'.trans hlast) hsearch'
          (hnext ▸ hdrop) (hnext ▸ hlt) (ho.take hrest (Option.some.inj hrun').symm)
        rw [hg]
        exact ⟨⟨i, by omega, hreads⟩, howes⟩
      | bisect q' =>
        have hg : w.granted n knots samples (knot q.mid) = { w with search := some q' } := by
          unfold Working.granted
          rw [hfirst, hlast, hsearch, hrest]
          dsimp only
          rw [hs, ← hfirst, ← hlast]
        rw [hs] at hrun'
        rw [hg]
        obtain ⟨fuel', rfl⟩ : ∃ fuel', fuel = fuel' + 1 := Nat.exists_eq_succ_of_ne_zero fun h0 => by rw [h0] at hrun'; cases hrun'
        exact ⟨⟨_, by omega, .search (w := { w with search := some q' }) hfirst hlast rfl hrest (hq.step hs) hrun'⟩, ho⟩
  | done => omega

end

/-- Work without reads left wants no knot, and has taken every sample's value. -/
theorem Working.ReadsLeft.done_of_zero {knot : Nat → Knot} {knots : Nat} {value : Half → Clamp × Half} {m : Nat} {samples : List Half} {w : Working}
    (h : w.ReadsLeft knot knots value m samples 0) {n : Nat} {goal : Working} (ho : w.Owes value samples n goal) :
    w.wants knots = none ∧ w.next = samples.length ∧ { w with firstKnot := none, lastKnot := none } = goal := by
  generalize hi : 0 = i at h
  cases h with
  | first => omega
  | last => omega
  | search => omega
  | done hfirst hlast hsearch hnext =>
    refine ⟨?_, hnext, ?_⟩
    · unfold Working.wants
      rw [hfirst, hlast, hsearch]
      rfl
    · unfold Working.Owes at ho
      rw [hnext, List.drop_length, List.map_nil] at ho
      rw [← ho]
      show _ = w.bare
      rw [Working.bare, ← hsearch]

end Sys2Proof.Machine
end

section
/-! A conversion through its access periods, whatever else ends and is granted meanwhile: O54. -/

namespace Sys2Proof.Machine

/-! ### What an event spares of one context's N and of one curve -/

/-- From `s` to `t` context `k` keeps its N while frames of it are in flight, of which there are no more, and curve `c` keeps knots and pages until it is EMPTY. -/
structure State.Spares (k : ContextId) (c : CurveId) (s t : State) : Prop where
  inFlight : (t.context k).inFlight ≤ (s.context k).inFlight
  decimation : (t.context k).decimation = (s.context k).decimation ∨ (t.context k).inFlight = 0
  curve : (t.curve c).knots = (s.curve c).knots ∧ (t.curve c).pages = (s.curve c).pages ∨ (t.curve c).state = .empty
  empty : (s.curve c).state = .empty → (t.curve c).state = .empty

namespace State.Spares
variable {k : ContextId} {c : CurveId} {s t r : State}

/-- The context's N and count as they were, and the curve. -/
theorem of_eq (hi : (t.context k).inFlight = (s.context k).inFlight) (hd : (t.context k).decimation = (s.context k).decimation)
    (hc : t.curve c = s.curve c) : Spares k c s t :=
  ⟨hi.le, .inl hd, .inl (by rw [hc]; exact ⟨rfl, rfl⟩), fun h => by rwa [hc]⟩

theorem of_table (ht : t.table = s.table) (hs : t.store = s.store) : Spares k c s t := by
  have hk : t.context k = s.context k := by unfold State.context; rw [ht]
  exact of_eq (by rw [hk]) (by rw [hk]) (by unfold State.curve; rw [hs])

theorem refl (s : State) : Spares k c s s := of_table rfl rfl

theorem quiet (h : s.Quiet t) : Spares k c s t := of_eq (by rw [h.context]) (by rw [h.context]) (h.curve c)

theorem trans (h : Spares k c s t) (h' : Spares k c t r) : Spares k c s r where
  inFlight := h'.inFlight.trans h.inFlight
  decimation := by
    obtain e' | hzero := h'.decimation
    · obtain e | hzero := h.decimation
      · exact .inl (e'.trans e)
      · exact .inr (Nat.le_zero.1 (hzero ▸ h'.inFlight))
    · exact .inr hzero
  curve := by
    obtain ⟨hk', hp'⟩ | hempty := h'.curve
    · obtain ⟨hk, hp⟩ | hempty := h.curve
      · exact .inl ⟨hk'.trans hk, hp'.trans hp⟩
      · exact .inr (h'.empty hempty)
    · exact .inr hempty
  empty he := h'.empty (h.empty he)

/-- A context written in other fields than N and the count of its frames in flight. -/
theorem modContext (s : State) (j : ContextId) {f : Context → Context} (hi : ∀ x, (f x).inFlight = x.inFlight) (hd : ∀ x, (f x).decimation = x.decimation) :
    Spares k c s (s.modContext j f) := by
  refine of_eq ?_ ?_ rfl <;> rw [State.context_modContext] <;> split
  · exact hi _
  · rfl
  · exact hd _
  · rfl

end State.Spares

theorem Curve.unpinned_cases (d : Curve) : d.unpinned.knots = d.knots ∧ d.unpinned.pages = d.pages ∧ d.unpinned.state = d.state ∨ d.unpinned.state = .empty := by
  unfold Curve.unpinned
  split
  · exact .inr rfl
  · exact .inl ⟨rfl, rfl, rfl⟩

section
variable {k : ContextId} {c : CurveId}

theorem State.settleFence_spares (s : State) : Spares k c s s.settleFence := by
  obtain ⟨hi, hd⟩ := s.settleFence_context k
  have hc : s.settleFence.curve c = s.curve c := by unfold State.curve; rw [State.settleFence_store]
  exact ⟨hi.le, hd.imp_right hi.trans, .inl (by rw [hc]; exact ⟨rfl, rfl⟩), fun h => by rwa [hc]⟩

theorem State.releaseClaims_spares (s : State) (i : SlotId) (w : WorkSlot) : Spares k c s (s.releaseClaims i w) := by
  have hk := s.releaseClaims_context i w k
  have hc := s.releaseClaims_curve i w c
  refine ⟨?_, .inl ?_, ?_, fun he => ?_⟩
  · rw [hk]
    split
    · exact Nat.sub_le _ _
    · exact Nat.le_refl _
  · rw [hk]
    split <;> rfl
  · rw [hc]
    split
    · exact (s.curve c).unpinned_cases.imp_left fun ⟨hknots, hpages, _⟩ => ⟨hknots, hpages⟩
    · exact .inl ⟨rfl, rfl⟩
  · rw [hc]
    split
    · obtain ⟨-, -, e⟩ | e := (s.curve c).unpinned_cases
      · exact e.trans he
      · exact e
    · exact he

theorem State.releaseSlot_spares (s : State) (i : SlotId) : Spares k c s (s.releaseSlot i) := by
  cases hi : s.conditioner.slots[i] with
  | none =>
    unfold State.releaseSlot
    rw [hi]
    exact .refl s
  | some w =>
    rw [State.releaseSlot_eq hi]
    exact (s.releaseClaims_spares i w).trans (State.settleFence_spares _)

theorem State.enterCq_spares (s : State) : Spares k c s s.enterCq := by
  unfold State.enterCq
  split
  next i w f _ =>
    split
    · exact Spares.trans (t := { s with merger := { s.merger with cq := s.merger.cq ++ [(⟨f, w.context⟩ : CqEntry)] } }) (.of_table rfl rfl)
        (State.releaseSlot_spares _ i)
    · exact .refl s
  · exact .refl s

theorem State.makeReady_spares (s : State) (i : SlotId) (w : WorkSlot) (outputs : List Output) : Spares k c s (s.makeReady i w outputs) :=
  Spares.trans (t := s.modContext w.context fun x => { x with outSeq := x.outSeq + 1 }) (.modContext s w.context (fun _ => rfl) fun _ => rfl)
    (.of_table rfl rfl)

theorem State.settleSlot_spares (s : State) (i : SlotId) (w : WorkSlot) (outputs : List Output) : Spares k c s (s.settleSlot i w outputs) := by
  have hready : Spares k c s (s.makeReady i w outputs) := s.makeReady_spares i w outputs
  unfold State.settleSlot
  dsimp only
  split
  · exact s.releaseSlot_spares i
  · split
    · exact hready.trans (State.enterCq_spares _)
    · exact hready

theorem State.commit_spares (s : State) (w : WorkSlot) (r : Working) : Spares k c s (s.commit w r) := by
  rw [State.commit_eq]
  refine Spares.trans (.modContext s w.context ?_ ?_) (.quiet ((State.Quiet.countContext _ _ _).trans (.raiseLimits _ _ _ _))) <;> exact fun _ => rfl

theorem State.endConversion_spares (s : State) (u : UnitId) : Spares k c s (s.endConversion u) := by
  unfold State.endConversion
  split
  · split
    next b w _ =>
      have hidle : Spares k c s ((s.commit w b.work).idleUnit u) := (s.commit_spares w b.work).trans (.of_table rfl rfl)
      exact (hidle.trans (State.settleSlot_spares _ b.slot w b.work.outputs)).trans (.of_table (by simp) (by simp))
    · exact .refl s
  · exact .refl s

/-- A read-back's end writes a descriptor that is EMPTY, or none. -/
theorem State.finishReadBack_spares {s : State} (h : s.ReadBackKept) (hc : (s.curve c).state ≠ .empty) : Spares k c s s.finishReadBack := by
  obtain hq | ⟨r, hr, hp, e⟩ := s.finishReadBack_quiet
  · exact .quiet hq
  · obtain ⟨-, hempty⟩ := h r hr
    have hne : r.curve ≠ c := fun hrc => hc (hrc ▸ hempty none hp)
    have hk : s.finishReadBack.context k = s.context k := by unfold State.context; rw [State.finishReadBack_table]
    refine .of_eq (by rw [hk]) (by rw [hk]) ?_
    have hstore : (s.defineCurve r).store = s.store.define r.curve r.pages r.knots := by simp [State.defineCurve]
    rw [e]
    show (s.defineCurve r).store.curves[c] = _
    rw [hstore]
    exact (s.curve_define r.curve r.pages r.knots c).trans (if_neg hne)

end

/-! ### A conversion in progress -/

/-- In `t` unit `u` converts, with working record `work`, the frame of slot `i` that it converts in `s`: the context's N, the curve and its pages are those of `s`. -/
structure Converting (s : State) (u : UnitId) (i : SlotId) (w : WorkSlot) (work : Working) (t : State) : Prop where
  counts : t.CountsKept
  busy : t.busySlot u = some (⟨i, work⟩, w)
  decimation : (t.context w.context).decimation = (s.context w.context).decimation
  knots : (t.curve w.curve).knots = (s.curve w.curve).knots
  pages : (t.curve w.curve).pages = (s.curve w.curve).pages
  stored : ∀ p ∈ (s.curve w.curve).pages, t.store.pages[p] = s.store.pages[p]
  spared : ∀ q ∈ t.pageWriteClaim, q.1.page ∉ (s.curve w.curve).pages

theorem State.pageWriteClaim_congr {s t : State} (h : t.loader = s.loader) : t.pageWriteClaim = s.pageWriteClaim := by
  unfold State.pageWriteClaim
  rw [h]

theorem Curve.CountsFit.not_empty {d : Curve} (h : d.CountsFit) (hp : 0 < d.pins) : d.state ≠ .empty := by
  intro he
  simp only [Curve.CountsFit, he] at h
  omega

/-- A slot pins its curve, which is not EMPTY (03 R54). -/
theorem State.CountsKept.curve_not_empty {s : State} (h : s.CountsKept) {i : SlotId} {w : WorkSlot} (hi : s.conditioner.slots[i] = some w) :
    (s.curve w.curve).state ≠ .empty := by
  obtain ⟨-, htallied, -⟩ := (State.countsKept_iff s).1 h
  obtain ⟨-, hpins, -, hfit⟩ := htallied.curves w.curve
  refine hfit.not_empty ?_
  rw [hpins]
  exact countP_pos_of_getElem s.conditioner.slots i (by simp [hi])

/-- A conversion's end on another unit leaves a BUSY unit at its slot and its work. -/
theorem State.endConversion_busySlot {s : State} {u v : UnitId} {b : BusyUnit} {w : WorkSlot} (hpair : s.conditioner.Paired)
    (hb : s.busySlot u = some (b, w)) (hu : s.unitDone u = false) : (s.endConversion v).busySlot u = some (b, w) := by
  cases hd : s.unitDone v with
  | false => rwa [State.endConversion_of_not_done hd]
  | true =>
    have hne : v ≠ u := by
      rintro rfl
      rw [hd] at hu
      cases hu
    obtain ⟨hunit, hslot⟩ := State.busySlot_iff.1 hb
    have hmoves := State.endConversion_moves hd
    have hidle : (s.idleUnit v).conditioner.units[u] = some b := (vmod_other _ _ hne).trans hunit
    have hunit' : (s.endConversion v).conditioner.units[u] = some b := by
      obtain e | ⟨hn, -⟩ := hmoves.unit u
      · exact e.trans hidle
      · rw [hidle] at hn
        cases hn
    obtain ⟨x, hx, hphase⟩ := (hpair u b.slot).2 ⟨b, hunit, rfl⟩
    obtain ⟨y, hy, hphase'⟩ := ((State.endConversion_paired hpair v) u b.slot).2 ⟨b, hunit', rfl⟩
    obtain ⟨z, hz, e⟩ := hmoves.slot b.slot y hy
    obtain rfl : x = w := Option.some.inj (hx.symm.trans hslot)
    obtain rfl : z = x := Option.some.inj (hz.symm.trans hx)
    rw [hphase', ← hphase] at e
    exact State.busySlot_iff.2 ⟨hunit', hy.trans (congrArg some e)⟩

namespace Converting
variable {s : State} {u : UnitId} {i : SlotId} {w : WorkSlot} {work : Working} {t : State}

theorem start {b : BusyUnit} (hc : s.CountsKept) (hb : s.busySlot u = some (b, w)) (hw : ∀ q ∈ s.pageWriteClaim, q.1.page ∉ (s.curve w.curve).pages) :
    Converting s u b.slot w b.work s :=
  ⟨hc, hb, rfl, rfl, rfl, fun _ _ => rfl, hw⟩

variable (h : Converting s u i w work t)
include h

theorem slot : t.conditioner.slots[i] = some w := (State.busySlot_iff.1 h.busy).2

/-- A change that leaves unit and slot alone, and spares what their frame rests on. -/
theorem same {r : State} (hc : r.CountsKept) (hb : r.busySlot u = t.busySlot u) (hs : State.Spares w.context w.curve t r)
    (hp : r.store.pages = t.store.pages) (hw : ∀ q ∈ r.pageWriteClaim, q.1.page ∉ (s.curve w.curve).pages) : Converting s u i w work r := by
  have hbusy := hb.trans h.busy
  have hslot := (State.busySlot_iff.1 hbusy).2
  obtain ⟨-, htallied, -⟩ := (State.countsKept_iff r).1 hc
  obtain ⟨hknots, hpages⟩ := hs.curve.resolve_right (hc.curve_not_empty hslot)
  have hn := hs.decimation.resolve_right fun h0 => absurd (htallied.inFlight.pos hslot) (by rw [h0]; decide)
  exact ⟨hc, hbusy, hn.trans h.decimation, hknots.trans h.knots, hpages.trans h.pages, fun p hmem => by rw [hp]; exact h.stored p hmem, hw⟩

theorem endConversion (hu : t.unitDone u = false) (v : UnitId) : Converting s u i w work (t.endConversion v) := by
  obtain ⟨-, -, hpair⟩ := (State.countsKept_iff t).1 h.counts
  have hclaim := State.pageWriteClaim_congr (t.endConversion_loader v)
  exact h.same (State.countsKept_keptByEvents.endConversion t v h.counts) ((State.endConversion_busySlot hpair h.busy hu).trans h.busy.symm)
    (t.endConversion_spares v) (CurveStore.pages_of_accessed (t.endConversion_accessed v)) (by rw [hclaim]; exact h.spared)

theorem finishReadBack : Converting s u i w work t.finishReadBack := by
  obtain ⟨-, htallied, -⟩ := (State.countsKept_iff t).1 h.counts
  have hclaim := State.pageWriteClaim_congr t.finishReadBack_loader
  exact h.same (State.countsKept_keptByEvents.finishReadBack t h.counts) (State.busySlot_congr t.finishReadBack_conditioner u)
    (State.finishReadBack_spares htallied.readBack (h.counts.curve_not_empty h.slot)) (CurveStore.pages_of_accessed t.finishReadBack_accessed)
    (by rw [hclaim]; exact h.spared)

theorem completeWrite : Converting s u i w work t.completeWrite := by
  refine h.same (State.countsKept_keptByEvents.quiet _ _ (.completeWrite t) h.counts) (State.busySlot_congr t.completeWrite_conditioner u)
    (.quiet (.completeWrite t)) (CurveStore.pages_of_accessed t.completeWrite_accessed) ?_
  obtain e | ⟨-, hn⟩ := t.completeWrite_cases
  · rw [e]
    exact h.spared
  · rw [State.pageWriteClaim_of_not_writing hn]
    simp

/-- What ends at the start of a period leaves alone a conversion whose work is not done. -/
theorem endDue (hu : t.unitDone u = false) : Converting s u i w work t.endDue := by
  have h0 := h.endConversion hu 0
  have hu0 : (t.endConversion 0).unitDone u = false := by
    cases hd : t.unitDone 0 with
    | false => rwa [State.endConversion_of_not_done hd]
    | true => exact State.endConversion_not_unitDone hd (.inr hu)
  exact ((h0.endConversion hu0 1).finishReadBack).completeWrite

end Converting

/-! ### The grant of a period -/

/-- A grant writes no context and no descriptor. -/
theorem State.grantPeriod_frame (s : State) : s.grantPeriod.table = s.table ∧ s.grantPeriod.store.curves = s.store.curves := by
  show (s.access _).table = _ ∧ (s.access _).store.curves = _
  generalize s.store.arbiter.choose s.claims = g
  match g with
  | some (.unit u) => simp [State.access]
  | some (.other .readBack) => simp [State.access]
  | some (.other .pageWrite) => exact ⟨(State.Quiet.grantPageWrite s).table, (State.Quiet.grantPageWrite s).curves⟩
  | none => exact ⟨rfl, rfl⟩

theorem State.CountsKept.grantPeriod {s : State} (h : s.CountsKept) : s.grantPeriod.CountsKept := by
  have K := State.countsKept_keptByEvents
  suffices haccess : (s.access (s.store.arbiter.choose s.claims)).CountsKept from K.quiet _ _ ⟨rfl, rfl, rfl, rfl, .refl _, rfl, rfl⟩ haccess
  generalize s.store.arbiter.choose s.claims = g
  match g with
  | some (.unit u) => exact K.grantUnit s u h
  | some (.other .readBack) => exact K.grantReadBack s h
  | some (.other .pageWrite) => exact K.quiet _ _ (.grantPageWrite s) h
  | none => exact h

/-- A grant to another than a unit leaves it at its work. -/
theorem State.grantPeriod_busySlot {s : State} {u : UnitId} (h : s.store.arbiter.choose s.claims ≠ some (.unit u)) :
    s.grantPeriod.busySlot u = s.busySlot u := by
  show (s.access (s.store.arbiter.choose s.claims)).busySlot u = _
  generalize s.store.arbiter.choose s.claims = g at h
  match g with
  | some (.unit v) =>
    obtain e | ⟨-, b, -, -, -, -, e⟩ := s.grantUnit_cases v
    · rw [State.access, e]
    · have hunit : (vmod s.conditioner.units v fun _ => some b)[u] = s.conditioner.units[u] :=
        vmod_other _ _ fun huv => h (by rw [huv])
      rw [State.access, e]
      unfold State.busySlot
      rw [hunit]
  | some (.other .readBack) => exact State.busySlot_congr (by simp [State.access]) u
  | some (.other .pageWrite) => exact State.busySlot_congr (by simp [State.access]) u
  | none => rfl

/-- A grant to a unit moves its work on with the knot that it claims (04 R71). -/
theorem State.grantPeriod_served {s : State} {u : UnitId} {b : BusyUnit} {w : WorkSlot} {x : Knot} (hb : s.busySlot u = some (b, w))
    (hx : s.unitClaim u = some x) (h : s.store.arbiter.choose s.claims = some (.unit u)) :
    s.grantPeriod.busySlot u =
      some (⟨b.slot, b.work.granted (s.context w.context).decimation (s.curve w.curve).knots w.samples x⟩, w) := by
  rw [State.grantPeriod_of_choose h]
  show (s.grantUnit u).busySlot u = _
  unfold State.grantUnit
  rw [hb, hx]
  exact State.busySlot_iff.2 ⟨vmod_self .., (State.busySlot_iff.1 hb).2⟩

namespace Converting
variable {s : State} {u : UnitId} {i : SlotId} {w : WorkSlot} {work : Working} {t : State} (h : Converting s u i w work t)
include h

theorem unitClaim {k : Nat} {x : Knot} (hw : work.wants (s.curve w.curve).knots = some k) (hx : s.store.knotAt (s.curve w.curve).pages k = some x) :
    t.unitClaim u = some x := by
  unfold State.unitClaim
  rw [h.busy]
  dsimp only
  rw [h.knots, h.pages, hw, Option.bind_some, CurveStore.knotAt_congr h.stored, hx]

/-- A grant, with what it makes of the unit's work. -/
theorem grantPeriod {work' : Working} (hb : t.grantPeriod.busySlot u = some (⟨i, work'⟩, w)) : Converting s u i w work' t.grantPeriod := by
  obtain ⟨htable, hcurves⟩ := t.grantPeriod_frame
  have hk : t.grantPeriod.context w.context = t.context w.context := by unfold State.context; rw [htable]
  have hc : t.grantPeriod.curve w.curve = t.curve w.curve := by unfold State.curve; rw [hcurves]
  refine ⟨h.counts.grantPeriod, hb, by rw [hk]; exact h.decimation, by rw [hc]; exact h.knots, by rw [hc]; exact h.pages, fun p hp => ?_, fun q hq => ?_⟩
  · exact (t.grantPeriod_page fun q hq e => h.spared q hq (e ▸ hp)).trans (h.stored p hp)
  · obtain ⟨q', hq', e⟩ := t.grantPeriod_claim hq
    exact e ▸ h.spared q' hq'

theorem passed (hg : t.store.arbiter.choose t.claims ≠ some (.unit u)) : Converting s u i w work t.grantPeriod :=
  h.grantPeriod ((State.grantPeriod_busySlot hg).trans h.busy)

theorem served {x : Knot} (hx : t.unitClaim u = some x) (hg : t.store.arbiter.choose t.claims = some (.unit u)) :
    Converting s u i w (work.granted (s.context w.context).decimation (s.curve w.curve).knots w.samples x) t.grantPeriod := by
  have hserved := State.grantPeriod_served h.busy hx hg
  rw [h.decimation, h.knots] at hserved
  exact h.grantPeriod hserved

theorem unitDone : t.unitDone u = true ↔ work.wants (s.curve w.curve).knots = none ∧ work.next = w.samples.length := by
  rw [State.unitDone_iff, h.busy, ← h.knots]
  constructor
  · rintro ⟨_, _, ⟨⟩, hd⟩
    exact hd
  · exact fun hd => ⟨_, _, rfl, hd⟩

end Converting

theorem State.claims_unitWaits {s : State} {u : UnitId} {x : Knot} (h : s.unitClaim u = some x) : s.claims.unitWaits u = true := by
  match u with
  | 0 => exact Option.isSome_iff_exists.2 ⟨x, h⟩
  | 1 => exact Option.isSome_iff_exists.2 ⟨x, h⟩

/-! ### Its periods (04 R75) -/

/-- The conversion in progress has at most `j` of the knots still to read, and its values come to `goal`. -/
structure ConvertingTo (s : State) (u : UnitId) (i : SlotId) (w : WorkSlot) (knot : Nat → Knot) (value : Half → Clamp × Half) (m : Nat) (goal : Working)
    (j : Nat) (work : Working) (t : State) : Prop extends Converting s u i w work t where
  reads : work.ReadsLeft knot (s.curve w.curve).knots value m w.samples j
  owes : work.Owes value w.samples (s.context w.context).decimation goal

section
variable {s : State} {u : UnitId} {i : SlotId} {w : WorkSlot} {knot : Nat → Knot} {value : Half → Clamp × Half} {m : Nat} {goal : Working}
  (hstored : ∀ k, k < (s.curve w.curve).knots → s.store.knotAt (s.curve w.curve).pages k = some (knot k))
  (hvalue : ∀ r, searchRun knot r m (searchStart (knot 0) (knot ((s.curve w.curve).knots - 1)) (s.curve w.curve).knots r) = some (value r))
  (hknots : 0 < (s.curve w.curve).knots)
include hstored hvalue hknots

/-- A period in which the work is not done leaves a knot less to read, or the unit one period nearer to its grant. -/
theorem ConvertingTo.accessPeriod {j : Nat} {work : Working} {t : State} (h : ConvertingTo s u i w knot value m goal j work t) (hj : 0 < j) :
    t.unitDone u = false ∧ ∃ j' work', ConvertingTo s u i w knot value m goal j' work' t.accessPeriod ∧
      3 * j' + t.accessPeriod.store.arbiter.unitWait u < 3 * j + t.store.arbiter.unitWait u := by
  obtain ⟨k, hk, hwants, ⟨j', hlt, hreads⟩, howes⟩ := h.reads.granted hvalue hknots hj h.owes
  have hu : t.unitDone u = false := Bool.eq_false_iff.2 fun hd => by
    obtain ⟨hnone, -⟩ := h.unitDone.1 hd
    rw [hwants] at hnone
    cases hnone
  have hdue := h.endDue hu
  have harbiter : t.endDue.store.arbiter = t.store.arbiter := CurveStore.arbiter_of_accessed t.endDue_accessed
  have hclaim := hdue.unitClaim hwants (hstored k hk)
  have hafter := t.endDue.store.arbiter.unitWait_after (State.claims_unitWaits hclaim)
  refine ⟨hu, ?_⟩
  unfold State.accessPeriod
  rw [← harbiter]
  by_cases hg : t.endDue.store.arbiter.choose t.endDue.claims = some (.unit u)
  · have hle := t.endDue.grantPeriod.store.arbiter.unitWait_le u
    have hpos := t.endDue.store.arbiter.unitWait_pos u
    exact ⟨j', _, ⟨hdue.served hclaim hg, hreads, howes⟩, by omega⟩
  · exact ⟨j, work, ⟨hdue.passed hg, h.reads, h.owes⟩, Nat.add_lt_add_left (hafter.resolve_left hg) _⟩

/-- Within 3 periods for each knot still to read every sample's value is taken. -/
theorem ConvertingTo.passUntil {j : Nat} {work : Working} {t : State} {n : Nat} (h : ConvertingTo s u i w knot value m goal j work t)
    (hn : 3 * j + t.store.arbiter.unitWait u ≤ n + 3) :
    ∃ work', ConvertingTo s u i w knot value m goal 0 work' (t.passUntil (fun t => t.unitDone u) n) := by
  induction n generalizing j work t with
  | zero =>
    have hpos := t.store.arbiter.unitWait_pos u
    obtain rfl : j = 0 := by omega
    exact ⟨work, h⟩
  | succ n ih =>
    obtain rfl | hj := Nat.eq_zero_or_pos j
    · obtain ⟨hwants, hnext, -⟩ := h.reads.done_of_zero h.owes
      rw [State.passUntil_of_done (h.unitDone.2 ⟨hwants, hnext⟩)]
      exact ⟨work, h⟩
    · obtain ⟨hu, j', work', h', hlt⟩ := h.accessPeriod hstored hvalue hknots hj
      rw [State.passUntil_succ hu]
      exact ih h' (by omega)

end

/-- Settles O54: the work reads at most 2 + m * c knots, each within 3 periods; CONVERSION_END waits longer than that. -/
theorem conversionsConvert : Obligations.ConversionsConvert := by
  intro s u b w knot value m hcounts hb hwork d n h2 _ h8 _ hstored _ hm hvalue _ hspared t
  have hstart : ConvertingTo s u b.slot w knot value m (takeAll n b.work (w.samples.map value)) (2 + m * w.samples.length) b.work s := by
    refine ⟨.start hcounts hb hspared, ?_, ?_⟩ <;> rw [hwork]
    · exact .first rfl rfl rfl rfl
    · rfl
  have hwait := s.store.arbiter.unitWait_le u
  obtain ⟨work, h⟩ := hstart.passUntil hstored hvalue (show 0 < d.knots by omega) (n := 3 * (2 + m * w.samples.length)) (by omega)
  obtain ⟨hwants, hnext, hgoal⟩ := h.reads.done_of_zero h.owes
  have hdone : t.unitDone u = true := h.unitDone.2 ⟨hwants, hnext⟩
  refine ⟨hdone, ?_, work, h.busy, hgoal⟩
  have hbusy : s.conditioner.units[u] ≠ none := by
    rw [(State.busySlot_iff.1 hb).1]
    simp
  have hbound : m * w.samples.length ≤ 6 * 8 := Nat.mul_le_mul hm h8
  rw [execConversionEnd_busy hbusy, State.passUntil_of_le (show 3 * (2 + m * w.samples.length) ≤ 151 by omega) hdone]

end Sys2Proof.Machine
end

section
/-! The completion of a page write: O27. -/

namespace Sys2Proof.Machine

/-! ### The loader's answer (05 R101, step 5) -/

theorem Management.store_responseQueue (m : Management) (r : Frame) : (m.store r).responseQueue = m.responseQueue := by
  obtain ⟨c, e⟩ := m.store_eq r
  rw [e]

theorem Management.store_waiting (m : Management) (r : Frame) : (m.store r).waiting = m.waiting := by
  obtain ⟨c, e⟩ := m.store_eq r
  rw [e]

/-- The response of a page write (05 R101, R102). -/
def State.writeResponse (s : State) (r : WriteRecord) (st : Status) : Frame :=
  responseFrame s.mgmt.address r.tag r.manager st [byteOf r.page.val, flagByte r.saturated]

section
variable (s : State) (r : WriteRecord) (st : Status)

theorem State.answerWrite_eq :
    s.answerWrite r st = ({ s with mgmt := s.mgmt.store (s.writeResponse r st) } : State).offerLoader (s.writeResponse r st) := rfl

theorem State.answerWrite_placed (h : s.mgmt.responseQueue.length < 4) :
    s.answerWrite r st = { s with
      loader := { s.loader with state := .idle, write := none }
      mgmt := { s.mgmt.store (s.writeResponse r st) with responseQueue := s.mgmt.responseQueue ++ [s.writeResponse r st] } } := by
  rw [State.answerWrite_eq, State.offerLoader, if_pos (by rwa [Management.store_responseQueue]), Management.store_responseQueue]

theorem State.answerWrite_held (h : 4 ≤ s.mgmt.responseQueue.length) :
    s.answerWrite r st = { s with
      loader := { s.loader with state := .posting }
      mgmt := { s.mgmt.store (s.writeResponse r st) with waiting := s.mgmt.waiting ++ [⟨.loader, s.writeResponse r st⟩] } } := by
  rw [State.answerWrite_eq, State.offerLoader, if_neg (by rw [Management.store_responseQueue]; exact Nat.not_lt.2 h), Management.store_waiting]

end

/-- Settles O27: either completion is its own effect, then the loader's answer on what that leaves. -/
theorem pageWriteAnswer : Obligations.PageWriteAnswer := fun _ r =>
  ⟨fun hroom => ⟨State.answerWrite_placed _ r .ok hroom, State.answerWrite_placed _ r .leaseLost hroom⟩,
    fun hfull => ⟨State.answerWrite_held _ r .ok hfull, State.answerWrite_held _ r .leaseLost hfull⟩⟩

end Sys2Proof.Machine
end

section
/-! The lease checks of the loader commands: O38. -/

namespace Sys2Proof.Machine

/-! ### The rows of the loader commands (05 R88) -/

/-- The loader commands: row, code, length rule, whether the owner's command renews the lease, and what follows the lease checks. -/
inductive LoaderRow : Instr → Byte → (List Byte → Bool) → Bool → (Frame → State → State) → Prop
  | stageKnots : LoaderRow .stageKnots codeStageKnots stageKnotsLength true stageKnotsChecked
  | clearStaging : LoaderRow .clearStaging codeClearStaging (lengthIs 0) true clearStagingChecked
  | readStaging : LoaderRow .readStaging codeReadStaging (lengthIs 2) true readStagingChecked
  | writePage : LoaderRow .writePage codeWritePage writePageLength false writePageChecked
  | defineCurve : LoaderRow .defineCurve codeDefineCurve defineCurveLength true defineCurveChecked
  | closeLease : LoaderRow .closeLease codeCloseLease (lengthIs 0) true closeLeaseChecked

theorem State.renewLease_begun {s : State} {l : Lease} (f : Frame) (h : s.loader.lease = some l) : (s.begun f).renewLease = renewed s f l := by
  unfold State.renewLease renewed
  rw [State.begun_loader, h]
  rfl

section
variable {s : State} {f : Frame} {go : State → State} {l : Lease}

theorem State.leaseCheck_noLease (renews : Bool) (h : s.loader.lease = none) : s.leaseCheck f renews go = s.respond f .noLease [] := by
  unfold State.leaseCheck
  rw [h]

theorem State.leaseCheck_notOwner (renews : Bool) (h : s.loader.lease = some l) (ho : l.owner ≠ f.aux) :
    s.leaseCheck f renews go = s.respond f .notOwner l.report := by
  unfold State.leaseCheck
  rw [h]
  exact if_neg ho

theorem State.leaseCheck_owner (renews : Bool) (h : s.loader.lease = some l) (ho : l.owner = f.aux) :
    s.leaseCheck f renews go = go (if renews then s.renewLease else s) := by
  unfold State.leaseCheck
  rw [h]
  exact if_pos ho

end

namespace LoaderRow
variable {c : Instr} {code : Byte} {ok : List Byte → Bool} {renews : Bool} {checked : Frame → State → State}

theorem exec_eq (h : LoaderRow c code ok renews checked) (s : State) :
    exec c s = s.command (Frame.hasCode code) ok fun f s => s.leaseCheck f renews (checked f) := by
  cases h <;> rfl

section
variable (h : LoaderRow c code ok renews checked) {s : State} {f : Frame} {l : Lease} (ht : s.Takes f) (hc : f.code = code)
  (hl : ok f.payload = true)
include h ht hc hl

theorem exec_taken : exec c s = .next ((s.begun f).leaseCheck f renews (checked f)) := by
  rw [h.exec_eq]
  exact State.command_taken ht (beq_iff_eq.2 hc) hl

theorem exec_noLease (hn : s.loader.lease = none) : exec c s = .next (s.answered f .noLease []) := by
  rw [h.exec_taken ht hc hl, State.leaseCheck_noLease (s := s.begun f) renews hn]
  rfl

theorem exec_notOwner (hs : s.loader.lease = some l) (ho : l.owner ≠ f.aux) : exec c s = .next (s.answered f .notOwner (leaseReport l)) := by
  rw [h.exec_taken ht hc hl, State.leaseCheck_notOwner (s := s.begun f) renews hs ho]
  rfl

end

/-- A renewing command from the owner. -/
theorem exec_renewed (h : LoaderRow c code ok true checked) {s : State} {f : Frame} {l : Lease} (hh : s.Holds f l) (hc : f.code = code)
    (hl : ok f.payload = true) : exec c s = .next (checked f (renewed s f l)) := by
  obtain ⟨ht, hs, ho⟩ := hh
  rw [h.exec_taken ht hc hl, State.leaseCheck_owner (s := s.begun f) true hs ho, if_pos rfl, State.renewLease_begun f hs]

theorem renews_of_ne (h : LoaderRow c code ok renews checked) (hc : c ≠ .writePage) : renews = true := by
  cases h with
  | writePage => exact absurd rfl hc
  | _ => rfl

end LoaderRow

/-! ### Their length rules (05 R93, R104) -/

theorem stageKnotsLength_iff (p : List Byte) :
    stageKnotsLength p = true ↔ 6 ≤ p.length ∧ p.length ≤ 46 ∧ p.length % 4 = 2 := by
  simp [stageKnotsLength, and_assoc]

theorem defineCurveLength_iff (p : List Byte) :
    defineCurveLength p = true ↔ 4 ≤ p.length ∧ p.length ≤ 7 ∧ p.length = 3 + (p.getD 1 0).toNat := by
  match p with
  | [] => simp [defineCurveLength]
  | [_] => simp [defineCurveLength]
  | _ :: _ :: _ => simp [defineCurveLength, and_assoc]

/-- A loader command's rule of `lengthRules` is that of its row. -/
theorem loaderRow_of_lengthRules {row : Instr × Byte × (List Byte → Bool)} (h : row ∈ lengthRules)
    (hc : row.2.1 ∈ [0x21, 0x22, 0x23, 0x24, 0x25, 0x26]) :
    ∃ ok renews checked, LoaderRow row.1 row.2.1 ok renews checked ∧ ∀ p, row.2.2 p = true → ok p = true := by
  have hf : row ∈ lengthRules.filter fun row => row.2.1 ∈ [0x21, 0x22, 0x23, 0x24, 0x25, 0x26] := List.mem_filter.2 ⟨h, decide_eq_true hc⟩
  fin_cases hf
  · refine ⟨_, _, _, .stageKnots, fun p hp => (stageKnotsLength_iff p).2 ?_⟩
    simp only [List.any_eq_true, List.mem_range, beq_iff_eq] at hp
    obtain ⟨n, hn, hlen⟩ := hp
    omega
  · exact ⟨_, _, _, .clearStaging, fun _ hp => hp⟩
  · exact ⟨_, _, _, .readStaging, fun _ hp => hp⟩
  · refine ⟨_, _, _, .writePage, fun p hp => ?_⟩
    simp only [Bool.or_eq_true, beq_iff_eq] at hp
    exact decide_eq_true (by omega)
  · refine ⟨_, _, _, .defineCurve, fun p hp => (defineCurveLength_iff p).2 ?_⟩
    simpa only [Bool.and_eq_true, decide_eq_true_eq, beq_iff_eq, and_assoc] using hp
  · exact ⟨_, _, _, .closeLease, fun _ hp => hp⟩

/-! ### What a renewing command leaves of the lease (05 R88, R91) -/

/-- Past the lease checks only CLOSE_LEASE touches the lease: it ends it, unless the loader is WRITING. -/
theorem LoaderRow.checked_lease {c : Instr} {code : Byte} {ok : List Byte → Bool} {checked : Frame → State → State}
    (h : LoaderRow c code ok true checked) (f : Frame) (s : State) :
    (checked f s).loader.lease = s.loader.lease ∨
      (c = .closeLease ∧ s.loader.state ≠ .writing ∧ (checked f s).loader.lease = none) := by
  cases h with
  | stageKnots =>
    refine .inl ?_
    unfold stageKnotsChecked
    split
    · split
      · rfl
      · split <;> rfl
    · rfl
  | clearStaging =>
    refine .inl ?_
    unfold clearStagingChecked
    split <;> rfl
  | readStaging =>
    refine .inl ?_
    unfold readStagingChecked
    split
    · dsimp only
      split <;> rfl
    · rfl
  | defineCurve =>
    refine .inl ?_
    unfold defineCurveChecked
    split <;> rfl
  | closeLease =>
    unfold closeLeaseChecked
    split
    next => exact .inl rfl
    next hs => exact .inr ⟨rfl, hs, rfl⟩

/-! ### OPEN_LEASE (05 R87) -/

section
variable {s : State} {f : Frame} (ht : s.Takes f) (hc : f.code = codeOpenLease) (hp : f.payload = [])
include ht hc hp

theorem execOpenLease_taken : exec .openLease s = .next (openLeaseBody f (s.begun f)) :=
  State.command_taken ht (beq_iff_eq.2 hc) (by rw [hp]; rfl)

theorem execOpenLease_closed (hl : s.loader.lease = none) :
    exec .openLease s = .next (if s.loader.state = .writing then s.answered f .busy [0xFF, 0, 0]
      else ((s.begun f).openLease f.aux).leaseGranted f .opened) := by
  rw [execOpenLease_taken ht hc hp, openLeaseBody, State.begun_loader, hl]
  rfl

theorem execOpenLease_open {l : Lease} (hl : s.loader.lease = some l) :
    exec .openLease s = .next (if l.owner = f.aux then (renewed s f l).leaseGranted f .renewed
      else s.answered f .busy (leaseReport l)) := by
  rw [execOpenLease_taken ht hc hp, openLeaseBody, State.begun_loader, hl, State.renewLease_begun f hl]
  rfl

end

/-- The grant answers with the duration just latched (05 R87). -/
theorem State.leaseGranted_eq {s : State} {l : Lease} {time : Half} (f : Frame) (o : LeaseOutcome) (hl : s.loader.lease = some l)
    (hd : l.duration = time.toNat) : s.leaseGranted f o = s.respond f .ok (o.code :: halfBytes time) := by
  rw [State.leaseGranted, hl, Option.elim_some, hd, halfOfNat, BitVec.ofNat_toNat, BitVec.setWidth_eq]

theorem renewingCommands_renew :
    ∀ row ∈ renewingCommands, row.1 ≠ .writePage ∧ row.2 ∈ ([0x21, 0x22, 0x23, 0x24, 0x25, 0x26] : List Byte) := by
  decide

/-- Settles O38: OPEN_LEASE by the lease, then every row of the loader commands by the lease checks. -/
theorem leaseChecks : Obligations.LeaseChecks := by
  refine ⟨fun s f ht hc hp => ⟨fun hl hs => ?_, fun hl hs => ?_, fun l hl => ⟨fun ho => ?_, fun ho => ?_⟩⟩,
    fun row hrow hcode s f ht hc hp => ?_, fun row hrow ok hrule s f l ht hc hp hl ho => ?_⟩
  · rw [execOpenLease_closed ht hc hp hl, if_neg hs, State.leaseGranted_eq f .opened rfl rfl]
    rfl
  · rw [execOpenLease_closed ht hc hp hl, if_pos hs]
  · rw [execOpenLease_open ht hc hp hl, if_pos ho, State.leaseGranted_eq f .renewed rfl rfl]
    rfl
  · rw [execOpenLease_open ht hc hp hl, if_neg ho]
  · obtain ⟨ok, renews, checked, hloader, hok⟩ := loaderRow_of_lengthRules hrow hcode
    exact ⟨hloader.exec_noLease ht hc (hok _ hp), fun l => hloader.exec_notOwner ht hc (hok _ hp)⟩
  · obtain ⟨hne, hcode⟩ := renewingCommands_renew row hrow
    obtain ⟨ok', renews, checked, hloader, hok⟩ := loaderRow_of_lengthRules hrule hcode
    obtain rfl := hloader.renews_of_ne hne
    exact ⟨_, hloader.exec_renewed ⟨ht, hl, ho⟩ hc (hok _ hp), hloader.checked_lease f (renewed s f l)⟩

end Sys2Proof.Machine
end

section
/-! The staging page: where knots land, and the commands on it: O39. -/

namespace Sys2Proof.Machine

/-! ### Where staged knots land (05 R94) -/

@[simp] theorem Staging.putAll_nil (g : Staging) (b : Nat) : g.putAll b [] = g := rfl

@[simp] theorem Staging.putAll_cons (g : Staging) (b : Nat) (k : Knot) (rest : List Knot) :
    g.putAll b (k :: rest) = (g.put b k).putAll (b + 1) rest := rfl

theorem Staging.put_slots (g : Staging) (b : Nat) (k : Knot) {i : Nat} (hi : i < 16) :
    (g.put b k).slots[i] = if min b 15 = i then k else g.slots[i] :=
  Vector.getElem_set (by omega) hi

theorem Staging.put_saturated (g : Staging) (b : Nat) (k : Knot) : (g.put b k).saturated = true ↔ g.saturated = true ∨ 15 < b := by
  simp [Staging.put]

/-- A slot that no position names keeps its knot. -/
theorem Staging.putAll_slots_of_ne (g : Staging) (b : Nat) (knots : List Knot) {i : Nat} (hi : i < 16)
    (h : ∀ j, j < knots.length → min (b + j) 15 ≠ i) : (g.putAll b knots).slots[i] = g.slots[i] := by
  induction knots generalizing g b with
  | nil => rfl
  | cons k rest ih =>
    have hrest : ∀ j, j < rest.length → min (b + 1 + j) 15 ≠ i := fun j hj => by
      have := h (j + 1) (Nat.succ_lt_succ hj)
      rwa [show b + 1 + j = b + (j + 1) by omega]
    rw [Staging.putAll_cons, ih (g.put b k) (b + 1) hrest, Staging.put_slots, if_neg (by simpa using h 0 (Nat.zero_lt_succ _))]

/-- Of the knots staged at one slot the last stays. -/
theorem Staging.putAll_slots_of_last (g : Staging) (b : Nat) (knots : List Knot) {n : Nat} {k : Knot} (hk : knots[n]? = some k)
    {i : Nat} (hi : i < 16) (hn : min (b + n) 15 = i) (hlast : ∀ j, n < j → j < knots.length → min (b + j) 15 ≠ i) :
    (g.putAll b knots).slots[i] = k := by
  induction knots generalizing g b n with
  | nil => cases hk
  | cons k' rest ih =>
    have hrest : ∀ j, n < j + 1 → j < rest.length → min (b + 1 + j) 15 ≠ i := fun j hnj hj => by
      have := hlast (j + 1) hnj (Nat.succ_lt_succ hj)
      rwa [show b + 1 + j = b + (j + 1) by omega]
    rw [Staging.putAll_cons]
    cases n with
    | zero =>
      cases hk
      rw [Staging.putAll_slots_of_ne (g.put b k) (b + 1) rest hi fun j => hrest j (Nat.zero_lt_succ j), Staging.put_slots, if_pos (by simpa using hn)]
    | succ n =>
      exact ih (g.put b k') (b + 1) hk (by rwa [show b + 1 + n = b + (n + 1) by omega]) fun j hj => hrest j (Nat.succ_lt_succ hj)

/-- The saturation flag is set by a knot past the end, and stays set. -/
theorem Staging.putAll_saturated (g : Staging) (b : Nat) (knots : List Knot) :
    (g.putAll b knots).saturated = true ↔ g.saturated = true ∨ (knots ≠ [] ∧ 16 < b + knots.length) := by
  induction knots generalizing g b with
  | nil => simp
  | cons k rest ih =>
    rw [Staging.putAll_cons, ih, Staging.put_saturated, or_assoc]
    refine or_congr_right ?_
    cases rest with
    | nil =>
      simp only [ne_eq, reduceCtorEq, not_true_eq_false, not_false_eq_true, false_and, true_and, or_false, List.length_cons, List.length_nil]
      omega
    | cons k' rest =>
      simp only [ne_eq, reduceCtorEq, not_false_eq_true, true_and, List.length_cons]
      omega

/-! ### Knots on the link (05 R93, R96) -/

theorem knotsOf_cons (k : Knot) (rest : List Byte) : knotsOf (knotBytes k ++ rest) = k :: knotsOf rest := by
  show ⟨halfOf _ _, halfOf _ _⟩ :: knotsOf rest = _
  rw [halfOf_halfBytes, halfOf_halfBytes]

/-- The payload spells the knots it was built from. -/
theorem knotsOf_flatMap (knots : List Knot) : knotsOf (knots.flatMap knotBytes) = knots := by
  induction knots with
  | nil => rfl
  | cons k rest ih => rw [List.flatMap_cons, knotsOf_cons, ih]

theorem flatMap_knotBytes_length (knots : List Knot) : (knots.flatMap knotBytes).length = 4 * knots.length := by
  induction knots with
  | nil => rfl
  | cons k rest ih =>
    rw [List.flatMap_cons, List.length_append, ih, List.length_cons]
    show 4 + _ = _
    omega

/-! ### STAGE_KNOTS (05 R93, R94) -/

theorem Byte.eq_one_of_toNat {b : Byte} (h0 : b ≠ 0) (h1 : b.toNat ≤ 1) : b = 1 := by
  bv_omega

theorem stageStart_bad {cursor : Nat} {mode start : Byte} (h : 1 < mode.toNat ∨ (mode = 0 ∧ 15 < start.toNat)) :
    stageStart cursor mode start = none := by
  unfold stageStart
  obtain h | ⟨rfl, h⟩ := h
  · rw [if_neg (by rintro rfl; cases h), if_neg (by rintro rfl; exact Nat.lt_irrefl 1 h)]
  · rw [if_pos rfl, if_neg (Nat.not_le.2 h)]

theorem stageStart_good {cursor : Nat} {mode start : Byte} (h : ¬ (1 < mode.toNat ∨ (mode = 0 ∧ 15 < start.toNat))) :
    stageStart cursor mode start = some (if mode = 0 then start.toNat else cursor) := by
  obtain ⟨hmode, hstart⟩ := not_or.1 h
  unfold stageStart
  by_cases h0 : mode = 0
  · rw [if_pos h0, if_pos h0, if_pos (Nat.not_lt.1 fun hs => hstart ⟨h0, hs⟩)]
  · rw [if_neg h0, if_neg h0, if_pos (Byte.eq_one_of_toNat h0 (Nat.not_lt.1 hmode))]

section
variable (s : State) {f : Frame} {mode start : Byte} {rest : List Byte} (hp : f.payload = mode :: start :: rest)
include hp

theorem stageKnotsChecked_badArg (h : stageStart s.loader.staging.cursor mode start = none) :
    stageKnotsChecked f s = s.respond f .badArg [] := by
  simp only [stageKnotsChecked, hp, h]

variable {b : Nat} (h : stageStart s.loader.staging.cursor mode start = some b)
include h

theorem stageKnotsChecked_busy (hs : s.loader.state = .writing) : stageKnotsChecked f s = s.respond f .busy [1] := by
  simp only [stageKnotsChecked, hp, h, hs, if_pos]
  rfl

theorem stageKnotsChecked_staged (hs : s.loader.state ≠ .writing) {knots : List Knot} (hk : knotsOf rest = knots) :
    stageKnotsChecked f s = ({ s with loader := { s.loader with staging := s.loader.staging.stage b knots } } : State).respond f .ok
      [byteOf (s.loader.staging.stage b knots).cursor, byteOf (b + knots.length - 16), flagByte (s.loader.staging.stage b knots).saturated] := by
  simp only [stageKnotsChecked, hp, h, hk, if_neg hs]

end

/-! ### CLEAR_STAGING (05 R95) -/

theorem clearStagingChecked_busy {s : State} (f : Frame) (hs : s.loader.state = .writing) :
    clearStagingChecked f s = s.respond f .busy [1] := by
  rw [clearStagingChecked, if_pos hs, hs]
  rfl

theorem clearStagingChecked_cleared {s : State} (f : Frame) (hs : s.loader.state ≠ .writing) :
    clearStagingChecked f s = ({ s with loader := { s.loader with staging := .cleared } } : State).respond f .ok [] := if_neg hs

/-! ### READ_STAGING (05 R96) -/

section
variable (s : State) {f : Frame} {first count : Byte} (hp : f.payload = [first, count])
include hp

theorem readStagingChecked_badArg (h : 15 < first.toNat ∨ count.toNat < 1 ∨ 11 < count.toNat ∨ 16 < first.toNat + count.toNat) :
    readStagingChecked f s = s.respond f .badArg [] := by
  simp only [readStagingChecked, hp]
  exact if_neg (by omega)

theorem readStagingChecked_report (h : ¬ (15 < first.toNat ∨ count.toNat < 1 ∨ 11 < count.toNat ∨ 16 < first.toNat + count.toNat)) :
    readStagingChecked f s = s.respond f .ok ([first, count, byteOf s.loader.staging.cursor, flagByte s.loader.staging.saturated] ++
      ((s.loader.staging.slots.toList.drop first.toNat).take count.toNat).flatMap knotBytes) := by
  have hreport : readStagingChecked f s = s.respond f .ok (s.loader.staging.report first.toNat count.toNat) := by
    simp only [readStagingChecked, hp]
    exact if_pos (by omega)
  rw [hreport, Staging.report, byteOf_toNat, byteOf_toNat]
  rfl

end

/-! ### The commands on the staging page -/

/-- Settles O39: each command past its lease checks, then the staging of knots slot by slot. -/
theorem stagingCommands : Obligations.StagingCommands := by
  refine ⟨fun s f l h => ⟨fun mode start knots hc hp h1 h11 => ?_, fun hc hp => ?_, fun first count hc hp => ?_⟩,
    fun g b knots hb => ⟨rfl, ?_, fun i hi => ?_, fun i k hk => ⟨fun hlt => ?_, fun hge hlast => ?_⟩⟩⟩
  · have hlen : stageKnotsLength f.payload = true := by
      rw [stageKnotsLength_iff, hp, List.length_cons, List.length_cons, flatMap_knotBytes_length]
      omega
    rw [LoaderRow.stageKnots.exec_renewed h hc hlen]
    exact ⟨fun hbad => congrArg _ (stageKnotsChecked_badArg (renewed s f l) hp (stageStart_bad hbad)),
      fun hgood hs => congrArg _ (stageKnotsChecked_busy (renewed s f l) hp (stageStart_good hgood) hs),
      fun hgood hs => congrArg _ (stageKnotsChecked_staged (renewed s f l) hp (stageStart_good hgood) hs (knotsOf_flatMap knots))⟩
  · rw [LoaderRow.clearStaging.exec_renewed h hc (by rw [hp]; rfl)]
    exact ⟨fun hs => congrArg _ (clearStagingChecked_busy (s := renewed s f l) f hs),
      fun hs => congrArg _ (clearStagingChecked_cleared (s := renewed s f l) f hs)⟩
  · rw [LoaderRow.readStaging.exec_renewed h hc (by rw [hp]; rfl)]
    exact ⟨fun hbad => congrArg _ (readStagingChecked_badArg (renewed s f l) hp hbad),
      fun hgood => congrArg _ (readStagingChecked_report (renewed s f l) hp hgood)⟩
  · refine (g.putAll_saturated b knots).trans (or_congr_right ⟨fun h => h.2, fun h => ⟨?_, h⟩⟩)
    rintro rfl
    rw [List.length_nil] at h
    omega
  · exact g.putAll_slots_of_ne b knots i.isLt fun j hj => by omega
  · exact g.putAll_slots_of_last b knots hk (by omega) (by omega) fun j hj _ => by omega
  · exact g.putAll_slots_of_last b knots hk (by omega) (by omega) fun j hj _ => by omega

end Sys2Proof.Machine
end

section
/-! WRITE_PAGE past its lease checks: O40. -/

namespace Sys2Proof.Machine

/-! ### The page a payload names (05 R98, check 3) -/

theorem pageOf_eq_some_iff {b : Byte} {p : PageId} : pageOf b = some p ↔ p.val = b.toNat := by
  unfold pageOf
  split
  next h => simp [Fin.ext_iff, eq_comm]
  next h => exact iff_of_false (by simp) fun e => h (e ▸ p.isLt)

section
variable (t : CurveStore)

theorem CurveStore.pageToWrite_nil {payload : List Byte} (h : payload = []) : t.pageToWrite payload = t.free.head? := by
  rw [h]
  rfl

theorem CurveStore.pageToWrite_eq_some_iff {payload : List Byte} {b : Byte} (h : payload = [b]) {p : PageId} :
    t.pageToWrite payload = some p ↔ p.val = b.toNat ∧ p ∈ t.free := by
  simp [h, CurveStore.pageToWrite, Option.filter_eq_some_iff, pageOf_eq_some_iff]

theorem CurveStore.pageToWrite_eq_none_iff {payload : List Byte} {b : Byte} (h : payload = [b]) :
    t.pageToWrite payload = none ↔ ∀ p : PageId, p.val = b.toNat → p ∉ t.free := by
  simp [Option.eq_none_iff_forall_ne_some, CurveStore.pageToWrite_eq_some_iff t h]

end

/-! ### Its checks in order (05 R98, R99) -/

section
variable {s : State} (f : Frame)

theorem writePageChecked_busy (hs : s.loader.state ≠ .idle) : writePageChecked f s = s.respond f .busy [s.loader.state.code] := if_pos hs

variable (hs : s.loader.state = .idle)
include hs

theorem writePageChecked_full (hfull : 8 ≤ s.store.loose.length) : writePageChecked f s = s.respond f .noRoom [1] := by
  rw [writePageChecked, if_neg (not_not.2 hs)]
  exact if_pos hfull

variable (hroom : s.store.loose.length < Config.looseSize)
include hroom

theorem writePageChecked_some {p : PageId} (hp : s.store.pageToWrite f.payload = some p) : writePageChecked f s = s.startWrite f p := by
  rw [writePageChecked, if_neg (not_not.2 hs), if_neg (Nat.not_le.2 hroom), hp]

theorem writePageChecked_none (hp : s.store.pageToWrite f.payload = none) :
    writePageChecked f s = if f.payload.isEmpty then s.respond f .noRoom [2] else s.respond f .badArg [] := by
  rw [writePageChecked, if_neg (not_not.2 hs), if_neg (Nat.not_le.2 hroom), hp]

end

/-- WRITE_PAGE from the lease's owner: the lease is not renewed (05 R88). -/
theorem execWritePage_taken {s : State} {f : Frame} {l : Lease} (h : s.Holds f l) (hc : f.code = codeWritePage) (hp : f.payload.length ≤ 1) :
    exec .writePage s = .next (writePageChecked f (s.begun f)) := by
  obtain ⟨ht, hl, ho⟩ := h
  rw [LoaderRow.writePage.exec_taken ht hc (decide_eq_true hp), State.leaseCheck_owner (s := s.begun f) false hl ho]
  rfl

/-- Settles O40: the checks one by one, the last two by the page the payload names. -/
theorem writePageResult : Obligations.WritePageResult := by
  intro s f l h hc hlen
  rw [execWritePage_taken h hc hlen]
  refine ⟨fun hs => congrArg _ (writePageChecked_busy (s := s.begun f) f hs), fun hs => ⟨fun hfull => ?_, fun hroom => ⟨fun hp hfree => ?_,
    fun p rest hp hfree => ?_, fun b hp => ⟨fun p hb hfree => ?_, fun hnone => ?_⟩⟩⟩⟩
  · exact congrArg _ (writePageChecked_full (s := s.begun f) f hs hfull)
  · have hpage : s.store.pageToWrite f.payload = none := by rw [CurveStore.pageToWrite_nil _ hp, hfree]; rfl
    rw [writePageChecked_none (s := s.begun f) f hs hroom hpage, hp]
    rfl
  · have hpage : s.store.pageToWrite f.payload = some p := by rw [CurveStore.pageToWrite_nil _ hp, hfree]; rfl
    exact congrArg _ (writePageChecked_some (s := s.begun f) f hs hroom hpage)
  · have hpage := (s.store.pageToWrite_eq_some_iff hp).2 ⟨hb, hfree⟩
    exact congrArg _ (writePageChecked_some (s := s.begun f) f hs hroom hpage)
  · have hpage := (s.store.pageToWrite_eq_none_iff hp).2 hnone
    rw [writePageChecked_none (s := s.begun f) f hs hroom hpage, hp]
    rfl

end Sys2Proof.Machine
end

section
/-! DEFINE_CURVE past its lease checks, and what the definition leaves: O41. -/

namespace Sys2Proof.Machine

/-! ### The page list (05 R104, check 3) -/

theorem pageOf_byteOf (p : PageId) : pageOf (byteOf p.val) = some p :=
  pageOf_eq_some_iff.2 (Nat.mod_eq_of_lt (Nat.lt_trans p.isLt (by decide))).symm

theorem eq_byteOf_of_pageOf {b : Byte} {p : PageId} (h : pageOf b = some p) : b = byteOf p.val := by
  rw [pageOf_eq_some_iff.1 h, byteOf_toNat]

theorem byteOf_page_injective : Function.Injective fun p : PageId => byteOf p.val := fun p q h => by
  have hpage : some p = some q := by rw [← pageOf_byteOf p, ← pageOf_byteOf q]; exact congrArg pageOf h
  exact Option.some.inj hpage

/-- Entry `i` of a page list names a loose page with a clear mark, and no earlier entry names it (05 R104, check 3). -/
def NamesLoose (loose : List LoosePage) (entries : List Byte) (i : Nat) : Prop :=
  ∃ p : PageId, entries[i]? = some (byteOf p.val) ∧ ⟨p, false⟩ ∈ loose ∧ ∀ j, j < i → entries[j]? ≠ entries[i]?

section
variable {loose : List LoosePage} {seen : List PageId} {b : Byte} {rest : List Byte}

/-- The entry that follows those of the pages seen. -/
theorem namesLoose_next : NamesLoose loose (seen.map (fun p => byteOf p.val) ++ b :: rest) seen.length ↔
    ∃ p : PageId, b = byteOf p.val ∧ ⟨p, false⟩ ∈ loose ∧ p ∉ seen := by
  have hget : (seen.map (fun p => byteOf p.val) ++ b :: rest)[seen.length]? = some b := by
    rw [List.getElem?_append_right (by simp)]
    simp
  have hearlier : ∀ j, j < seen.length → (seen.map (fun p => byteOf p.val) ++ b :: rest)[j]? = seen[j]?.map fun p => byteOf p.val := fun j hj => by
    rw [List.getElem?_append_left (by simpa using hj), List.getElem?_map]
  unfold NamesLoose
  refine exists_congr fun p => ?_
  rw [hget, Option.some.injEq]
  refine and_congr_right fun hb => and_congr_right fun _ => ⟨fun h hm => ?_, fun h j hj e => h ?_⟩
  · obtain ⟨j, hj, e⟩ := List.getElem_of_mem hm
    refine h j hj ?_
    rw [hearlier j hj, List.getElem?_eq_getElem hj, e, hb]
    rfl
  · rw [hearlier j hj, List.getElem?_eq_getElem hj, hb] at e
    have hpage := byteOf_page_injective (Option.some.inj e)
    exact hpage ▸ List.getElem_mem hj

theorem loosePages_cons_named {p : PageId} (hb : b = byteOf p.val) (hl : ⟨p, false⟩ ∈ loose) (hs : p ∉ seen) :
    loosePages loose seen (b :: rest) = (loosePages loose (seen ++ [p]) rest).map (p :: ·) := by
  have hnamed : (pageOf b).filter (fun p => loose.contains ⟨p, false⟩ && !seen.contains p) = some p :=
    Option.filter_eq_some_iff.2 ⟨hb ▸ pageOf_byteOf p, by simp [hl, hs]⟩
  simp only [loosePages, hnamed]
  cases loosePages loose (seen ++ [p]) rest <;> rfl

theorem loosePages_cons_unnamed (h : ¬ ∃ p : PageId, b = byteOf p.val ∧ ⟨p, false⟩ ∈ loose ∧ p ∉ seen) :
    loosePages loose seen (b :: rest) = .error seen.length := by
  have hnone : (pageOf b).filter (fun p => loose.contains ⟨p, false⟩ && !seen.contains p) = none := by
    refine Option.eq_none_iff_forall_ne_some.2 fun p hp => ?_
    obtain ⟨hpage, hfree⟩ := Option.filter_eq_some_iff.1 hp
    simp only [Bool.and_eq_true, Bool.not_eq_true', List.contains_eq_mem, decide_eq_true_eq, decide_eq_false_iff_not] at hfree
    exact h ⟨p, eq_byteOf_of_pageOf hpage, hfree⟩
  rw [loosePages, hnone]

end

section
variable {loose : List LoosePage} {seen : List PageId} {entries rest : List Byte}

/-- Entries that all name such pages are a page list. -/
theorem loosePages_of_named (he : entries = seen.map (fun p => byteOf p.val) ++ rest)
    (h : ∀ i, i < entries.length → NamesLoose loose entries i) :
    ∃ pages : List PageId, pages.map (fun p => byteOf p.val) = rest ∧ loosePages loose seen rest = .ok pages := by
  induction rest generalizing seen with
  | nil => exact ⟨[], rfl, rfl⟩
  | cons b rest ih =>
    obtain ⟨p, hb, hl, hs⟩ := namesLoose_next.1 (he ▸ h seen.length (by simp [he]))
    obtain ⟨pages, hmap, hpages⟩ := ih (seen := seen ++ [p]) (by simp [he, hb])
    exact ⟨p :: pages, by rw [List.map_cons, hmap, ← hb], by rw [loosePages_cons_named hb hl hs, hpages]; rfl⟩

/-- The first entry that does not is reported. -/
theorem loosePages_of_unnamed (he : entries = seen.map (fun p => byteOf p.val) ++ rest) {i : Nat} (hseen : seen.length ≤ i)
    (hi : i < entries.length) (h : ∀ j, j < i → NamesLoose loose entries j) (hn : ¬ NamesLoose loose entries i) :
    loosePages loose seen rest = .error i := by
  induction rest generalizing seen with
  | nil =>
    rw [he, List.append_nil, List.length_map] at hi
    omega
  | cons b rest ih =>
    obtain rfl | hlt := Nat.eq_or_lt_of_le hseen
    · exact loosePages_cons_unnamed fun hnamed => hn (he ▸ namesLoose_next.2 hnamed)
    · obtain ⟨p, hb, hl, hs⟩ := namesLoose_next.1 (he ▸ h seen.length hlt)
      rw [loosePages_cons_named hb hl hs, ih (seen := seen ++ [p]) (by simp [he, hb]) (by simpa using hlt)]
      rfl

end

theorem knotsFit_iff (pages knots : Nat) :
    knotsFit pages knots = true ↔ 2 ≤ knots ∧ 16 * (pages - 1) + 1 ≤ knots ∧ knots ≤ 16 * pages := by
  simp [knotsFit, and_assoc]

/-! ### Checks 1 to 4 (05 R104) -/

section
variable (s : State) {f : Frame} {id count knots : Byte} {entries : List Byte} (hp : f.payload = id :: count :: (entries ++ [knots]))
include hp

theorem defineCurveChecked_badId (h : 48 ≤ id.toNat) : defineCurveChecked f s = s.respond f .badArg [1, 0] := by
  simp only [defineCurveChecked, State.checkDefinition, hp, curveOf_of_lt (Nat.lt_of_succ_le h)]

variable {c : CurveId} (hc : c.val = id.toNat)
include hc

theorem defineCurveChecked_inUse (h : (s.curve c).state ≠ .empty) :
    defineCurveChecked f s = s.respond f .inUse [(s.curve c).state.code] := by
  simp only [defineCurveChecked, State.checkDefinition, hp, curveOf_val id hc, if_pos h]

variable (hempty : (s.curve c).state = .empty) (hlen : entries.length = count.toNat)
include hempty hlen

theorem defineCurveChecked_badPage {i : Nat} (h : loosePages s.store.loose [] entries = .error i) :
    defineCurveChecked f s = s.respond f .badArg [2, byteOf i] := by
  simp only [defineCurveChecked, State.checkDefinition, hp, curveOf_val id hc, hempty, ne_eq, not_true_eq_false, if_false,
    List.take_left' hlen, h]

variable {pages : List PageId} (hpages : loosePages s.store.loose [] entries = .ok pages)
include hpages

/-- Past check 3 the knot count decides. -/
theorem State.checkDefinition_of_pages : s.checkDefinition f.payload =
    if knotsFit pages.length knots.toNat then .ok ⟨c, pages, knots.toNat⟩ else .error (.badArg, [3, 0]) := by
  have hknots : (entries ++ [knots]).getD count.toNat 0 = knots := by rw [← hlen]; simp
  simp only [State.checkDefinition, hp, curveOf_val id hc, hempty, ne_eq, not_true_eq_false, if_false, List.take_left' hlen, hpages, hknots]

theorem defineCurveChecked_badKnots (h : ¬ knotsFit pages.length knots.toNat = true) :
    defineCurveChecked f s = s.respond f .badArg [3, 0] := by
  simp only [defineCurveChecked, s.checkDefinition_of_pages hp hc hempty hlen hpages, if_neg h]

theorem defineCurveChecked_begins (h : knotsFit pages.length knots.toNat = true) :
    defineCurveChecked f s = s.startReadBack ⟨.orderCheck none, c, (s.curve c).generation, pages, knots.toNat, 0, knots.toNat, []⟩ := by
  simp only [defineCurveChecked, s.checkDefinition_of_pages hp hc hempty hlen hpages, if_pos h]

end

/-! ### The definition, and the answers of an order check (05 R105, R106) -/

theorem State.endReadBack_eq {s : State} {f : Frame} (h : s.mgmt.current = some f) (st : Status) (p : List Byte) :
    s.endReadBack st p = ({ s with mgmt := { s.mgmt with readBack := none } } : State).respond f st p := by
  rw [State.endReadBack, h]

theorem State.defineCurve_eq {s : State} {f : Frame} (h : s.mgmt.current = some f) (r : ReadBack) :
    s.defineCurve r = ({ s with
      store := s.store.define r.curve r.pages r.knots
      mgmt := { s.mgmt with readBack := none } } : State).respond f .ok
        [byteOf r.curve.val, (s.curve r.curve).generation + 1, byteOf r.pages.length, byteOf r.knots] :=
  State.endReadBack_eq (s := { s with store := s.store.define r.curve r.pages r.knots }) h _ _

theorem CurveStore.define_eq (t : CurveStore) (c : CurveId) (pages : List PageId) (knots : Nat) :
    t.define c pages knots = { t with
      loose := t.loose.filter fun p => p.page ∉ pages
      curves := t.curves.set c ⟨.built, knots, pages, t.curves[c].generation + 1, t.curves[c].refs, t.curves[c].pins, t.curves[c].reservations⟩ } := by
  have hloose : (t.loose.filter fun p => !pages.contains p.page) = t.loose.filter fun p => p.page ∉ pages :=
    List.filter_congr fun p _ => by simp
  rw [CurveStore.define, hloose]
  rfl

/-- Settles O41: the checks in order by what the page list comes to, then the definition and the answers as the fields they write. -/
theorem defineCurveResult : Obligations.DefineCurveResult := by
  refine ⟨fun s f l id count knots entries h hc hp hlen h1 h4 => ?_, fun s r f hf => ⟨State.endReadBack_eq hf, ?_⟩⟩
  · have hrule : defineCurveLength f.payload = true := by
      rw [defineCurveLength_iff, hp]
      simp only [List.length_cons, List.length_append, List.length_nil, List.getD_cons_succ, List.getD_cons_zero, hlen]
      omega
    rw [LoaderRow.defineCurve.exec_renewed h hc hrule]
    refine ⟨fun hid => congrArg _ (defineCurveChecked_badId (renewed s f l) hp hid), fun c hid =>
      ⟨fun hs => congrArg _ (defineCurveChecked_inUse (renewed s f l) hp hid hs), fun hs =>
        ⟨fun i hi hbefore hbad => congrArg _ (defineCurveChecked_badPage (renewed s f l) hp hid hs hlen ?_), fun hall => ?_⟩⟩⟩
    · exact loosePages_of_unnamed (entries := entries) rfl (Nat.zero_le i) (hlen ▸ hi) hbefore hbad
    · obtain ⟨pages, hmap, hpages⟩ := loosePages_of_named (loose := s.store.loose) (entries := entries) (seen := []) rfl (hlen.symm ▸ hall)
      have hcount : pages.length = count.toNat := by rw [← hlen, ← hmap, List.length_map]
      have hfit := knotsFit_iff pages.length knots.toNat
      rw [hcount] at hfit
      exact ⟨fun hbad => congrArg _ (defineCurveChecked_badKnots (renewed s f l) hp hid hs hlen hpages (hcount ▸ fun hk => hbad (hfit.1 hk))),
        fun hk => ⟨pages, hmap, congrArg _ (defineCurveChecked_begins (renewed s f l) hp hid hs hlen hpages (hcount ▸ hfit.2 hk))⟩⟩
  · rw [State.defineCurve_eq hf, CurveStore.define_eq]
    rfl

end Sys2Proof.Machine
end

section
/-! The ends of a lease, and the lease through the access periods of an order check: O42. -/

namespace Sys2Proof.Machine

/-! ### CLOSE_LEASE (05 R91) -/

theorem CurveStore.returnCount_eq (t : CurveStore) : t.returnCount = t.loose.countP fun p => !p.writing :=
  List.countP_eq_length_filter.symm

theorem closeLeaseChecked_busy {s : State} (f : Frame) (hs : s.loader.state = .writing) : closeLeaseChecked f s = s.respond f .busy [1] := by
  rw [closeLeaseChecked, if_pos hs, hs]
  rfl

theorem closeLeaseChecked_closed {s : State} (f : Frame) (hs : s.loader.state ≠ .writing) :
    closeLeaseChecked f s = s.endLease.respond f .ok [byteOf (s.store.loose.countP fun p => !p.writing)] := by
  rw [closeLeaseChecked, if_neg hs, CurveStore.returnCount_eq]

/-! ### The lease timer (05 R86, R89) -/

section
variable {s : State} {l : Lease}

theorem State.leaseDue_of_none (h : s.loader.lease = none) : s.leaseDue = false := by
  rw [State.leaseDue, h]
  rfl

theorem State.leaseDue_iff (h : s.loader.lease = some l) : s.leaseDue = true ↔ l.duration ≤ l.count + 1 := by
  simp [State.leaseDue, h]

theorem State.countLease_of_none (h : s.loader.lease = none) : s.countLease = s := by
  rw [State.countLease, if_neg (by simp [State.leaseDue_of_none h]), h, Option.map_none, ← h]

theorem State.countLease_counts (h : s.loader.lease = some l) (hd : l.count + 1 < l.duration) :
    s.countLease = { s with loader := { s.loader with lease := some ⟨l.owner, l.duration, l.count + 1⟩ } } := by
  rw [State.countLease, if_neg (by rw [State.leaseDue_iff h]; omega), h]
  rfl

theorem State.countLease_expires (h : s.loader.lease = some l) (hd : l.duration ≤ l.count + 1) :
    s.countLease = s.endLease.raise .leaseExpired l.owner [byteOf (s.store.loose.countP fun p => !p.writing)] := by
  rw [State.countLease, if_pos ((State.leaseDue_iff h).2 hd), State.expireLease, h, CurveStore.returnCount_eq]

theorem State.tickLease_of_not_due (h : s.leaseDue = false) : s.tickLease = s.countLease := by
  rw [State.tickLease, h]
  rfl

theorem State.tickLease_of_due (h : s.leaseDue = true) : s.tickLease = s.completeDefine.countLease := by
  rw [State.tickLease, if_pos h]

theorem execLeaseExpiry_of_not_due (h : s.leaseDue = false) : exec .leaseExpiry s = .next s := if_neg (by simp [h])

theorem execLeaseExpiry_of_due (h : s.leaseDue = true) : exec .leaseExpiry s = exec .millisecondTick s := if_pos h

end

/-! ### The parameters through an access period -/

section
variable (s : State)

@[simp] theorem State.respond_params (f : Frame) (st : Status) (p : List Byte) : (s.respond f st p).mgmt.params = s.mgmt.params :=
  (s.mgmt.respond_frame f st p).2

@[simp] theorem State.finishFenced_params (f : Frame) : (s.finishFenced f).mgmt.params = s.mgmt.params := by
  unfold State.finishFenced
  split
  · split
    · split
      · simp [State.finishMap]
      · rfl
    · rfl
  · split
    · simp [State.finishSettings]
    · rfl

@[simp] theorem State.settleFence_params : s.settleFence.mgmt.params = s.mgmt.params := by
  unfold State.settleFence
  split
  · simp
  · rfl

@[simp] theorem State.releaseSlot_params (i : SlotId) : (s.releaseSlot i).mgmt.params = s.mgmt.params := by
  unfold State.releaseSlot
  split <;> simp

@[simp] theorem State.enterCq_params : s.enterCq.mgmt.params = s.mgmt.params := by
  unfold State.enterCq
  split
  · split <;> simp
  · rfl

@[simp] theorem State.settleSlot_params (i : SlotId) (w : WorkSlot) (outputs : List Output) :
    (s.settleSlot i w outputs).mgmt.params = s.mgmt.params := by
  unfold State.settleSlot
  dsimp only
  split
  · simp
  · split <;> simp

@[simp] theorem State.endConversion_params (u : UnitId) : (s.endConversion u).mgmt.params = s.mgmt.params := by
  unfold State.endConversion
  split
  · split <;> simp
  · rfl

@[simp] theorem State.endReadBack_params (st : Status) (p : List Byte) : (s.endReadBack st p).mgmt.params = s.mgmt.params := by
  unfold State.endReadBack
  split <;> simp

@[simp] theorem State.finishReadBack_params : s.finishReadBack.mgmt.params = s.mgmt.params := by
  unfold State.finishReadBack
  split
  · split
    · split <;> simp [State.defineCurve]
    · rfl
  · rfl

@[simp] theorem State.grantReadBack_params : s.grantReadBack.mgmt.params = s.mgmt.params := by
  unfold State.grantReadBack
  split <;> rfl

@[simp] theorem State.access_params (g : Option Grant) : (s.access g).mgmt.params = s.mgmt.params := by
  match g with
  | some (.unit _) | some (.other .readBack) | some (.other .pageWrite) | none => simp [State.access]

@[simp] theorem State.grantPeriod_params : s.grantPeriod.mgmt.params = s.mgmt.params :=
  s.access_params (s.store.arbiter.choose s.claims)

end

/-! ### The lease through access periods (05 R101, R105) -/

theorem State.grantPeriod_lease (s : State) : s.grantPeriod.loader.lease = s.loader.lease := by
  obtain e | ⟨r, -, -, e⟩ := s.grantPeriod_loader <;> rw [e]

/-- A page write that completes with the lease OPEN renews it (05 R101). -/
theorem State.completeOpen_frame (s : State) (r : WriteRecord) : (s.completeOpen r).mgmt.params = s.mgmt.params ∧
    (s.completeOpen r).loader.lease = s.loader.lease.map fun l => s.newLease l.owner := by
  obtain ⟨-, hlease, -, hparams, -⟩ := State.answerWrite_frame (({ s with
    store := s.store.writeDone r.page
    loader := { s.loader with staging := .cleared } } : State).renewLease) r .ok
  exact ⟨hparams, hlease⟩

/-- What the completion of a page write is, where the lease is OPEN. -/
theorem State.completeWrite_cases_open {s : State} (hl : s.loader.lease.isSome = true) :
    s.completeWrite = s ∨ s.loader.state = .writing ∧ ∃ r, s.completeWrite = s.completeOpen r := by
  cases hd : s.pageWriteDone with
  | false => exact .inl (State.completeWrite_of_not_done hd)
  | true =>
    obtain ⟨hs, hw⟩ := Bool.and_eq_true_iff.1 hd
    cases hr : s.loader.write with
    | none => rw [hr] at hw; cases hw
    | some r =>
      rw [hr] at hw
      exact .inr ⟨eq_of_beq hs, r, State.completeWrite_open (eq_of_beq hs) hr (of_decide_eq_true hw) hl⟩

/-- From `s`, whose lease is `l`, to `t` the lease has stayed OPEN: it is `l`, or `l` renewed with the LEASE_TIME of `s`, which a page write alone does. -/
structure State.LeaseThrough (s : State) (l : Lease) (t : State) : Prop where
  params : t.mgmt.params = s.mgmt.params
  lease : t.loader.lease = some l ∨ t.loader.lease = some (s.newLease l.owner)
  alone : s.loader.state ≠ .writing → t.loader.state ≠ .writing ∧ t.loader.lease = some l

namespace State.LeaseThrough
variable {s t : State} {l : Lease}

theorem start (hl : s.loader.lease = some l) : s.LeaseThrough l s := ⟨rfl, .inl hl, fun hs => ⟨hs, hl⟩⟩

variable (h : s.LeaseThrough l t)
include h

theorem same {u : State} (hp : u.mgmt.params = t.mgmt.params) (hl : u.loader.lease = t.loader.lease) (hs : u.loader.state = t.loader.state) :
    s.LeaseThrough l u where
  params := hp.trans h.params
  lease := by rw [hl]; exact h.lease
  alone := by rw [hl, hs]; exact h.alone

theorem newLease_owner : t.newLease l.owner = s.newLease l.owner := by
  unfold State.newLease
  rw [h.params]

theorem completeWrite : s.LeaseThrough l t.completeWrite := by
  have hopen : t.loader.lease.isSome = true := by obtain e | e := h.lease <;> rw [e] <;> rfl
  obtain e | ⟨hs, r, e⟩ := State.completeWrite_cases_open hopen
  · rw [e]
    exact h
  · obtain ⟨hparams, hlease⟩ := t.completeOpen_frame r
    have hrenewed : (t.completeOpen r).loader.lease = some (s.newLease l.owner) := by
      obtain e | e := h.lease <;> rw [hlease, e] <;> exact congrArg some h.newLease_owner
    rw [e]
    exact ⟨hparams.trans h.params, .inr hrenewed, fun hn => absurd hs (h.alone hn).1⟩

end State.LeaseThrough

theorem State.leaseThrough_keptByPeriods (s : State) (l : Lease) : KeptByPeriods (s.LeaseThrough l) where
  conversion t u h := h.same (t.endConversion_params u) (by rw [t.endConversion_loader u]) (by rw [t.endConversion_loader u])
  readBack t h := h.same t.finishReadBack_params (by rw [t.finishReadBack_loader]) (by rw [t.finishReadBack_loader])
  write _ h := h.completeWrite
  grant t h := h.same t.grantPeriod_params t.grantPeriod_lease t.grantPeriod_loaderState

/-! ### The ends of a lease -/

/-- Settles O42: CLOSE_LEASE, the end as the fields it writes, and the tick by the lease timer, past the end of an order check where one is in progress. -/
theorem leaseEnds : Obligations.LeaseEnds := by
  refine ⟨fun s f l h hc hp => ?_, fun s => rfl, fun s hl => ?_, fun s l hl => ⟨rfl, fun hlt => ?_, fun hle => ?_⟩⟩
  · rw [LoaderRow.closeLease.exec_renewed h hc (by rw [hp]; rfl)]
    exact ⟨fun hs => congrArg _ (closeLeaseChecked_busy (s := renewed s f l) f hs),
      fun hs => congrArg _ (closeLeaseChecked_closed (s := renewed s f l) f hs)⟩
  · have hdue := State.leaseDue_of_none hl
    exact ⟨(State.tickLease_of_not_due hdue).trans (State.countLease_of_none hl), execLeaseExpiry_of_not_due hdue⟩
  · have hdue : s.leaseDue = false := Bool.eq_false_iff.2 fun hd => Nat.not_le.2 hlt ((State.leaseDue_iff hl).1 hd)
    exact ⟨(State.tickLease_of_not_due hdue).trans (State.countLease_counts hl hlt), execLeaseExpiry_of_not_due hdue⟩
  · have hdue := (State.leaseDue_iff hl).2 hle
    refine ⟨execLeaseExpiry_of_due hdue, fun hc => ?_, fun _ => ?_⟩
    · rw [State.tickLease_of_due hdue, State.completeDefine_of_not_checking (by simp [hc])]
      exact State.countLease_expires hl hle
    · obtain ⟨-, hlease, halone⟩ := (s.leaseThrough_keptByPeriods l).completeDefine (.start hl)
      obtain ⟨k, hk, hcases⟩ : ∃ k, s.completeDefine.loader.lease = some k ∧ (k = l ∨ k = s.newLease l.owner) :=
        hlease.elim (fun e => ⟨l, e, .inl rfl⟩) fun e => ⟨_, e, .inr rfl⟩
      refine ⟨s.completeDefine, k, rfl, hk, hcases, fun hs => Option.some.inj (hk.symm.trans (halone hs).2), ?_⟩
      have howner : k.owner = l.owner := by obtain rfl | rfl := hcases <;> rfl
      rw [State.tickLease_of_due hdue, ← howner]
      exact ⟨State.countLease_expires hk, State.countLease_counts hk⟩

end Sys2Proof.Machine
end

section
/-! The pair sets of BIND_CHANNELS and PREPARE_BIND: their validation, the checks against the pending set, what is bound or held: O45. -/

namespace Sys2Proof.Machine

/-! ### Pairs on the link (06 R111) -/

theorem curveOf_eq_some_iff (b : Byte) (c : CurveId) : curveOf b = some c ↔ c.val = b.toNat := by
  refine ⟨fun h => ?_, curveOf_val b⟩
  unfold curveOf at h
  split at h
  · cases h
    rfl
  · cases h

theorem curveOf_ff : curveOf 0xFF = none := rfl

theorem curveOf_eq_none_iff (b : Byte) : curveOf b = none ↔ 47 < b.toNat := by
  unfold curveOf
  split <;> simp <;> omega

/-- The bytes of pairs spell those pairs. -/
theorem rawPairsOf_rawBytes (raws : List RawPair) : rawPairsOf (rawBytes raws) = raws := by
  induction raws with
  | nil => rfl
  | cons p raws ih => exact congrArg (p :: ·) ih

theorem pairsOf_rawBytes (raws : List RawPair) : pairsOf (rawBytes raws) = raws.map RawPair.pair :=
  congrArg (List.map RawPair.pair) (rawPairsOf_rawBytes raws)

theorem rawBytes_length (raws : List RawPair) : (rawBytes raws).length = 3 * raws.length := by
  induction raws with
  | nil => rfl
  | cons p raws ih =>
    show (rawBytes raws).length + 3 = 3 * (raws.length + 1)
    omega

theorem RawPair.pair_curve_none (p : RawPair) (h : p.curve = 0xFF) : p.pair.curve = none := by
  rw [RawPair.pair, h, curveOf_ff]

/-- What a pair's bytes mean (06 Table 6-2). -/
theorem RawPair.pair_fields (p : RawPair) :
    p.pair.channel = p.channel ∧ p.pair.release = p.flags.getLsbD 0 ∧ (p.curve = 0xFF → p.pair.curve = none) ∧
      ∀ c : CurveId, c.val = p.curve.toNat → p.pair.curve = some c :=
  ⟨rfl, rfl, p.pair_curve_none, fun _ => curveOf_val p.curve⟩

/-! ### Validation (06 R112) -/

section
variable {s : State} {seen : List Byte} {p : RawPair}

theorem State.pairFault_malformed (h : (48 ≤ p.curve.toNat ∧ p.curve ≠ 0xFF) ∨ 2 ≤ p.flags.toNat) : s.pairFault seen p = some 1 := if_pos h

variable (h1 : ¬ ((48 ≤ p.curve.toNat ∧ p.curve ≠ 0xFF) ∨ 2 ≤ p.flags.toNat))
include h1

theorem RawPair.curve_none_of_wellFormed (h : p.pair.curve = none) : p.curve = 0xFF :=
  not_not.1 fun hne => h1 (.inl ⟨(curveOf_eq_none_iff p.curve).1 h, hne⟩)

theorem State.pairFault_repeated (h2 : p.channel ∈ seen) : s.pairFault seen p = some 2 :=
  (if_neg h1).trans (if_pos (List.contains_iff_mem.2 h2))

variable (h2 : p.channel ∉ seen)
include h2

theorem State.pairFault_unmapped (h3 : s.table.lookup p.channel = none) : s.pairFault seen p = some 3 := by
  refine (if_neg h1).trans ((if_neg (List.contains_iff_mem.not.2 h2)).trans ?_)
  rw [h3]

variable {k : ContextId} (hk : s.table.lookup p.channel = some k)
include hk

/-- A well-formed pair of a curve, its channel mapped and new to the set, fails by the curve's state alone. -/
theorem State.pairFault_curve {c : CurveId} (hc : p.pair.curve = some c) :
    s.pairFault seen p = if (s.curve c).state = .empty ∨ (s.curve c).state = .retiring then some 4 else none := by
  refine (if_neg h1).trans ((if_neg (List.contains_iff_mem.not.2 h2)).trans ?_)
  simp only [hk, hc]

/-- A well-formed pair of NONE, its channel mapped and new to the set, fails by the context's mode alone. -/
theorem State.pairFault_none (hc : p.pair.curve = none) :
    s.pairFault seen p = if (s.context k).mode = .cond then some 5 else none := by
  refine (if_neg h1).trans ((if_neg (List.contains_iff_mem.not.2 h2)).trans ?_)
  simp only [hk, hc]

end

/-- Five checks made in order, each with its reason: a reason is answered exactly where its check is the first to fail. -/
theorem eq_some_iff_first_failing {x : Option Byte} {one two three four five : Prop} (h1 : one → x = some 1) (h2 : ¬ one → two → x = some 2)
    (h3 : ¬ one → ¬ two → three → x = some 3) (h4 : ¬ one → ¬ two → ¬ three → four → x = some 4)
    (h5 : ¬ one → ¬ two → ¬ three → ¬ four → five → x = some 5) (h0 : ¬ one → ¬ two → ¬ three → ¬ four → ¬ five → x = none) (r : Byte) :
    x = some r ↔ (r = 1 ∧ one) ∨ (r = 2 ∧ ¬ one ∧ two) ∨ (r = 3 ∧ ¬ one ∧ ¬ two ∧ three) ∨ (r = 4 ∧ ¬ one ∧ ¬ two ∧ ¬ three ∧ four) ∨
      (r = 5 ∧ ¬ one ∧ ¬ two ∧ ¬ three ∧ ¬ four ∧ five) := by
  by_cases c1 : one
  · simp [h1 c1, c1, eq_comm]
  by_cases c2 : two
  · simp [h2 c1 c2, c1, c2, eq_comm]
  by_cases c3 : three
  · simp [h3 c1 c2 c3, c1, c2, c3, eq_comm]
  by_cases c4 : four
  · simp [h4 c1 c2 c3 c4, c1, c2, c3, c4, eq_comm]
  by_cases c5 : five
  · simp [h5 c1 c2 c3 c4 c5, c1, c2, c3, c4, c5, eq_comm]
  · simp [h0 c1 c2 c3 c4 c5, c1, c2, c3, c4, c5]

/-- A pair's fault is the first of the five checks that it fails (06 Table 6-3). -/
theorem State.pairFault_eq_some_iff (s : State) (earlier : List RawPair) (p : RawPair) (reason : Byte) :
    s.pairFault (earlier.map RawPair.channel) p = some reason ↔ pairFails s earlier p reason := by
  have hseen : (∃ q ∈ earlier, q.channel = p.channel) ↔ p.channel ∈ earlier.map RawPair.channel := List.mem_map.symm
  refine eq_some_iff_first_failing State.pairFault_malformed (fun h1 h2 => State.pairFault_repeated h1 (hseen.1 h2))
    (fun h1 h2 h3 => State.pairFault_unmapped h1 (mt hseen.2 h2) h3) (fun h1 h2 h3 h4 => ?_) (fun h1 h2 _ _ h5 => ?_)
    (fun h1 h2 h3 h4 h5 => ?_) reason
  · obtain ⟨k, hk⟩ := Option.ne_none_iff_exists'.1 h3
    obtain ⟨c, hc, hstate⟩ := h4
    exact (State.pairFault_curve h1 (mt hseen.2 h2) hk (curveOf_val _ hc)).trans (if_pos hstate)
  · obtain ⟨hnone, k, hk, hmode⟩ := h5
    exact (State.pairFault_none h1 (mt hseen.2 h2) hk (p.pair_curve_none hnone)).trans (if_pos hmode)
  · obtain ⟨k, hk⟩ := Option.ne_none_iff_exists'.1 h3
    cases hc : p.pair.curve with
    | some c =>
      have hval := (curveOf_eq_some_iff p.curve c).1 hc
      exact (State.pairFault_curve h1 (mt hseen.2 h2) hk hc).trans (if_neg fun hstate => h4 ⟨c, hval, hstate⟩)
    | none =>
      have hnone := RawPair.curve_none_of_wellFormed h1 hc
      exact (State.pairFault_none h1 (mt hseen.2 h2) hk hc).trans (if_neg fun hmode => h5 ⟨hnone, k, hk, hmode⟩)

/-- Validation passes a list of pairs each of which passes after those before it. -/
theorem State.validate_eq_none_iff (s : State) (seen : List Byte) (l : List RawPair) :
    s.validate seen l = none ↔ ∀ j q, l[j]? = some q → s.pairFault (seen ++ (l.take j).map RawPair.channel) q = none := by
  induction l generalizing seen with
  | nil => simp [State.validate]
  | cons p l ih =>
    have hfirst : s.validate seen (p :: l) = none ↔ s.pairFault seen p = none ∧ s.validate (seen ++ [p.channel]) l = none := by
      rw [State.validate]
      cases s.pairFault seen p <;> simp
    rw [hfirst, ih]
    refine ⟨fun ⟨hp, hl⟩ j q hq => ?_, fun h => ⟨by simpa using h 0 p rfl, fun j q hq => by simpa using h (j + 1) q hq⟩⟩
    cases j with
    | zero =>
      obtain rfl : p = q := by simpa using hq
      simpa using hp
    | succ j => simpa using hl j q (by simpa using hq)

/-- After pairs that pass, validation goes on with the next ones. -/
theorem State.validate_append {s : State} {seen : List Byte} {pre : List RawPair} (h : s.validate seen pre = none) (l : List RawPair) :
    s.validate seen (pre ++ l) = s.validate (seen ++ pre.map RawPair.channel) l := by
  induction pre generalizing seen with
  | nil => simp
  | cons p pre ih =>
    rw [State.validate] at h
    rw [List.cons_append, State.validate]
    cases hp : s.pairFault seen p with
    | some r =>
      rw [hp] at h
      cases h
    | none =>
      rw [hp] at h
      simpa using ih h

theorem State.pairFault_eq_none_of_forall {s : State} {earlier : List RawPair} {p : RawPair} (h : ∀ r, ¬ pairFails s earlier p r) :
    s.pairFault (earlier.map RawPair.channel) p = none :=
  Option.eq_none_iff_forall_ne_some.2 fun r hr => h r ((s.pairFault_eq_some_iff earlier p r).1 hr)

theorem State.validate_of_setPasses {s : State} {raws : List RawPair} (h : setPasses s raws) : s.validate [] raws = none :=
  (s.validate_eq_none_iff [] raws).2 fun j q hq => State.pairFault_eq_none_of_forall (h j q hq)

/-- A set is refused with the reason and the index of its first pair that fails. -/
theorem State.validate_of_setFails {s : State} {raws : List RawPair} {i : Nat} {r : Byte} (h : setFails s raws i r) :
    s.validate [] raws = some [r, byteOf i] := by
  obtain ⟨p, hp, hfails, hbefore⟩ := h
  obtain ⟨hlt, hget⟩ := List.getElem?_eq_some_iff.1 hp
  have hpre : s.validate [] (raws.take i) = none := by
    refine State.validate_of_setPasses fun j q hq => ?_
    obtain ⟨hj, hq⟩ : j < i ∧ raws[j]? = some q := by simpa [List.getElem?_take] using hq
    rw [List.take_take, Nat.min_eq_left hj.le]
    exact hbefore j hj q hq
  have hlen : ((raws.take i).map RawPair.channel).length = i := by simp [Nat.min_eq_left hlt.le]
  calc s.validate [] raws = s.validate [] (raws.take i ++ p :: raws.drop (i + 1)) := by
        rw [← hget, List.getElem_cons_drop, List.take_append_drop]
    _ = s.validate ((raws.take i).map RawPair.channel) (p :: raws.drop (i + 1)) := State.validate_append hpre _
    _ = some [r, byteOf i] := by
        rw [State.validate, (s.pairFault_eq_some_iff _ p r).2 hfails]
        dsimp only
        rw [hlen]

/-! ### Pairs of the pending set's channels (06 R113) -/

section
variable {s : State} {raws : List RawPair}

/-- The first pair of a set whose channel the pending set names, found among the pairs as they are applied. -/
theorem State.findPending_eq_some {i : Nat} {p : RawPair} (hp : raws[i]? = some p) (h : s.channelPending p.channel = true)
    (hbefore : ∀ j, j < i → ∀ q, raws[j]? = some q → ¬ s.channelPending q.channel = true) :
    ((raws.map RawPair.pair).findIdx? fun q => s.channelPending q.channel) = some i := by
  obtain ⟨hlt, rfl⟩ := List.getElem?_eq_some_iff.1 hp
  rw [List.findIdx?_map]
  exact List.findIdx?_eq_some_iff_getElem.2 ⟨hlt, h, fun j hj => hbefore j hj _ (List.getElem?_eq_getElem (hj.trans hlt))⟩

theorem State.findPending_eq_none (h : ∀ p ∈ raws, ¬ s.channelPending p.channel = true) :
    ((raws.map RawPair.pair).findIdx? fun q => s.channelPending q.channel) = none := by
  rw [List.findIdx?_map]
  exact List.findIdx?_eq_none_iff.2 fun p hp => Bool.eq_false_iff.2 (h p hp)

end

/-! ### BIND_CHANNELS (06 R113) -/

section
variable {s : State} {f : Frame} {raws : List RawPair} (hp : f.payload = rawBytes raws)
include hp

theorem bindChannelsBody_badArg {l : List Byte} (h : s.validate [] raws = some l) : bindChannelsBody f s = s.respond f .badArg l := by
  simp only [bindChannelsBody, hp, rawPairsOf_rawBytes, h]

variable (h : s.validate [] raws = none)
include h

theorem bindChannelsBody_reserved {i : Nat} (hi : ((raws.map RawPair.pair).findIdx? fun q => s.channelPending q.channel) = some i) :
    bindChannelsBody f s = s.respond f .reserved [byteOf i] := by
  simp only [bindChannelsBody, hp, rawPairsOf_rawBytes, pairsOf_rawBytes, h, hi]

theorem bindChannelsBody_bound (hi : ((raws.map RawPair.pair).findIdx? fun q => s.channelPending q.channel) = none) :
    bindChannelsBody f s = (s.bindNow (raws.map RawPair.pair)).respond f .ok
      [byteOf raws.length, byteOf (s.changes (raws.map RawPair.pair)).length] := by
  simp only [bindChannelsBody, hp, rawPairsOf_rawBytes, pairsOf_rawBytes, h, hi, List.length_map]

end

/-- BIND_CHANNELS's checks one by one, then the pairs bound at once. -/
theorem execBindChannels_results {s : State} {f : Frame} {raws : List RawPair} (ht : s.Takes f) (hc : f.code = codeBindChannels)
    (hp : f.payload = rawBytes raws) (h1 : 1 ≤ raws.length) (h8 : raws.length ≤ 8) :
    (∀ i r, setFails s raws i r → exec .bindChannels s = .next (s.answered f .badArg [r, byteOf i])) ∧
    (setPasses s raws →
      (∀ i p, raws[i]? = some p → s.channelPending p.channel = true →
        (∀ j, j < i → ∀ q, raws[j]? = some q → ¬ s.channelPending q.channel = true) →
        exec .bindChannels s = .next (s.answered f .reserved [byteOf i])) ∧
      ((∀ p ∈ raws, ¬ s.channelPending p.channel = true) →
        exec .bindChannels s = .next (((s.begun f).bindNow (raws.map RawPair.pair)).respond f .ok
          [byteOf raws.length, byteOf (s.changes (raws.map RawPair.pair)).length]))) := by
  have hlen : bindChannelsLength f.payload = true := by
    rw [hp]
    simp only [bindChannelsLength, rawBytes_length, Bool.and_eq_true, decide_eq_true_eq, beq_iff_eq]
    omega
  have htaken : exec .bindChannels s = .next (bindChannelsBody f (s.begun f)) := State.command_taken ht (beq_iff_eq.2 hc) hlen
  rw [htaken]
  refine ⟨fun i r h => congrArg _ (bindChannelsBody_badArg (s := s.begun f) hp (State.validate_of_setFails h)), fun h => ?_⟩
  have hv : (s.begun f).validate [] raws = none := State.validate_of_setPasses h
  exact ⟨fun i p hi hpending hbefore => congrArg _ (bindChannelsBody_reserved hp hv (State.findPending_eq_some (s := s.begun f) hi hpending hbefore)),
    fun hclear => congrArg _ (bindChannelsBody_bound hp hv (State.findPending_eq_none (s := s.begun f) hclear))⟩

/-! ### PREPARE_BIND (06 R118) -/

section
variable {s : State} {f : Frame} {tag : Byte} {raws : List RawPair} (hp : f.payload = tag :: rawBytes raws)
include hp

theorem prepareBindBody_noTag (h0 : tag = 0) : prepareBindBody f s = s.respond f .badArg [6, 0] := by
  simp only [prepareBindBody, hp, if_pos h0]

variable (h0 : tag ≠ 0)
include h0

theorem prepareBindBody_busy {b : PendingBind} (hb : s.bind = some b) : prepareBindBody f s = s.respond f .busy [b.tag] := by
  simp only [prepareBindBody, hp, if_neg h0, hb]

variable (hb : s.bind = none)
include hb

theorem prepareBindBody_badArg {l : List Byte} (h : s.validate [] raws = some l) : prepareBindBody f s = s.respond f .badArg l := by
  simp only [prepareBindBody, hp, if_neg h0, hb, rawPairsOf_rawBytes, h]

theorem prepareBindBody_held (h : s.validate [] raws = none) :
    prepareBindBody f s =
      ({ s.reserve (raws.map RawPair.pair) with bind := some ⟨tag, raws.map RawPair.pair⟩ } : State).respond f .ok [tag, byteOf raws.length] := by
  simp only [prepareBindBody, hp, if_neg h0, hb, rawPairsOf_rawBytes, pairsOf_rawBytes, h, List.length_map]

end

/-- PREPARE_BIND's checks one by one, then the pairs held with their reservations. -/
theorem execPrepareBind_results {s : State} {f : Frame} {tag : Byte} {raws : List RawPair} (ht : s.Takes f) (hc : f.code = codePrepareBind)
    (hp : f.payload = tag :: rawBytes raws) (h1 : 1 ≤ raws.length) (h8 : raws.length ≤ 8) :
    (tag = 0 → exec .prepareBind s = .next (s.answered f .badArg [6, 0])) ∧
    (tag ≠ 0 →
      (∀ b, s.bind = some b → exec .prepareBind s = .next (s.answered f .busy [b.tag])) ∧
      (s.bind = none →
        (∀ i r, setFails s raws i r → exec .prepareBind s = .next (s.answered f .badArg [r, byteOf i])) ∧
        (setPasses s raws → exec .prepareBind s = .next
          (({ (s.begun f).reserve (raws.map RawPair.pair) with bind := some ⟨tag, raws.map RawPair.pair⟩ } : State).respond f .ok
            [tag, byteOf raws.length])))) := by
  have hlen : prepareBindLength f.payload = true := by
    rw [hp]
    simp only [prepareBindLength, List.length_cons, rawBytes_length, Bool.and_eq_true, decide_eq_true_eq, beq_iff_eq]
    omega
  have htaken : exec .prepareBind s = .next (prepareBindBody f (s.begun f)) := State.command_taken ht (beq_iff_eq.2 hc) hlen
  rw [htaken]
  exact ⟨fun h0 => congrArg _ (prepareBindBody_noTag hp h0), fun h0 =>
    ⟨fun b hb => congrArg _ (prepareBindBody_busy (s := s.begun f) hp h0 hb), fun hb =>
      ⟨fun i r h => congrArg _ (prepareBindBody_badArg (s := s.begun f) hp h0 hb (State.validate_of_setFails h)),
        fun h => congrArg _ (prepareBindBody_held (s := s.begun f) hp h0 hb (State.validate_of_setPasses h))⟩⟩⟩

/-- Settles O45: the two commands check by check, and the meaning of a pair's bytes. -/
theorem bindAndPrepare : Obligations.BindAndPrepare := by
  refine ⟨fun s f raws ht h1 h8 => ⟨fun hc hp => ?_, fun tag hc hp => execPrepareBind_results ht hc hp h1 h8⟩, RawPair.pair_fields⟩
  simp only [← State.channelPending_iff]
  exact execBindChannels_results ht hc hp h1 h8

end Sys2Proof.Machine
end

section
/-! What a bind event makes of contexts, counts and released curves: O46. -/

namespace Sys2Proof.Machine

/-! ### The changes of a pair set (06 R114) -/

section
variable {s : State} {p : Pair} (pairs : List Pair)

theorem State.changes_cons_unmapped (h : s.table.lookup p.channel = none) : s.changes (p :: pairs) = s.changes pairs :=
  List.filterMap_cons_none (by simp only [State.changeOf, h])

variable {k : ContextId} (hk : s.table.lookup p.channel = some k)
include hk

theorem State.changes_cons_same (h : (s.context k).curve = p.curve) : s.changes (p :: pairs) = s.changes pairs :=
  List.filterMap_cons_none (by simp only [State.changeOf, hk, if_pos h])

theorem State.changes_cons_changed (h : (s.context k).curve ≠ p.curve) :
    s.changes (p :: pairs) = ⟨k, (s.context k).curve, p.curve, p.release⟩ :: s.changes pairs :=
  List.filterMap_cons_some (by simp only [State.changeOf, hk, if_neg h])

end

/-! ### The changes written and claimed (06 R114, 03 R51) -/

section
variable (t : ChannelTable) (l : List Change)

/-- A bind writes contexts and no map entry. -/
theorem ChannelTable.bindAll_frame : t.bindAll l = { t with contexts := (t.bindAll l).contexts } := by
  rw [← t.bindAll_map l]

theorem ChannelTable.bindAll_context_of_not_mem {k : ContextId} (h : ∀ x ∈ l, x.context ≠ k) : (t.bindAll l).contexts[k] = t.contexts[k] := by
  obtain ⟨c, hc, rfl | ⟨x, hx, hk, -⟩⟩ := t.bindAll_context l k
  · exact hc
  · exact absurd hk (h x hx)

/-- Of changes of distinct contexts each is written. -/
theorem ChannelTable.bindAll_context_of_mem {l : List Change} (hn : (l.map Change.context).Nodup) {x : Change} (hx : x ∈ l) :
    (t.bindAll l).contexts[x.context] = { t.contexts[x.context] with curve := x.new } := by
  induction l generalizing t with
  | nil => cases hx
  | cons y l ih =>
    obtain ⟨hfresh, hn⟩ := List.nodup_cons.1 hn
    have hne : ∀ z ∈ l, z.context ≠ y.context := fun z hz e => hfresh (List.mem_map.2 ⟨z, hz, e⟩)
    rw [ChannelTable.bindAll_cons]
    obtain rfl | hx := List.mem_cons.1 hx
    · rw [ChannelTable.bindAll_context_of_not_mem _ l hne]
      exact vmod_self ..
    · rw [ih _ hn hx, vmod_other _ _ (hne x hx).symm]

end

section
variable (s : State) (l : List Change)

/-- A bind's changes write bound curves and descriptors, and nothing else. -/
theorem State.applyChanges_frame :
    s.applyChanges l = { s with
      table := { s.table with contexts := (s.applyChanges l).table.contexts }
      store := { s.store with curves := (s.applyChanges l).store.curves } } :=
  congrArg (fun t : ChannelTable => { s with table := t, store := (s.applyChanges l).store }) (s.table.bindAll_frame l)

end

/-- A descriptor that no change gains or loses is untouched (03 R51). -/
theorem Curve.claim_untouched {d : Curve} {c : CurveId} {l : List Change} (hg : l.countP (fun x => x.new == some c) = 0)
    (hl : l.countP (fun x => x.old == some c) = 0) : d.claim c l = d := if_pos ⟨hg, hl⟩

/-- A touched descriptor has its claims counted together, and is LIVE or BUILT by the count (03 R51). -/
theorem Curve.claim_touched {d : Curve} {c : CurveId} {l : List Change}
    (h : 0 < l.countP (fun x => x.new == some c) + l.countP fun x => x.old == some c) :
    let refs := d.refs + l.countP (fun x => x.new == some c) - l.countP fun x => x.old == some c
    d.claim c l = { d with refs := refs, state := if refs = 0 then .built else .live } := if_neg (by omega)

/-- What changes of distinct contexts make of the part: its frame, the contexts, and the descriptors by their claims. -/
theorem State.applyChanges_results (s : State) (l : List Change) (hn : (l.map Change.context).Nodup) :
    let t := s.applyChanges l
    t = { s with table := { s.table with contexts := t.table.contexts }, store := { s.store with curves := t.store.curves } } ∧
    (∀ x ∈ l, t.context x.context = { s.context x.context with curve := x.new }) ∧
    (∀ k : ContextId, (∀ x ∈ l, x.context ≠ k) → t.context k = s.context k) ∧
    (∀ c : CurveId,
      let gained := l.countP fun x => x.new == some c
      let lost := l.countP fun x => x.old == some c
      (gained = 0 → lost = 0 → t.curve c = s.curve c) ∧
      (0 < gained + lost → t.curve c = { s.curve c with
        refs := (s.curve c).refs + gained - lost
        state := if (s.curve c).refs + gained - lost = 0 then .built else .live })) := by
  refine ⟨s.applyChanges_frame l, fun x hx => s.table.bindAll_context_of_mem hn hx, fun k hk => s.table.bindAll_context_of_not_mem l hk,
    fun c => ⟨fun hg hl => ?_, fun h => ?_⟩⟩
  · exact (s.curve_applyChanges l c).trans (Curve.claim_untouched hg hl)
  · exact (s.curve_applyChanges l c).trans (Curve.claim_touched h)

/-! ### The curves a release is asked for (06 R115) -/

section
variable (l : List Change) {x : Change} {c : CurveId}

/-- A change that asks for no release, or leaves no curve, adds none. -/
theorem releasesOf_append_none (h : x.release = false ∨ x.old = none) : releasesOf (l ++ [x]) = releasesOf l := by
  have hnone : ([x].filter Change.release).filterMap Change.old = [] := by
    refine List.filterMap_eq_nil_iff.2 fun y hy => ?_
    obtain ⟨hyx, hr⟩ := List.mem_filter.1 hy
    obtain rfl := List.mem_singleton.1 hyx
    exact h.resolve_left (ne_false_of_eq_true hr)
  rw [releasesOf, List.filter_append, List.filterMap_append, hnone, List.append_nil, releasesOf]

/-- A change that asks for the release of its old curve adds that curve at the end, if it is not there. -/
theorem releasesOf_append_some (hr : x.release = true) (hc : x.old = some c) :
    releasesOf (l ++ [x]) = if c ∈ releasesOf l then releasesOf l else releasesOf l ++ [c] := by
  have hsome : ([x].filter Change.release).filterMap Change.old = [c] := by
    rw [List.filter_cons_of_pos hr, List.filter_nil, List.filterMap_cons_some hc, List.filterMap_nil]
  unfold releasesOf
  rw [List.filter_append, List.filterMap_append, hsome, List.eraseDups_append]
  split
  next h => simp [List.removeAll, List.mem_eraseDups.1 h]
  next h => simp [List.removeAll, mt List.mem_eraseDups.2 h, List.eraseDups_cons]

end

theorem releasesOf_nodup (l : List Change) : (releasesOf l).Nodup := by
  induction l using List.reverseRecOn with
  | nil => exact List.nodup_nil
  | append_singleton l x ih =>
    cases hr : x.release with
    | false => rwa [releasesOf_append_none l (.inl hr)]
    | true =>
      cases hc : x.old with
      | none => rwa [releasesOf_append_none l (.inr hc)]
      | some c =>
        rw [releasesOf_append_some l hr hc]
        split
        · exact ih
        next h => exact List.nodup_append.2 ⟨ih, List.nodup_singleton c, fun a ha b hb e => h (List.mem_singleton.1 hb ▸ e ▸ ha)⟩

theorem mem_releasesOf (l : List Change) (c : CurveId) : c ∈ releasesOf l ↔ ∃ x ∈ l, x.release = true ∧ x.old = some c := by
  simp [releasesOf, and_assoc]

/-! ### Release requests (03 R52) -/

section
variable {s : State} {c : CurveId}

/-- A release request leaves a curve that is not BUILT, or is reserved, as it is. -/
theorem State.releaseRequest_of_not (h : ¬ ((s.curve c).state = .built ∧ (s.curve c).reservations = 0)) : s.releaseRequest c = s := if_neg h

variable (hs : (s.curve c).state = .built) (hr : (s.curve c).reservations = 0)
include hs hr

theorem State.releaseRequest_unpinned (hp : (s.curve c).pins = 0) : s.releaseRequest c = s.reclaim c :=
  (if_pos ⟨hs, hr⟩).trans (if_pos hp)

theorem State.releaseRequest_pinned (hp : (s.curve c).pins ≠ 0) :
    s.releaseRequest c = s.modCurve c fun d => { d with state := .retiring } :=
  (if_pos ⟨hs, hr⟩).trans (if_neg hp)

end

/-- Settles O46: the events as their parts, then each part by its own lemmas. -/
theorem bindEffects : Obligations.BindEffects := by
  refine ⟨fun s pairs => ⟨rfl, fun _ => rfl, fun _ => rfl, ⟨rfl, fun p => ⟨State.changes_cons_unmapped pairs, fun k hk =>
      ⟨State.changes_cons_same pairs hk, State.changes_cons_changed pairs hk⟩⟩⟩, fun hl hn => State.changes_nodup hl hn, rfl, rfl⟩,
    State.applyChanges_results,
    ⟨rfl, fun l x => ⟨fun c hr hc h => ?_, fun c hr hc h => ?_, releasesOf_append_none l⟩⟩,
    fun l => ⟨releasesOf_nodup l, mem_releasesOf l⟩,
    fun s c rest => ⟨rfl, rfl, fun hl => ?_, fun _ hr => ?_, State.releaseRequest_unpinned, fun hs hr hp => ?_⟩⟩
  · rw [releasesOf_append_some l hr hc, if_neg h]
  · rw [releasesOf_append_some l hr hc, if_pos h]
  · exact State.releaseRequest_of_not fun hb => by rw [hl] at hb; cases hb.1
  · exact State.releaseRequest_of_not fun hb => hr.ne' hb.2
  · exact State.releaseRequest_pinned hs hr hp.ne'

end Sys2Proof.Machine
end

section
/-! APPLY_BIND and CANCEL_BIND, addressed and by broadcast: O47. -/

namespace Sys2Proof.Machine

theorem cancels_iff (tag : Byte) (b : PendingBind) : cancels tag b = true ↔ tag = 0 ∨ tag = b.tag := by simp [cancels]

theorem Frame.bindTag_eq {f : Frame} {tag : Byte} (hp : f.payload = [tag]) : f.bindTag = tag := by rw [Frame.bindTag, hp, List.headD_cons]

/-! ### Addressed copies (06 R119, R122) -/

section
variable {s : State} (f : Frame)

theorem applyBindBody_badState (hb : s.bind = none) : applyBindBody f s = s.respond f .badState [] := by
  simp only [applyBindBody, hb]

theorem cancelBindBody_badState (hb : s.bind = none) : cancelBindBody f s = s.respond f .badState [] := by
  simp only [cancelBindBody, hb]

variable {b : PendingBind} (hb : s.bind = some b)
include hb

theorem applyBindBody_otherTag (h : f.bindTag ≠ b.tag) : applyBindBody f s = s.respond f .badArg [b.tag] := by
  simp only [applyBindBody, hb, if_neg h]

theorem applyBindBody_applied (h : f.bindTag = b.tag) :
    applyBindBody f s = (s.applyPending b).respond f .ok [b.tag, byteOf b.pairs.length, byteOf (s.changes b.pairs).length] := by
  simp only [applyBindBody, hb, if_pos h]

theorem cancelBindBody_otherTag (h : ¬ cancels f.bindTag b = true) : cancelBindBody f s = s.respond f .badArg [b.tag] := by
  simp only [cancelBindBody, hb, if_neg h]

theorem cancelBindBody_cancelled (h : cancels f.bindTag b = true) :
    cancelBindBody f s = (s.cancelPending b).respond f .ok [b.tag, byteOf b.pairs.length] := by
  simp only [cancelBindBody, hb, if_pos h]

end

section
variable {s : State} {f : Frame} {tag : Byte} (h : s.Takes f) (hp : f.payload = [tag])
include h hp

/-- An addressed APPLY_BIND's checks one by one, then the pending set applied. -/
theorem execApplyBind_results (hc : f.code = codeApplyBind) :
    (s.bind = none → exec .applyBind s = .next (s.answered f .badState [])) ∧
    (∀ b, s.bind = some b →
      (tag ≠ b.tag → exec .applyBind s = .next (s.answered f .badArg [b.tag])) ∧
      (tag = b.tag → exec .applyBind s = .next (((s.begun f).applyPending b).respond f .ok
        [tag, byteOf b.pairs.length, byteOf (s.changes b.pairs).length]))) := by
  have htaken : exec .applyBind s = .next (applyBindBody f (s.begun f)) := State.command_taken h (beq_iff_eq.2 hc) (by simp [lengthIs, hp])
  obtain rfl := Frame.bindTag_eq hp
  rw [htaken]
  refine ⟨fun hb => congrArg _ (applyBindBody_badState (s := s.begun f) f hb),
    fun b hb => ⟨fun hne => congrArg _ (applyBindBody_otherTag (s := s.begun f) f hb hne), fun heq => ?_⟩⟩
  rw [heq]
  exact congrArg _ (applyBindBody_applied (s := s.begun f) f hb heq)

/-- An addressed CANCEL_BIND's checks one by one, then the pending set cancelled. -/
theorem execCancelBind_results (hc : f.code = codeCancelBind) :
    (s.bind = none → exec .cancelBind s = .next (s.answered f .badState [])) ∧
    (∀ b, s.bind = some b →
      (tag ≠ 0 → tag ≠ b.tag → exec .cancelBind s = .next (s.answered f .badArg [b.tag])) ∧
      (tag = 0 ∨ tag = b.tag → exec .cancelBind s = .next (((s.begun f).cancelPending b).respond f .ok
        [b.tag, byteOf b.pairs.length]))) := by
  have htaken : exec .cancelBind s = .next (cancelBindBody f (s.begun f)) := State.command_taken h (beq_iff_eq.2 hc) (by simp [lengthIs, hp])
  obtain rfl := Frame.bindTag_eq hp
  rw [htaken]
  exact ⟨fun hb => congrArg _ (cancelBindBody_badState (s := s.begun f) f hb),
    fun b hb => ⟨fun h0 hne => congrArg _ (cancelBindBody_otherTag (s := s.begun f) f hb (mt (cancels_iff _ b).1 (not_or.2 ⟨h0, hne⟩))),
      fun hmatch => congrArg _ (cancelBindBody_cancelled (s := s.begun f) f hb ((cancels_iff _ b).2 hmatch))⟩⟩

end

/-! ### The broadcast copies (06 R120, R123, 07 R140) -/

section
variable {s : State} {f : Frame} {code : Byte} {body : Frame → State → State}

/-- Without a broadcast copy in hand a broadcast row changes nothing (log 2). -/
theorem State.broadcastCopy_idle (h : ∀ f, s.mgmt.inHand = some f → f.addressed = true) : s.broadcastCopy code body = .next s := by
  unfold State.broadcastCopy
  cases hf : s.mgmt.inHand with
  | none => rfl
  | some f => simp [h f hf]

variable (h : s.mgmt.inHand = some f) (ha : f.addressed = false) (hc : f.code = code)
include h ha hc

theorem State.broadcastCopy_inHand : s.broadcastCopy code body = .next (if f.payload.length = 1 then body f s else s.applyMiss) := by
  simp [State.broadcastCopy, h, ha, Frame.hasCode, hc]

/-- A copy of a wrong length, or one whose body finds nothing to do, is a miss. -/
theorem State.broadcastCopy_missed (hm : f.payload.length = 1 → body f s = s.applyMiss) : s.broadcastCopy code body = .next s.applyMiss := by
  rw [State.broadcastCopy_inHand h ha hc]
  split
  next hl => rw [hm hl]
  next => rfl

theorem State.broadcastCopy_carriedOut {tag : Byte} (hp : f.payload = [tag]) : s.broadcastCopy code body = .next (body f s) := by
  rw [State.broadcastCopy_inHand h ha hc, if_pos (by rw [hp]; rfl)]

end

section
variable {s : State} (f : Frame)

theorem applyBindBroadcastBody_absent (hb : s.bind = none) : applyBindBroadcastBody f s = s.applyMiss := by
  simp only [applyBindBroadcastBody, hb]

theorem cancelBindBroadcastBody_absent (hb : s.bind = none) : cancelBindBroadcastBody f s = s.applyMiss := by
  simp only [cancelBindBroadcastBody, hb]

variable {b : PendingBind} (hb : s.bind = some b)
include hb

theorem applyBindBroadcastBody_otherTag (h : f.bindTag ≠ b.tag) : applyBindBroadcastBody f s = s.applyMiss := by
  simp only [applyBindBroadcastBody, hb, if_neg h]

theorem applyBindBroadcastBody_applied (h : f.bindTag = b.tag) : applyBindBroadcastBody f s = (s.applyPending b).leave := by
  simp only [applyBindBroadcastBody, hb, if_pos h]

theorem cancelBindBroadcastBody_otherTag (h : ¬ cancels f.bindTag b = true) : cancelBindBroadcastBody f s = s.applyMiss := by
  simp only [cancelBindBroadcastBody, hb, if_neg h]

theorem cancelBindBroadcastBody_cancelled (h : cancels f.bindTag b = true) : cancelBindBroadcastBody f s = (s.cancelPending b).leave := by
  simp only [cancelBindBroadcastBody, hb, if_pos h]

end

section
variable {s : State} {f : Frame} (h : s.mgmt.inHand = some f) (ha : f.addressed = false)
include h ha

/-- A broadcast APPLY_BIND: a miss, or the pending set applied and the engine left. -/
theorem execApplyBindBroadcast_results (hc : f.code = codeApplyBind) :
    (f.payload.length ≠ 1 ∨ s.bind = none → exec .applyBindBroadcast s = .next s.applyMiss) ∧
    (∀ tag b, f.payload = [tag] → s.bind = some b →
      (tag ≠ b.tag → exec .applyBindBroadcast s = .next s.applyMiss) ∧
      (tag = b.tag → exec .applyBindBroadcast s = .next (s.applyPending b).leave)) := by
  refine ⟨fun hor => State.broadcastCopy_missed h ha hc fun hl => applyBindBroadcastBody_absent f (hor.resolve_left (not_not.2 hl)),
    fun tag b hp hb => ?_⟩
  obtain rfl := Frame.bindTag_eq hp
  refine ⟨fun hne => State.broadcastCopy_missed h ha hc fun _ => applyBindBroadcastBody_otherTag f hb hne, fun heq => ?_⟩
  exact (State.broadcastCopy_carriedOut h ha hc hp).trans (congrArg _ (applyBindBroadcastBody_applied f hb heq))

/-- A broadcast CANCEL_BIND: a miss, or the pending set cancelled and the engine left. -/
theorem execCancelBindBroadcast_results (hc : f.code = codeCancelBind) :
    (f.payload.length ≠ 1 ∨ s.bind = none → exec .cancelBindBroadcast s = .next s.applyMiss) ∧
    (∀ tag b, f.payload = [tag] → s.bind = some b →
      (tag ≠ 0 → tag ≠ b.tag → exec .cancelBindBroadcast s = .next s.applyMiss) ∧
      (tag = 0 ∨ tag = b.tag → exec .cancelBindBroadcast s = .next (s.cancelPending b).leave)) := by
  refine ⟨fun hor => State.broadcastCopy_missed h ha hc fun hl => cancelBindBroadcastBody_absent f (hor.resolve_left (not_not.2 hl)),
    fun tag b hp hb => ?_⟩
  obtain rfl := Frame.bindTag_eq hp
  refine ⟨fun h0 hne => State.broadcastCopy_missed h ha hc fun _ =>
    cancelBindBroadcastBody_otherTag f hb (mt (cancels_iff _ b).1 (not_or.2 ⟨h0, hne⟩)), fun hmatch => ?_⟩
  exact (State.broadcastCopy_carriedOut h ha hc hp).trans (congrArg _ (cancelBindBroadcastBody_cancelled f hb ((cancels_iff _ b).2 hmatch)))

end

/-- Settles O47: the addressed copies, the broadcast copies, and the broadcast rows with none in hand. -/
theorem applyAndCancel : Obligations.ApplyAndCancel :=
  ⟨fun _ _ _ h hp => ⟨execApplyBind_results h hp, execCancelBind_results h hp⟩,
    fun _ _ h ha => ⟨execApplyBindBroadcast_results h ha, execCancelBindBroadcast_results h ha⟩,
    fun _ h => ⟨State.broadcastCopy_idle h, State.broadcastCopy_idle h⟩⟩

end Sys2Proof.Machine
end

section
/-! Enumeration, and the common checks of every addressed row: O13, O29. -/

namespace Sys2Proof.Machine

/-! ### Enumeration (07 R129, R130) -/

theorem State.decideCommand_enum (s : State) {f : Frame} (hk : f.kind = .enum) : s.decideCommand f = .enum := if_pos hk

theorem State.classifyCommand_enum {s : State} {f : Frame} {rest : List Frame} (h : s.dPort.buffer = f :: rest)
    (hd : s.decideCommand f = .enum) :
    s.classifyCommand = if s.merger.uq.length < 4 then ({ s with dPort := { s.dPort with buffer := rest } }).enumerate f else s := by
  simp only [State.classifyCommand, h, hd, State.takeUp_eq]

/-- A node takes the address offered and sends the next one, 63 after 62 (07 Table 7-2). -/
theorem enumerationOf_of_le (fresh : Nat) {a : Byte} (h1 : 1 ≤ a.toNat) (h62 : a.toNat ≤ 62) : enumerationOf fresh a = ⟨a, a + 1⟩ := by
  have h0 : a ≠ 0 := by
    rintro rfl
    exact absurd h1 (by decide)
  rw [enumerationOf, if_neg h0, if_pos h62]

theorem enumerationFree_iff (a : Byte) : enumerationFree a = true ↔ 63 < a.toNat := decide_eq_true_iff

/-- The enumeration event, field by field. -/
theorem State.enumerate_eq (s : State) (f : Frame) :
    s.enumerate f =
      let e := enumerationOf s.fresh f.addr
      { s with
        mgmt := { s.mgmt with
          address := e.own
          cache := if e.own = s.mgmt.address then s.mgmt.cache else Vector.replicate 4 .empty }
        merger := { s.merger with uq := s.merger.uq ++ [{ f with addr := e.sent }] }
        fresh := if 63 < f.addr.toNat then s.fresh + 1 else s.fresh } := by
  simp only [State.enumerate, enumerationFree_iff]
  rfl

/-- Settles O13: the rows of 07 Table 7-2, and the event they are used in. -/
theorem enumerationResult : Obligations.EnumerationResult := by
  intro s f rest hbuf hk
  have hexec : exec .commandClassifierTake s = .next s.classifyCommand := rfl
  rw [hexec, State.classifyCommand_enum hbuf (s.decideCommand_enum hk)]
  refine ⟨fun hfull => by rw [if_neg (Nat.not_lt.2 hfull)], fun hroom => ?_⟩
  refine ⟨(enumerationOf s.fresh f.addr).own, (enumerationOf s.fresh f.addr).sent, fun h => ?_, fun h1 h61 => ?_, fun h => ?_, fun h => ?_,
    enumerationOf_own_le .., ?_⟩
  · rw [h]
    exact ⟨rfl, rfl⟩
  · rw [enumerationOf_of_le s.fresh h1 (by omega)]
    exact ⟨rfl, rfl⟩
  · rw [h]
    exact ⟨rfl, rfl⟩
  · rw [h]
    exact ⟨rfl, rfl⟩
  · rw [if_pos hroom, State.enumerate_eq]

/-! ### Length rules (02 R33, 05 R93, R98, R104, 06 R113, R118) -/

theorem setChannelLength_eq :
    setChannelLength = fun p => (p.length == 4 && !((p.getD 3 0).getLsbD 2)) || (p.length == 10 && (p.getD 3 0).getLsbD 2) := by
  funext p
  match p with
  | [] | [_] | [_, _] | [_, _, _] | [_, _, _, _, _] | [_, _, _, _, _, _] | [_, _, _, _, _, _, _] | [_, _, _, _, _, _, _, _]
  | [_, _, _, _, _, _, _, _, _] => rfl
  | [_, _, _, _] => simp [setChannelLength]
  | [_, _, _, _, _, _, _, _, _, _] => simp [setChannelLength]
  | _ :: _ :: _ :: _ :: _ :: _ :: _ :: _ :: _ :: _ :: _ :: _ => simp [setChannelLength]

theorem stageKnotsLength_eq : stageKnotsLength = fun p => (List.range 11).any fun i => p.length == 2 + 4 * (i + 1) := by
  funext p
  rw [Bool.eq_iff_iff, stageKnotsLength_iff]
  simp only [List.any_eq_true, List.mem_range, beq_iff_eq]
  exact ⟨fun h => ⟨p.length / 4 - 1, by omega⟩, fun ⟨i, _⟩ => by omega⟩

theorem writePageLength_eq : writePageLength = fun p => p.length == 0 || p.length == 1 := by
  funext p
  rw [Bool.eq_iff_iff, Bool.or_eq_true, beq_iff_eq, beq_iff_eq, ← Nat.le_one_iff_eq_zero_or_eq_one]
  exact decide_eq_true_iff

theorem defineCurveLength_eq :
    defineCurveLength = fun p => 4 ≤ p.length && p.length ≤ 7 && p.length == 3 + (p.getD 1 0).toNat := by
  funext p
  rw [Bool.eq_iff_iff, defineCurveLength_iff]
  simp [and_assoc]

theorem bindChannelsLength_eq : bindChannelsLength = fun p => (List.range 8).any fun i => p.length == 3 * (i + 1) := by
  funext p
  rw [Bool.eq_iff_iff]
  simp only [bindChannelsLength, Bool.and_eq_true, decide_eq_true_eq, beq_iff_eq, List.any_eq_true, List.mem_range]
  exact ⟨fun h => ⟨p.length / 3 - 1, by omega⟩, fun ⟨i, _⟩ => by omega⟩

theorem prepareBindLength_eq : prepareBindLength = fun p => (List.range 8).any fun i => p.length == 1 + 3 * (i + 1) := by
  funext p
  rw [Bool.eq_iff_iff]
  simp only [prepareBindLength, Bool.and_eq_true, decide_eq_true_eq, beq_iff_eq, List.any_eq_true, List.mem_range]
  exact ⟨fun h => ⟨p.length / 3 - 1, by omega⟩, fun ⟨i, _⟩ => by omega⟩

/-! ### The rows of the addressed commands (07 R135) -/

/-- The row takes the frames that `accepts` picks out through the common path, with this length rule. -/
def CommandRow (c : Instr) (accepts : Frame → Bool) (lengthOk : List Byte → Bool) : Prop :=
  ∃ body, ∀ s, exec c s = s.command accepts lengthOk body

/-- A row whose length rule is written in another way. -/
theorem CommandRow.of_length {c : Instr} {accepts : Frame → Bool} {ok lengthOk : List Byte → Bool} (h : CommandRow c accepts ok)
    (hl : ok = lengthOk) : CommandRow c accepts lengthOk := hl ▸ h

/-- Each command's rule of `lengthRules` is the one its row applies. -/
theorem commandRow_of_lengthRules : ∀ row ∈ lengthRules, CommandRow row.1 (Frame.hasCode row.2.1) row.2.2 := by
  simp only [lengthRules, List.forall_mem_cons, List.not_mem_nil, false_implies, implies_true, and_true]
  exact ⟨⟨pingBody, fun _ => rfl⟩, ⟨getStatusBody, fun _ => rfl⟩, ⟨setParamBody, fun _ => rfl⟩, ⟨mapChannelBody, fun _ => rfl⟩,
    .of_length ⟨setChannelBody, fun _ => rfl⟩ setChannelLength_eq, ⟨getChannelBody, fun _ => rfl⟩, ⟨openLeaseBody, fun _ => rfl⟩,
    .of_length ⟨_, LoaderRow.stageKnots.exec_eq⟩ stageKnotsLength_eq, ⟨_, LoaderRow.clearStaging.exec_eq⟩, ⟨_, LoaderRow.readStaging.exec_eq⟩,
    .of_length ⟨_, LoaderRow.writePage.exec_eq⟩ writePageLength_eq, .of_length ⟨_, LoaderRow.defineCurve.exec_eq⟩ defineCurveLength_eq,
    ⟨_, LoaderRow.closeLease.exec_eq⟩, ⟨getCurveBody, fun _ => rfl⟩, ⟨readKnotsBody, fun _ => rfl⟩, ⟨deleteCurveBody, fun _ => rfl⟩,
    .of_length ⟨bindChannelsBody, fun _ => rfl⟩ bindChannelsLength_eq, .of_length ⟨prepareBindBody, fun _ => rfl⟩ prepareBindLength_eq,
    ⟨applyBindBody, fun _ => rfl⟩, ⟨cancelBindBody, fun _ => rfl⟩, ⟨ackNoticesBody, fun _ => rfl⟩, ⟨resumeNoticesBody, fun _ => rfl⟩,
    ⟨readCountersBody, fun _ => rfl⟩⟩

/-- Every row of an addressed command takes its frames through the common path. -/
theorem commandRow_of_addressedRows : ∀ row ∈ addressedRows, CommandRow row.1 row.2.1 row.2.2 := by
  simp only [addressedRows, List.forall_mem_cons, List.forall_mem_map]
  exact ⟨⟨fun f s => s.respond f .unknown [f.code], fun _ => rfl⟩, ⟨resetNodeBody, fun _ => rfl⟩, ⟨resetNodeBody, fun _ => rfl⟩,
    commandRow_of_lengthRules⟩

/-! ### The common checks (07 R135, R138) -/

/-- With no command in hand the row changes nothing (log 2). -/
theorem State.command_idle {s : State} {accepts : Frame → Bool} {ok : List Byte → Bool} {body : Frame → State → State}
    (h : s.mgmt.inHand = none) : s.command accepts ok body = .next s := by
  unfold State.command
  rw [h]

/-- A broadcast copy, or another row's command, is left to its own row (log 2). -/
theorem State.command_other {s : State} {f : Frame} {accepts : Frame → Bool} {ok : List Byte → Bool} {body : Frame → State → State}
    (h : s.mgmt.inHand = some f) (ha : (f.addressed && accepts f) = false) : s.command accepts ok body = .next s := by
  unfold State.command
  rw [h]
  exact if_neg (Bool.eq_false_iff.1 ha)

/-- Settles O29: each row is one use of `State.command`, whose ends are said once for all rows. -/
theorem commonChecks : Obligations.CommonChecks := by
  intro row hrow s
  obtain ⟨body, hexec⟩ := commandRow_of_addressedRows row hrow
  unfold answersRepeat
  rw [hexec]
  exact ⟨State.command_idle, fun f hf => ⟨State.command_other hf,
    fun haddr hacc => ⟨fun r => State.command_answered hf haddr hacc, State.command_inProgress hf haddr hacc⟩,
    State.command_badLength⟩⟩

end Sys2Proof.Machine
end

section
/-! PING, UNKNOWN_COMMAND and GET_STATUS: O31, O32. -/

namespace Sys2Proof.Machine

/-! ### PING (07 R145) -/

/-- An answer changes the engine alone, its address and parameters kept, its reply cache written in the manager's entry only. -/
theorem State.answered_frame (s : State) (f : Frame) (st : Status) (p : List Byte) :
    ∃ m, s.answered f st p = { s with mgmt := m } ∧ m.address = s.mgmt.address ∧ m.params = s.mgmt.params ∧
      m.cache = s.mgmt.cache.set (managerIndex f.aux) (.answered f.seq (responseFrame s.mgmt.address f.seq f.aux st p)) :=
  ⟨_, s.answered_eq f st p, Management.offer_frame ..⟩

/-- Settles O31: the length rule's two ends on PING's row, and what any answer changes. -/
theorem pingRule : Obligations.PingRule := by
  intro s f h hc
  have hcode : f.hasCode codePing = true := beq_iff_eq.2 hc
  refine ⟨fun hp => ?_, fun hp => ?_, s.answered_frame f⟩
  · exact State.command_taken h hcode (by rw [hp]; rfl)
  · exact State.command_badLength h hcode (beq_eq_false_iff_ne.2 (mt List.length_eq_zero_iff.1 hp))

/-! ### What GET_STATUS counts (07 Table 7-6) -/

theorem byteOf_curvesIn (s : State) (x : CurveState) :
    byteOf (s.store.curvesIn x) = curvesCounted s x := by
  rw [CurveStore.curvesIn, s.curves_toList, List.countP_map]
  rfl

/-- The slots in ascending order. -/
theorem Conditioner.slots_toList (x : Conditioner) : x.slots.toList = (List.finRange 4).map fun i => x.slots[i] := by
  refine List.ext_getElem (by simp) fun i h1 h2 => ?_
  simp

theorem Conditioner.occupied_eq (x : Conditioner) : x.occupied = (List.finRange 4).countP fun i => x.slots[i] != none := by
  rw [Conditioner.occupied, x.slots_toList, List.countP_map]
  have hocc (o : Option WorkSlot) : o.isSome = (o != none) := by cases o <;> rfl
  exact congrArg (List.countP · (List.finRange 4)) (funext fun i => hocc x.slots[i])

/-! ### The lease as GET_STATUS reports it (07 Table 7-6, bytes 1 to 4) -/

theorem flagByte_isSome {α : Type} (o : Option α) : flagByte o.isSome = o.elim 0 fun _ => 1 := by
  cases o <;> rfl

theorem halfBytes_elim {α : Type} (o : Option α) (g : α → Half) :
    halfBytes (o.elim 0 g) = [o.elim 0 fun x => (g x).extractLsb' 8 8, o.elim 0 fun x => (g x).extractLsb' 0 8] := by
  cases o with
  | none => simp [halfBytes]
  | some x => rfl

/-! ### GET_STATUS (07 R146) -/

section
variable {f : Frame} {option : Byte} (hp : f.payload = [option]) (s : State)
include hp

theorem getStatusBody_badArg (h : 1 < option.toNat) : getStatusBody f s = s.respond f .badArg [] := by
  unfold getStatusBody
  simp only [hp, if_neg (Nat.not_le.2 h)]

theorem getStatusBody_report (h : option = 0) : getStatusBody f s = s.respond f .ok s.status := by
  subst h
  unfold getStatusBody
  rw [hp]
  rfl

/-- The report is formed before the NOTICE_LOST flag is cleared. -/
theorem getStatusBody_reportClears (h : option = 1) :
    getStatusBody f s = ({ s with notices := { s.notices with lost := false } } : State).respond f .ok s.status := by
  subst h
  unfold getStatusBody
  rw [hp]
  rfl

end

/-- Settles O32: the tables by evaluation, then each command's body; the report's bytes one lemma for each that the model writes in another way. -/
theorem nodeReports : Obligations.NodeReports := by
  refine ⟨rfl, ⟨rfl, rfl⟩, ⟨rfl, rfl, rfl⟩, ⟨rfl, rfl, rfl⟩, ⟨rfl, rfl⟩, fun s f h => ⟨fun hc => ?_, fun hc option hp => ?_⟩⟩
  · exact State.command_taken h (by simpa [Frame.codeUnknown] using hc) rfl
  have htaken : exec .getStatus s = .next (getStatusBody f (s.begun f)) :=
    State.command_taken h (beq_iff_eq.2 hc) (by rw [hp]; rfl)
  rw [htaken]
  refine ⟨fun hbad => congrArg _ (getStatusBody_badArg hp _ hbad), fun _ => ?_⟩
  intro lease report
  have hreport : (s.begun f).status = report := by
    have hstatus : (s.begun f).status = s.status := rfl
    rw [hstatus, State.status, flagByte_isSome, halfBytes_elim, byteOf_curvesIn, byteOf_curvesIn, byteOf_curvesIn,
      byteOf_curvesIn, Conditioner.occupied_eq]
    rfl
  rw [← hreport]
  exact ⟨fun h0 => congrArg _ (getStatusBody_report hp _ h0), fun h1 => congrArg _ (getStatusBody_reportClears hp _ h1)⟩

end Sys2Proof.Machine
end

section
/-! SET_PARAM: O33. -/

namespace Sys2Proof.Machine

/-! ### The parameters' ids and ranges (07 Table 7-3) -/

theorem ParamId.ofCode_bad {b : Byte} (h : b = 0 ∨ 4 < b.toNat) : ParamId.ofCode b = none := by
  have hne (x : Byte) (h1 : x ≠ 0) (h4 : x.toNat ≤ 4) : b ≠ x := by
    rintro rfl
    exact h.elim h1 (Nat.not_lt.2 h4)
  rw [ParamId.ofCode, if_neg (hne 1 (by decide) (by decide)), if_neg (hne 2 (by decide) (by decide)),
    if_neg (hne 3 (by decide) (by decide)), if_neg (hne 4 (by decide) (by decide))]

theorem ParamId.accepts_leaseTime_iff (v : Half) :
    ParamId.leaseTime.accepts v = true ↔ 10 ≤ v.toNat ∧ v.toNat ≤ 2550 ∧ v.toNat % 10 = 0 := by
  simp [ParamId.accepts, and_assoc]

theorem ParamId.accepts_noticeRetry_iff (v : Half) : ParamId.noticeRetry.accepts v = true ↔ 5 ≤ v.toNat ∧ v.toNat ≤ 255 := by
  simp [ParamId.accepts]

theorem ParamId.accepts_unmappedPolicy_iff (v : Half) : ParamId.unmappedPolicy.accepts v = true ↔ v.toNat ≤ 1 := decide_eq_true_iff

theorem ParamId.accepts_noticeMask_iff (v : Half) : ParamId.noticeMask.accepts v = true ↔ v.toNat < 64 := decide_eq_true_iff

/-! ### The unmapped head frame that waits for the forward queue (01 R18, log 21) -/

theorem State.decide_eq_passUnmapped_iff (s : State) (f : Frame) :
    s.decide f = .passUnmapped ↔ s.mgmt.params.unmappedPolicy = .forward ∧ f.kind = .sample ∧ s.table.lookup f.addr = none := by
  constructor
  · intro h
    unfold State.decide at h
    split_ifs at h with hk
    split at h
    next hl =>
      split at h
      next hp => exact ⟨hp, hk, hl⟩
      next => cases h
    next k hl =>
      split_ifs at h
      split at h <;> cases h
  · rintro ⟨hp, hk, hl⟩
    exact State.decide_forward hk hl hp

theorem State.unmappedWaits_iff (s : State) :
    s.unmappedWaits = true ↔ 8 ≤ s.merger.fq.length ∧ s.mgmt.params.unmappedPolicy = .forward ∧
      ∃ g, s.uPort.buffer.head? = some g ∧ g.kind = .sample ∧ s.table.lookup g.addr = none := by
  simp only [State.unmappedWaits, State.headDecision, Bool.and_eq_true, State.forwardFull_iff, beq_iff_eq, Option.map_eq_some_iff,
    State.decide_eq_passUnmapped_iff]
  constructor
  · rintro ⟨hfull, g, hg, hp, hk, hl⟩
    exact ⟨hfull, hp, g, hg, hk, hl⟩
  · rintro ⟨hfull, hp, g, hg, hk, hl⟩
    exact ⟨hfull, g, hg, hp, hk, hl⟩

/-! ### A parameter written (07 R132) -/

/-- The part with other parameters, nothing decided afresh. -/
def State.withParams (s : State) (q : Params) : State := { s with mgmt := { s.mgmt with params := q } }

/-- While no unmapped frame waits, writing a parameter is all that happens. -/
theorem State.writeParam_of_not_waiting {s : State} (h : ¬ s.unmappedWaits = true) (p : ParamId) (v : Half) :
    s.writeParam p v = s.withParams (s.mgmt.params.set p v) :=
  if_neg fun hc => h (Bool.and_eq_true_iff.1 hc).1

/-- Nor does more happen when the policy written, or kept, is FORWARD. -/
theorem State.writeParam_of_forward {s : State} {p : ParamId} {v : Half} (h : (s.mgmt.params.set p v).unmappedPolicy = .forward) :
    s.writeParam p v = s.withParams (s.mgmt.params.set p v) :=
  if_neg fun hc => by
    have hd := (Bool.and_eq_true_iff.1 hc).2
    exact absurd (beq_iff_eq.1 hd) (by rw [h]; decide)

/-- A write of another parameter leaves the policy, so a frame that waits under FORWARD waits on. -/
theorem State.writeParam_of_ne (s : State) {p : ParamId} (h : p ≠ .unmappedPolicy) (v : Half) :
    s.writeParam p v = s.withParams (s.mgmt.params.set p v) := by
  by_cases hw : s.unmappedWaits = true
  · obtain ⟨-, hforward, -⟩ := s.unmappedWaits_iff.1 hw
    refine State.writeParam_of_forward ?_
    cases p with
    | unmappedPolicy => exact absurd rfl h
    | leaseTime | noticeRetry | noticeMask => exact hforward
  · exact State.writeParam_of_not_waiting hw p v

/-- Under DROP the data classifier drops and counts an unmapped head frame. -/
theorem State.classifyData_withParams_drop {s : State} {q : Params} {g : Frame} {rest : List Frame} (hq : q.unmappedPolicy = .drop)
    (hbuf : s.uPort.buffer = g :: rest) (hk : g.kind = .sample) (hl : s.table.lookup g.addr = none) :
    (s.withParams q).classifyData =
      (({ s with uPort := { s.uPort with buffer := rest } }).countNode fun c => { c with unmappedDrop := c.unmappedDrop + 1 }).withParams q :=
  State.classifyData_drops (s := s.withParams q) hbuf (State.decide_drop hk hl hq) (.inl rfl)

/-- The change to DROP drops and counts the unmapped head frame that waited (log 21). -/
theorem State.writeParam_drops {s : State} (h : s.unmappedWaits = true) :
    s.writeParam .unmappedPolicy 1 =
      (({ s with uPort := { s.uPort with buffer := s.uPort.buffer.tail } }).countNode fun c =>
        { c with unmappedDrop := c.unmappedDrop + 1 }).withParams { s.mgmt.params with unmappedPolicy := .drop } := by
  obtain ⟨-, -, g, hg, hk, hl⟩ := s.unmappedWaits_iff.1 h
  obtain ⟨rest, hbuf⟩ := List.head?_eq_some_iff.1 hg
  have hwrite : s.writeParam .unmappedPolicy 1 = (s.withParams { s.mgmt.params with unmappedPolicy := .drop }).classifyData :=
    if_pos (Bool.and_eq_true_iff.2 ⟨h, rfl⟩)
  rw [hwrite, State.classifyData_withParams_drop rfl hbuf hk hl, hbuf, List.tail_cons]

/-! ### SET_PARAM's checks (07 R132) -/

theorem execSetParam_taken {s : State} {f : Frame} {id hi lo : Byte} (h : s.Takes f) (hc : f.code = codeSetParam)
    (hp : f.payload = [id, hi, lo]) : exec .setParam s = .next (setParamBody f (s.begun f)) :=
  State.command_taken h (beq_iff_eq.2 hc) (by rw [hp]; rfl)

section
variable (s : State) {f : Frame} {id hi lo : Byte} (hp : f.payload = [id, hi, lo])
include hp

theorem setParamBody_badId (h : ParamId.ofCode id = none) : setParamBody f s = s.respond f .badArg [1] := by
  unfold setParamBody
  simp only [hp, h]

variable {p : ParamId} (h : ParamId.ofCode id = some p)
include h

theorem setParamBody_badValue (hv : ¬ p.accepts (hi ++ lo) = true) : setParamBody f s = s.respond f .badArg [2] := by
  unfold setParamBody
  simp only [hp, h]
  exact if_neg hv

theorem setParamBody_written (hv : p.accepts (hi ++ lo) = true) :
    setParamBody f s = (s.writeParam p (hi ++ lo)).respond f .ok (id :: halfBytes (s.mgmt.params.get p) ++ [hi, lo]) := by
  unfold setParamBody
  simp only [hp, h]
  rw [← halfBytes_halfOf hi lo]
  exact if_pos hv

end

/-- A new SET_PARAM that names a parameter: refused for its value, or answered with both values on the part `t` that the write leaves. -/
theorem execSetParam_results {s : State} {f : Frame} {id hi lo : Byte} (h : s.Takes f) (hc : f.code = codeSetParam)
    (hp : f.payload = [id, hi, lo]) {p : ParamId} (hid : ParamId.ofCode id = some p) :
    (¬ p.accepts (hi ++ lo) = true → exec .setParam s = .next (s.answered f .badArg [2])) ∧
    (p.accepts (hi ++ lo) = true → ∀ t, (s.begun f).writeParam p (hi ++ lo) = t →
      exec .setParam s = .next (t.respond f .ok (id :: halfBytes (s.mgmt.params.get p) ++ [hi, lo]))) := by
  rw [execSetParam_taken h hc hp]
  refine ⟨fun hv => congrArg _ (setParamBody_badValue _ hp hid hv), fun hv t ht => ?_⟩
  rw [setParamBody_written _ hp hid hv, ht]
  rfl

/-- Settles O33: for each parameter its range, and what writing it comes to. -/
theorem setParamResult : Obligations.SetParamResult := by
  intro s f id hi lo h hc hp v q refused written waits dropped policy
  have hpolicy (x : UnmappedPolicy) : x.code = policy x := by cases x <;> rfl
  have hwaits : (s.begun f).unmappedWaits = true ↔ waits := State.unmappedWaits_iff (s.begun f)
  refine ⟨fun hid => ?_, fun hid => ?_, fun hid => ?_, fun hid => ?_, fun hid => ?_⟩
  · exact (execSetParam_taken h hc hp).trans (congrArg _ (setParamBody_badId _ hp (ParamId.ofCode_bad hid)))
  · obtain ⟨hrefused, hwritten⟩ := execSetParam_results h hc hp (p := .leaseTime) (by rw [hid]; rfl)
    rw [ParamId.accepts_leaseTime_iff] at hrefused hwritten
    exact ⟨fun hv => hwritten hv _ (State.writeParam_of_ne _ (by decide) _), hrefused⟩
  · obtain ⟨hrefused, hwritten⟩ := execSetParam_results h hc hp (p := .noticeRetry) (by rw [hid]; rfl)
    rw [ParamId.accepts_noticeRetry_iff] at hrefused hwritten
    exact ⟨fun hv => hwritten hv _ (State.writeParam_of_ne _ (by decide) _), hrefused⟩
  · obtain ⟨hrefused, hwritten⟩ := execSetParam_results h hc hp (p := .unmappedPolicy) (by rw [hid]; rfl)
    rw [ParamId.accepts_unmappedPolicy_iff] at hrefused hwritten
    have hold : s.mgmt.params.get .unmappedPolicy = policy q.unmappedPolicy := hpolicy _
    rw [hold] at hwritten
    refine ⟨fun hv => ?_, fun hv hn => ?_, fun hv hw => ?_, fun hv => hrefused (Nat.not_le.2 hv)⟩
    all_goals
      rw [show hi ++ lo = v from rfl, hv] at hwritten
    · exact hwritten (by decide) _ (State.writeParam_of_forward rfl)
    · exact hwritten (by decide) _ (State.writeParam_of_not_waiting (hwaits.not.2 hn) ..)
    · have hdrops := State.writeParam_drops (hwaits.2 hw)
      obtain ⟨-, hforward, -⟩ := hw
      rw [hforward] at hwritten
      exact hwritten (by decide) _ hdrops
  · obtain ⟨hrefused, hwritten⟩ := execSetParam_results h hc hp (p := .noticeMask) (by rw [hid]; rfl)
    rw [ParamId.accepts_noticeMask_iff] at hrefused hwritten
    exact ⟨fun hv => hwritten hv _ (State.writeParam_of_ne _ (by decide) _), fun hv => hrefused (Nat.not_lt.2 hv)⟩

end Sys2Proof.Machine
end

section
/-! The part after the release of RESETn: O60. -/

namespace Sys2Proof.Machine

/-- The notice unit after a reset: NODE_START alone in the window, QUEUED, no timer running (08 R168). -/
theorem NoticeUnit.reset_kept (reason : StartReason) : (NoticeUnit.reset reason).Kept := by
  have hsized : (NoticeUnit.reset reason).Sized := by
    simp [NoticeUnit.Sized, NoticeUnit.reset, Config.windowSize]
  have hconsecutive : (NoticeUnit.reset reason).Consecutive := by
    simp [NoticeUnit.Consecutive, NoticeUnit.reset, byteOf]
  have hrange : (NoticeUnit.reset reason).InRange := by
    simp [NoticeUnit.InRange, NoticeUnit.reset, Config.maxCoalesce]
  exact ⟨hsized, hconsecutive, List.pairwise_singleton .., hrange, rfl⟩

theorem State.reset_countsKept : State.reset.CountsKept :=
  (State.countsKept_iff _).2 ⟨State.reset_channelsKept, State.reset_tallied, Conditioner.reset_paired⟩

/-- Settles O60: no invariant reads the commands waiting, and each holds at reset. -/
theorem resetKeepsAll : Obligations.ResetKeepsAll := by
  intro commands s
  have hchannels : s.ChannelsKept := State.reset_channelsKept.same_table rfl rfl rfl
  refine ⟨State.reset_queuesKept.same (by constructor <;> rfl), NoticeUnit.reset_kept .power, s.pagesKept_iff.2 ?_, hchannels, ?_⟩
  · exact State.reset_pagesHold.same (.of_eq rfl rfl rfl)
  · exact State.reset_countsKept.of_conditioner hchannels
      (State.reset_tallied.same (.of_table State.reset_tallied rfl rfl rfl rfl (.refl _))) rfl

end Sys2Proof.Machine
end

section
/-! The notice unit's own events, one lemma for each part of what chapter 08 says always holds of it: its window, its held list, its timer. -/

namespace Sys2Proof.Machine

/-! ### What always holds, entry by entry (08 R156, R162, Table 8-2) -/

/-- A notice's coalesce count is in its range (08 Table 8-2). -/
def Notice.Fits (n : Notice) : Prop := 1 ≤ n.coalesce ∧ n.coalesce ≤ Config.maxCoalesce

/-- An entry's transmissions are in the range of its state (08 Table 8-2, R162). -/
def WindowEntry.Fits (e : WindowEntry) : Prop := if e.sent then 1 ≤ e.transmissions ∧ e.transmissions ≤ 4 else e.transmissions ≤ 3

/-- An entry may stand before another in the window (08 R156). -/
def WindowEntry.Before (a b : WindowEntry) : Prop :=
  (b.sent = true → a.sent = true) ∧ b.transmissions ≤ a.transmissions ∧ (a.sent = true → b.sent = false → b.transmissions < a.transmissions)

/-- What always holds of the window, its sequences, its entries and the timer (08 R156, R157, R161). -/
structure NoticeUnit.WindowKept (u : NoticeUnit) : Prop where
  size : u.window.length ≤ Config.windowSize
  consecutive : u.Consecutive
  ordered : u.window.Pairwise WindowEntry.Before
  fits : ∀ e ∈ u.window, e.Fits ∧ e.notice.Fits
  timed : u.Timed

/-- What always holds of the held list (08 R153, R154, R156). -/
structure NoticeUnit.HeldKept (u : NoticeUnit) : Prop where
  size : u.held.length ≤ Config.heldSize
  full : u.held ≠ [] → u.window.length = Config.windowSize
  distinct : u.held.Pairwise fun a b => a.matches b = false
  fits : ∀ n ∈ u.held, n.Fits

theorem NoticeUnit.kept_iff (u : NoticeUnit) : u.Kept ↔ u.WindowKept ∧ u.HeldKept := by
  constructor
  · rintro ⟨⟨hw, hs, hf, hd⟩, hc, ho, ⟨ht, hwn, hhn⟩, htimed⟩
    exact ⟨⟨hw, hc, ho, fun e he => ⟨ht e he, hwn e he⟩, htimed⟩, hs, hf, hd, hhn⟩
  · rintro ⟨⟨hw, hc, ho, hfit, htimed⟩, hs, hf, hd, hhn⟩
    exact ⟨⟨hw, hs, hf, hd⟩, hc, ho, ⟨fun e he => (hfit e he).1, fun e he => (hfit e he).2, hhn⟩, htimed⟩

/-! ### Sequences (08 R156, R157) -/

theorem NoticeUnit.consecutive_iff (u : NoticeUnit) :
    u.Consecutive ↔ ∀ (i : Nat) (h : i < u.window.length), u.window[i].seq = u.nextSeq - byteOf (u.window.length - i) := by
  unfold NoticeUnit.Consecutive
  rw [List.ext_getElem_iff]
  simp

/-- Whatever leaves each entry's sequence and the sequence counter leaves the sequences consecutive. -/
theorem NoticeUnit.Consecutive.of_seqs {u v : NoticeUnit} (h : u.Consecutive) (hw : v.window.map WindowEntry.seq = u.window.map WindowEntry.seq)
    (hn : v.nextSeq = u.nextSeq) : v.Consecutive := by
  have hlen : v.window.length = u.window.length := by simpa using congrArg List.length hw
  unfold NoticeUnit.Consecutive
  rw [hw, hlen, hn]
  exact h

theorem byteOf_succ (n : Nat) : byteOf (n + 1) = byteOf n + 1 := BitVec.ofNat_add ..

theorem NoticeUnit.Consecutive.enter {u : NoticeUnit} (h : u.Consecutive) (n : Notice) : (u.enter n).Consecutive := by
  rw [NoticeUnit.consecutive_iff] at h ⊢
  intro i hi
  simp only [NoticeUnit.enter, List.length_append, List.length_singleton] at hi ⊢
  by_cases hlast : i < u.window.length
  · rw [List.getElem_append_left hlast, h i hlast, Nat.sub_add_comm hlast.le, byteOf_succ]
    exact (add_sub_add_right_eq_sub ..).symm
  · obtain rfl : i = u.window.length := by omega
    rw [List.getElem_concat_length rfl, Nat.add_sub_cancel_left]
    exact (add_sub_cancel_right u.nextSeq 1).symm

theorem NoticeUnit.Consecutive.drop {u : NoticeUnit} (h : u.Consecutive) (n : Nat) (t : Option RetryTimer) :
    ({ u with window := u.window.drop n, timer := t } : NoticeUnit).Consecutive := by
  rw [NoticeUnit.consecutive_iff] at h ⊢
  intro i hi
  rw [List.length_drop] at hi ⊢
  rw [List.getElem_drop, h, Nat.sub_sub]

/-! ### The window's events -/

namespace NoticeUnit.WindowKept
variable {u : NoticeUnit} (h : u.WindowKept)
include h

/-- A notice enters a window that has a place, QUEUED behind all others (08 R153). -/
theorem enter {n : Notice} (hroom : u.window.length < Config.windowSize) (hn : n.Fits) : (u.enter n).WindowKept where
  size := by simpa [NoticeUnit.enter] using hroom
  consecutive := h.consecutive.enter n
  ordered := by
    refine List.pairwise_append.2 ⟨h.ordered, List.pairwise_singleton .., fun a ha b hb => ?_⟩
    obtain rfl := List.mem_singleton.1 hb
    refine ⟨by simp, Nat.zero_le _, fun hsent _ => ?_⟩
    have hfit := (h.fits a ha).1
    rw [WindowEntry.Fits, if_pos hsent] at hfit
    exact hfit.1
  fits := by
    intro e he
    obtain he | he := List.mem_append.1 he
    · exact h.fits e he
    · obtain rfl := List.mem_singleton.1 he
      exact ⟨Nat.zero_le 3, hn⟩
  timed := by simpa [NoticeUnit.Timed, NoticeUnit.enter] using h.timed

/-- Entries leave at the head; the timer is given as the rest needs it (08 R163). -/
theorem drop (n : Nat) {t : Option RetryTimer} (ht : t.isSome = (u.state == .running && (u.window.drop n).any WindowEntry.sent)) :
    ({ u with window := u.window.drop n, timer := t } : NoticeUnit).WindowKept where
  size := (List.drop_sublist ..).length_le.trans h.size
  consecutive := h.consecutive.drop n t
  ordered := h.ordered.drop
  fits e he := h.fits e (List.mem_of_mem_drop he)
  timed := ht

/-- Every entry QUEUED afresh, the unit RUNNING (08 R163, R165). -/
theorem renew : ({ u with state := .running, window := u.window.map WindowEntry.renew, timer := none } : NoticeUnit).WindowKept where
  size := by simpa using h.size
  consecutive := h.consecutive.of_seqs (by rw [List.map_map]; rfl) rfl
  ordered := List.pairwise_map.2 (List.pairwise_of_forall fun _ _ => ⟨fun hb => hb, le_rfl, fun ha => nomatch ha⟩)
  fits := by
    intro e he
    obtain ⟨x, hx, rfl⟩ := List.mem_map.1 he
    exact ⟨Nat.zero_le 3, (h.fits x hx).2⟩
  timed := by simp [NoticeUnit.Timed, Function.comp_def, WindowEntry.renew]

/-- Every entry back to QUEUED, while all have transmissions left (08 R162). -/
theorem goBack (hleft : ∀ e ∈ u.window, e.transmissions < Config.maxTransmissions) :
    ({ u with window := u.window.map WindowEntry.goBack, timer := none } : NoticeUnit).WindowKept where
  size := by simpa using h.size
  consecutive := h.consecutive.of_seqs (by rw [List.map_map]; rfl) rfl
  ordered := List.pairwise_map.2 (h.ordered.imp fun ⟨_, hle, _⟩ => ⟨fun hb => hb, hle, fun ha => nomatch ha⟩)
  fits := by
    intro e he
    obtain ⟨x, hx, rfl⟩ := List.mem_map.1 he
    exact ⟨Nat.le_of_lt_succ (hleft x hx), (h.fits x hx).2⟩
  timed := by simp [NoticeUnit.Timed, Function.comp_def, WindowEntry.goBack]

/-- The unit stalls, its window as it was (08 R162). -/
theorem stall : ({ u with state := .stalled, timer := none } : NoticeUnit).WindowKept :=
  ⟨h.size, h.consecutive, h.ordered, h.fits, rfl⟩

/-- The window does not read the held list. -/
theorem withHeld (l : List Notice) : ({ u with held := l } : NoticeUnit).WindowKept :=
  ⟨h.size, h.consecutive, h.ordered, h.fits, h.timed⟩

/-- The timer counts, or NOTICE_LOST changes: the window does not (08 R155, R161). -/
theorem count {t : Option RetryTimer} (ht : t.isSome = u.timer.isSome) (b : Bool) : ({ u with timer := t, lost := b } : NoticeUnit).WindowKept :=
  ⟨h.size, h.consecutive, h.ordered, h.fits, ht.trans h.timed⟩

/-- The oldest QUEUED entry transmitted, with the timer running (08 R159, R161). -/
theorem transmit (hrun : u.state = .running) {before after : List WindowEntry} {e : WindowEntry} (hw : u.window = before ++ e :: after)
    (hsent : ∀ x ∈ before, x.sent = true) (hq : e.sent = false) (t : RetryTimer) :
    ({ u with window := before ++ e.transmit :: after, timer := some t } : NoticeUnit).WindowKept := by
  obtain ⟨hsize, hcons, hord, hfits, -⟩ := h
  rw [hw] at hsize hord hfits
  obtain ⟨hbefore, htail, hcross⟩ := List.pairwise_append.1 hord
  obtain ⟨hhead, hafter⟩ := List.pairwise_cons.1 htail
  have hfit := hfits e (by simp)
  have hleft : e.transmissions ≤ 3 := by simpa [WindowEntry.Fits, hq] using hfit.1
  refine ⟨by simpa using hsize, hcons.of_seqs (by simp [hw, WindowEntry.transmit]) rfl, ?_, fun x hx => ?_, ?_⟩
  · refine List.pairwise_append.2 ⟨hbefore, List.pairwise_cons.2 ⟨fun b hb => ?_, hafter⟩, fun a ha b hb => ?_⟩
    · obtain ⟨hs, hle, -⟩ := hhead b hb
      exact ⟨fun _ => rfl, Nat.le_succ_of_le hle, fun _ _ => Nat.lt_succ_of_le hle⟩
    · obtain rfl | hb := List.mem_cons.1 hb
      · obtain ⟨-, -, hlt⟩ := hcross a ha e (by simp)
        exact ⟨fun _ => hsent a ha, hlt (hsent a ha) hq, fun _ he => nomatch he⟩
      · exact hcross a ha b (List.mem_cons_of_mem _ hb)
  · obtain hx | hx := List.mem_append.1 hx
    · exact hfits x (by simp [hx])
    · obtain rfl | hx := List.mem_cons.1 hx
      · exact ⟨⟨Nat.le_add_left .., Nat.succ_le_succ hleft⟩, hfit.2⟩
      · exact hfits x (by simp [hx])
  · simp [NoticeUnit.Timed, hrun, WindowEntry.transmit]

end NoticeUnit.WindowKept

end Sys2Proof.Machine
end

section
/-! The notice unit's held list, and the unit's own events as one: each keeps what chapter 08 says always holds. -/

namespace Sys2Proof.Machine

/-! ### The held list (08 R153, R154, R164) -/

/-- A merged entry's count is one more, up to its limit (08 R154). -/
theorem Notice.fits_merge (n h : Notice) : (n.merge h).Fits := ⟨Nat.le_min.2 ⟨Nat.le_add_left .., by decide⟩, Nat.min_le_right ..⟩

theorem Notice.matches_comm (a b : Notice) : a.matches b = b.matches a := by
  simp [Notice.matches, Bool.beq_comm]

namespace NoticeUnit.HeldKept
variable {u : NoticeUnit} (h : u.HeldKept)
include h

/-- While the window has a place nothing is held (08 R153). -/
theorem held_eq_nil (hroom : u.window.length < Config.windowSize) : u.held = [] := by
  by_contra hne
  exact hroom.ne (h.full hne)

/-- The held list goes with any window that is full where it was. -/
theorem withWindow {v : NoticeUnit} (hheld : v.held = u.held)
    (hw : u.window.length = Config.windowSize → v.window.length = Config.windowSize) : v.HeldKept := by
  obtain ⟨hsize, hfull, hdistinct, hfits⟩ := h
  rw [← hheld] at hsize hfull hdistinct hfits
  exact ⟨hsize, fun hne => hw (hfull hne), hdistinct, hfits⟩

/-- A held entry takes a new raise of its kind and subject (08 R154). -/
theorem merge (n : Notice) : ({ u with held := u.held.map fun h => if n.matches h then n.merge h else h } : NoticeUnit).HeldKept where
  size := by simpa using h.size
  full hne := h.full fun e => hne (by simp [e])
  distinct := by
    refine List.pairwise_map.2 (h.distinct.imp fun {a b} hab => ?_)
    split <;> split <;> exact hab
  fits := by
    intro x hx
    obtain ⟨y, hy, rfl⟩ := List.mem_map.1 hx
    split
    · exact n.fits_merge y
    · exact h.fits y hy

/-- A notice that matches none held joins the list of a full window (08 R154). -/
theorem hold {n : Notice} (hfull : u.window.length = Config.windowSize) (hroom : u.held.length < Config.heldSize)
    (hnew : u.held.any n.matches = false) (hn : n.Fits) : ({ u with held := u.held ++ [n] } : NoticeUnit).HeldKept where
  size := by simpa using hroom
  full _ := hfull
  distinct := by
    refine List.pairwise_append.2 ⟨h.distinct, List.pairwise_singleton .., fun a ha b hb => ?_⟩
    obtain rfl := List.mem_singleton.1 hb
    rw [Notice.matches_comm]
    exact Bool.eq_false_iff.2 (List.any_eq_false.1 hnew a ha)
  fits := by
    intro x hx
    obtain hx | hx := List.mem_append.1 hx
    · exact h.fits x hx
    · exact List.mem_singleton.1 hx ▸ hn

end NoticeUnit.HeldKept

/-! ### Promotion (08 R164) -/

/-- Notices entered one after another stand behind the window's entries, with consecutive sequences. -/
theorem NoticeUnit.foldl_enter (l : List Notice) (u : NoticeUnit) :
    l.foldl NoticeUnit.enter u = { u with
      window := u.window ++ l.mapIdx fun i n => ⟨n, u.nextSeq + BitVec.ofNat 8 i, false, 0⟩
      nextSeq := u.nextSeq + BitVec.ofNat 8 l.length } := by
  induction l generalizing u with
  | nil => simp
  | cons n l ih =>
    have hseq (i : Nat) : u.nextSeq + 1#8 + BitVec.ofNat 8 i = u.nextSeq + BitVec.ofNat 8 (i + 1) := by
      rw [BitVec.ofNat_add, add_assoc, add_comm 1#8]
    rw [List.foldl_cons, ih]
    simp [NoticeUnit.enter, hseq]

/-- What a promotion leaves: the notices that fit the places taken from the held list to the window's tail. -/
theorem NoticeUnit.promote_eq (u : NoticeUnit) (places : Nat) :
    u.promote places = { u with
      window := u.window ++ (u.held.take places).mapIdx fun i n => ⟨n, u.nextSeq + BitVec.ofNat 8 i, false, 0⟩
      held := u.held.drop places
      nextSeq := u.nextSeq + BitVec.ofNat 8 (u.held.take places).length } := NoticeUnit.foldl_enter ..

/-- Notices entered one after another where there are places for them. -/
theorem NoticeUnit.WindowKept.foldl_enter {u : NoticeUnit} (h : u.WindowKept) {l : List Notice} (hroom : u.window.length + l.length ≤ Config.windowSize)
    (hl : ∀ n ∈ l, n.Fits) : (l.foldl NoticeUnit.enter u).WindowKept := by
  induction l generalizing u with
  | nil => exact h
  | cons n l ih =>
    obtain ⟨hn, hl⟩ := List.forall_mem_cons.1 hl
    rw [List.length_cons] at hroom
    refine ih (h.enter (by omega) hn) ?_ hl
    simp only [NoticeUnit.enter, List.length_append, List.length_singleton]
    omega

/-- The places that leave the window are filled from the held list as far as it goes (08 R164). -/
theorem NoticeUnit.promote_kept {u v : NoticeUnit} {n : Nat} (hv : v.WindowKept) (hu : u.HeldKept) (hheld : v.held = u.held)
    (hplaces : v.window.length + n = u.window.length) : (v.promote n).Kept := by
  obtain ⟨hsize, hfull, hdistinct, hfits⟩ := hu
  rw [← hheld] at hsize hfull hdistinct hfits
  rw [← hplaces] at hfull
  refine (NoticeUnit.kept_iff _).2 ⟨?_, ?_⟩
  · refine (hv.withHeld (v.held.drop n)).foldl_enter ?_ fun x hx => hfits x (List.mem_of_mem_take hx)
    by_cases hnil : v.held = []
    · simpa [hnil] using hv.size
    · have := hfull hnil
      rw [List.length_take]
      dsimp only
      omega
  · rw [NoticeUnit.promote_eq]
    refine ⟨(List.drop_sublist ..).length_le.trans hsize, fun hne => ?_, hdistinct.drop, fun x hx => hfits x (List.mem_of_mem_drop hx)⟩
    have hlong : n < v.held.length := by simpa using hne
    have := hfull (List.ne_nil_of_length_pos (Nat.zero_lt_of_lt hlong))
    rw [List.length_append, List.length_mapIdx, List.length_take]
    omega

/-! ### The unit's events -/

namespace NoticeUnit.Kept
variable {u : NoticeUnit} (h : u.Kept)
include h

/-- A raise, whatever becomes of it (08 R152 to R154). -/
theorem raise (mask : Half) {n : Notice} (hn : n.Fits) : (u.raise mask n).Kept := by
  obtain ⟨hw, hh⟩ := u.kept_iff.1 h
  obtain e | ⟨hroom, e⟩ | ⟨hfull, e | ⟨hheld, hnew, e⟩ | e⟩ := u.raise_cases mask n <;> rw [e]
  · exact h
  · refine (NoticeUnit.kept_iff _).2 ⟨hw.enter hroom hn, ?_⟩
    have hnil : (u.enter n).held = [] := hh.held_eq_nil hroom
    exact ⟨by simp [hnil], fun hne => absurd hnil hne, by simp [hnil], by simp [hnil]⟩
  · exact (NoticeUnit.kept_iff _).2 ⟨hw.withHeld _, hh.merge n⟩
  · exact (NoticeUnit.kept_iff _).2 ⟨hw.withHeld _, hh.hold (hw.size.antisymm (Nat.not_lt.1 hfull)) hheld hnew hn⟩
  · exact (NoticeUnit.kept_iff _).2 ⟨hw.count rfl true, hh.withWindow rfl id⟩

/-- The timer counts, or NOTICE_LOST is read and cleared (08 R155, R161). -/
theorem count {t : Option RetryTimer} (ht : t.isSome = u.timer.isSome) (b : Bool) : ({ u with timer := t, lost := b } : NoticeUnit).Kept := by
  obtain ⟨hw, hh⟩ := u.kept_iff.1 h
  exact (NoticeUnit.kept_iff _).2 ⟨hw.count ht b, hh.withWindow rfl id⟩

/-- An acknowledgement of entries that the window has (08 R163, R164). -/
theorem ack {n : Nat} (hn : n ≤ u.window.length) (retry : Nat) : (u.ack n retry).Kept := by
  obtain ⟨hw, hh⟩ := u.kept_iff.1 h
  have hplaces : (u.window.drop n).length + n = u.window.length := by
    rw [List.length_drop, Nat.sub_add_cancel hn]
  unfold NoticeUnit.ack
  dsimp only
  split
  next hs =>
    have hdropped : ({ u with window := u.window.drop n, timer := none } : NoticeUnit).WindowKept := hw.drop n (by rw [hs]; rfl)
    exact NoticeUnit.promote_kept hdropped.renew hh rfl (by simpa using hplaces)
  next hs =>
    refine NoticeUnit.promote_kept (hw.drop n ?_) hh rfl hplaces
    rw [hs]
    split
    next hany => simp [hany]
    next hany => simp [hany]

/-- RESUME_NOTICES (08 R165). -/
theorem resume : u.resume.Kept := by
  obtain ⟨hw, hh⟩ := u.kept_iff.1 h
  unfold NoticeUnit.resume
  split
  · exact (NoticeUnit.kept_iff _).2 ⟨hw.renew, hh.withWindow rfl (by simp)⟩
  · exact h

/-- A notice taken for transmission: the oldest QUEUED entry (08 R159, R161). -/
theorem transmit (hrun : u.state = .running) {before after : List WindowEntry} {e : WindowEntry} (hw : u.window = before ++ e :: after)
    (hsent : ∀ x ∈ before, x.sent = true) (hq : e.sent = false) (t : RetryTimer) :
    ({ u with window := before ++ e.transmit :: after, timer := some t } : NoticeUnit).Kept := by
  obtain ⟨hwindow, hh⟩ := u.kept_iff.1 h
  exact (NoticeUnit.kept_iff _).2 ⟨hwindow.transmit hrun hw hsent hq t, hh.withWindow rfl (by simp [hw])⟩

/-- The retry expiry: while the head has transmissions left every entry has (08 R156, R162). -/
theorem expire : u.expire.Kept := by
  obtain ⟨hw, hh⟩ := u.kept_iff.1 h
  unfold NoticeUnit.expire
  split
  next e he =>
    obtain ⟨rest, hrest⟩ := List.head?_eq_some_iff.1 he
    split
    next hleft =>
      have hall : ∀ x ∈ u.window, x.transmissions < Config.maxTransmissions := by
        have hord := hw.ordered
        rw [hrest] at hord ⊢
        refine List.forall_mem_cons.2 ⟨hleft, fun x hx => ?_⟩
        obtain ⟨-, hle, -⟩ := (List.pairwise_cons.1 hord).1 x hx
        exact hle.trans_lt hleft
      exact (NoticeUnit.kept_iff _).2 ⟨hw.goBack hall, hh.withWindow rfl (by simp)⟩
    next => exact (NoticeUnit.kept_iff _).2 ⟨hw.stall, hh.withWindow rfl id⟩
  next hnone =>
    have hnil : u.window = [] := List.head?_eq_none_iff.1 hnone
    refine h.count ?_ u.lost
    rw [hw.timed, hnil]
    simp

end NoticeUnit.Kept

/-- A soft reset empties window and held list (08 R169). -/
theorem NoticeUnit.resetSoft_kept (u : NoticeUnit) : u.resetSoft.Kept :=
  (NoticeUnit.kept_iff _).2 ⟨⟨Nat.zero_le _, rfl, .nil, by simp [NoticeUnit.resetSoft], rfl⟩,
    ⟨Nat.zero_le _, fun hne => absurd rfl hne, .nil, by simp [NoticeUnit.resetSoft]⟩⟩

/-! ### The oldest QUEUED entry (08 R158) -/

/-- The entry found is QUEUED, and those before it are SENT. -/
theorem firstQueued_eq_some {l before after : List WindowEntry} {e : WindowEntry} (h : firstQueued l = some (before, e, after)) :
    l = before ++ e :: after ∧ (∀ x ∈ before, x.sent = true) ∧ e.sent = false := by
  induction l generalizing before with
  | nil => cases h
  | cons x l ih =>
    unfold firstQueued at h
    split at h
    next hx =>
      obtain ⟨⟨before', e', after'⟩, hl, heq⟩ := Option.map_eq_some_iff.1 h
      cases heq
      obtain ⟨rfl, hbefore, he⟩ := ih hl
      exact ⟨rfl, List.forall_mem_cons.2 ⟨hx, hbefore⟩, he⟩
    next hx =>
      cases h
      exact ⟨rfl, by simp, Bool.eq_false_iff.2 hx⟩

/-- A QUEUED entry behind SENT ones is found. -/
theorem firstQueued_append {before : List WindowEntry} (after : List WindowEntry) {e : WindowEntry} (hbefore : ∀ x ∈ before, x.sent = true)
    (he : e.sent = false) : firstQueued (before ++ e :: after) = some (before, e, after) := by
  induction before with
  | nil => simp [firstQueued, he]
  | cons x before ih =>
    obtain ⟨hx, hbefore⟩ := List.forall_mem_cons.1 hbefore
    simp [firstQueued, hx, ih hbefore]

/-- The notice unit transmits: the D-port is UP and the node has an address (08 R158). -/
theorem State.noticesFlow_iff (s : State) : s.noticesFlow = true ↔ s.dPort.link = .up ∧ s.mgmt.address ≠ 0 := by
  simp [State.noticesFlow]

/-- The notice unit offers a notice while it runs, may transmit, and has a QUEUED entry (08 R158). -/
theorem State.offers_iff {s : State} : s.offers = true ↔
    s.notices.state = .running ∧ (s.dPort.link = .up ∧ s.mgmt.address ≠ 0) ∧ ∃ x ∈ s.notices.window, x.sent = false := by
  simp [State.offers, State.noticesFlow_iff, and_assoc]

/-- What a notice given comes from: a RUNNING unit's oldest QUEUED entry (08 R158, R159). -/
theorem State.takeNotice_eq_some {s : State} {f : Frame} {u : NoticeUnit} (h : s.takeNotice = some (f, u)) :
    s.notices.state = .running ∧ ∃ before e after, s.notices.window = before ++ e :: after ∧ (∀ x ∈ before, x.sent = true) ∧ e.sent = false ∧
      f = noticeFrame s.mgmt.address e ∧
      u = { s.notices with
        window := before ++ e.transmit :: after
        timer := some (s.notices.timer.getD ⟨s.mgmt.params.noticeRetry.toNat, 0⟩) } := by
  unfold State.takeNotice at h
  split at h
  next hoffers =>
    obtain ⟨hrun, -, -⟩ := State.offers_iff.1 hoffers
    obtain ⟨⟨before, e, after⟩, hq, heq⟩ := Option.map_eq_some_iff.1 h
    cases heq
    obtain ⟨hw, hsent, he⟩ := firstQueued_eq_some hq
    exact ⟨hrun, before, e, after, hw, hsent, he, rfl, rfl⟩
  next => cases h

/-- An acknowledgement counts entries the window has (08 R163). -/
theorem NoticeUnit.acked_le {u : NoticeUnit} {seq : Byte} {n : Nat} (h : u.acked seq = some n) : n ≤ u.window.length := by
  obtain ⟨i, hi, rfl⟩ := Option.map_eq_some_iff.1 h
  exact (List.findIdx?_eq_some_iff_findIdx_eq.1 hi).1

end Sys2Proof.Machine
end

section
/-! What the rows that are not the notice unit's leave of it. -/

namespace Sys2Proof.Machine

/-! ### Bodies that leave the notice unit alone -/

section
variable (f : Frame) (s : State)

@[simp] theorem State.fence_notices (k : ContextId) : (s.fence k).notices = s.notices := rfl

theorem setParamBody_notices : (setParamBody f s).notices = s.notices := by
  unfold setParamBody
  dsimp only
  repeat' split
  all_goals simp

theorem mapChannelBody_notices : (mapChannelBody f s).notices = s.notices := by
  unfold mapChannelBody mapChannelBody.fenceOrFinish
  dsimp only
  repeat' split
  all_goals simp

theorem setChannelBody_notices : (setChannelBody f s).notices = s.notices := by
  unfold setChannelBody
  dsimp only
  repeat' split
  all_goals simp

theorem getChannelBody_notices : (getChannelBody f s).notices = s.notices := by
  unfold getChannelBody
  split <;> rfl

theorem openLeaseBody_notices : (openLeaseBody f s).notices = s.notices := by
  unfold openLeaseBody
  repeat' split
  all_goals rfl

theorem stageKnotsChecked_notices : (stageKnotsChecked f s).notices = s.notices := by
  unfold stageKnotsChecked
  dsimp only
  repeat' split
  all_goals rfl

theorem clearStagingChecked_notices : (clearStagingChecked f s).notices = s.notices := by
  unfold clearStagingChecked
  split <;> rfl

theorem readStagingChecked_notices : (readStagingChecked f s).notices = s.notices := by
  unfold readStagingChecked
  dsimp only
  repeat' split
  all_goals rfl

theorem writePageChecked_notices : (writePageChecked f s).notices = s.notices := by
  unfold writePageChecked
  repeat' split
  all_goals rfl

theorem defineCurveChecked_notices : (defineCurveChecked f s).notices = s.notices := by
  unfold defineCurveChecked
  split <;> rfl

theorem closeLeaseChecked_notices : (closeLeaseChecked f s).notices = s.notices := by
  unfold closeLeaseChecked
  split <;> rfl

theorem getCurveBody_notices : (getCurveBody f s).notices = s.notices := by
  unfold getCurveBody
  split <;> rfl

theorem readKnotsBody_notices : (readKnotsBody f s).notices = s.notices := by
  unfold readKnotsBody
  dsimp only
  repeat' split
  all_goals rfl

theorem prepareBindBody_notices : (prepareBindBody f s).notices = s.notices := by
  unfold prepareBindBody
  dsimp only
  repeat' split
  all_goals simp

theorem cancelBindBody_notices : (cancelBindBody f s).notices = s.notices := by
  unfold cancelBindBody
  repeat' split
  all_goals simp

theorem cancelBindBroadcastBody_notices : (cancelBindBroadcastBody f s).notices = s.notices := by
  unfold cancelBindBroadcastBody
  repeat' split
  all_goals simp

theorem readCountersBody_notices : (readCountersBody f s).notices = s.notices := by
  unfold readCountersBody
  dsimp only
  repeat' split
  all_goals simp

theorem leaseCheck_notices (renews : Bool) {go : State → State} (hgo : ∀ t, (go t).notices = t.notices) :
    (s.leaseCheck f renews go).notices = s.notices := by
  obtain ⟨st, p, e⟩ | e | e := s.leaseCheck_cases f renews go <;> rw [e]
  · rfl
  · exact hgo s.renewLease
  · exact hgo s

end
end Sys2Proof.Machine
end

section
/-! Every row keeps what always holds of the notice unit: O56. -/

namespace Sys2Proof.Machine

/-! ### Events that raise -/

/-- What always holds of the notice unit (08), as a condition of the part. -/
def State.NoticesKept (s : State) : Prop := s.notices.Kept

/-- What leaves the notice unit keeps it. -/
theorem State.NoticesKept.same {s t : State} (h : s.NoticesKept) (e : t.notices = s.notices) : t.NoticesKept := by
  unfold State.NoticesKept
  rwa [e]

namespace State.NoticesKept
variable {s : State} (h : s.NoticesKept)
include h

theorem raise (k : NoticeKind) (b : Byte) (l : List Byte) : (s.raise k b l).NoticesKept :=
  NoticeUnit.Kept.raise h _ ⟨le_rfl, Nat.le_add_left 1 254⟩

theorem raiseLimits (on : Bool) (b : Byte) (l : List Transition) : (s.raiseLimits on b l).NoticesKept := by
  unfold State.raiseLimits
  split
  · induction l generalizing s with
    | nil => exact h
    | cons t l ih => exact ih (h.raise ..)
  · exact h

theorem countGap (k : ContextId) (b : Byte) (n : Nat) : (s.countGap k b n).NoticesKept := by
  have hcounted : (s.countContext k fun c => { c with seqMissing := c.seqMissing + amount n }).NoticesKept := h
  unfold State.countGap
  dsimp only
  split
  · exact h
  · split
    · exact hcounted.raise ..
    · exact hcounted

theorem reclaim (c : CurveId) : (s.reclaim c).NoticesKept :=
  NoticesKept.raise (s := { s with store := s.store.reclaim c }) h ..

theorem deleteCurve (c : CurveId) : (s.deleteCurve c).NoticesKept := by
  unfold State.deleteCurve
  split
  · exact h.reclaim c
  · exact h

theorem releaseAll (l : List CurveId) : (s.releaseAll l).NoticesKept := by
  unfold State.releaseAll
  induction l generalizing s with
  | nil => exact h
  | cons c l ih =>
    refine ih ?_
    rw [State.releaseRequest_eq]
    split
    · exact h.deleteCurve c
    · exact h

theorem unpin (c : CurveId) : (s.unpin c).NoticesKept := by
  have hpins : (s.modCurve c fun d => { d with pins := d.pins - 1 }).NoticesKept := h
  unfold State.unpin
  dsimp only
  split
  · exact hpins.reclaim c
  · exact hpins

theorem releaseSlot (i : SlotId) : (s.releaseSlot i).NoticesKept := by
  unfold State.releaseSlot
  split
  next w _ =>
    have hfreed : ({ s with conditioner := s.conditioner.free i } : State).NoticesKept := h
    exact (hfreed.unpin w.curve).same (by simp)
  next => exact h

theorem enterCq : s.enterCq.NoticesKept := by
  unfold State.enterCq
  split
  next i w f _ =>
    have hjoined : ({ s with merger := { s.merger with cq := s.merger.cq ++ [⟨f, w.context⟩] } } : State).NoticesKept := h
    split
    · exact hjoined.releaseSlot i
    · exact h
  next => exact h

theorem endConversion (u : UnitId) : (s.endConversion u).NoticesKept := by
  unfold State.endConversion
  split
  · split
    next b w _ =>
      have hcommit : (s.commit w b.work).NoticesKept := by
        unfold State.commit
        exact raiseLimits (s := (s.modContext w.context _).countContext w.context _) h ..
      have hidle : ((s.commit w b.work).idleUnit u).NoticesKept := hcommit
      refine same ?_ (State.startConversions_notices _)
      unfold State.settleSlot
      split
      · exact hidle.releaseSlot _
      · have hready : (((s.commit w b.work).idleUnit u).makeReady b.slot w b.work.outputs).NoticesKept := hidle
        dsimp only
        split
        · exact hready.enterCq
        · exact hready
    next => exact h
  · exact h

theorem bindNow (l : List Pair) : (s.bindNow l).NoticesKept :=
  releaseAll (s := s.applyChanges (s.changes l)) h _

theorem applyPending (b : PendingBind) : (s.applyPending b).NoticesKept :=
  releaseAll (s := { (s.applyChanges (s.changes b.pairs)).unreserve b.pairs with bind := none }) (h.same (by simp)) _

theorem countLease : s.countLease.NoticesKept := by
  unfold State.countLease State.expireLease
  split
  · split
    · exact raise (s := s.endLease) h ..
    · exact h
  · exact h

/-! ### Rows -/

/-- A command row, when its body keeps the unit. -/
theorem command (accepts : Frame → Bool) (ok : List Byte → Bool) {body : Frame → State → State}
    (hbody : ∀ f t, t.NoticesKept → (body f t).NoticesKept) :
    NextIs (s.command accepts ok body) State.NoticesKept := by
  obtain ⟨t, e, rfl | ⟨m, c, rfl⟩ | ⟨f, -, -, -, -, rfl⟩⟩ := s.command_cases accepts ok body <;> rw [e]
  · exact h
  · exact h
  · exact hbody f (s.begun f) h

theorem broadcastCopy (code : Byte) {body : Frame → State → State} (hbody : ∀ f, (body f s).NoticesKept) :
    NextIs (s.broadcastCopy code body) State.NoticesKept := by
  obtain ⟨t, e, rfl | rfl | ⟨f, -, -, -, -, rfl⟩⟩ := s.broadcastCopy_cases code body <;> rw [e]
  · exact h
  · exact h
  · exact hbody f

theorem lookup : Follows State.NoticesKept .lookup (execLookup s) := by
  unfold execLookup
  split
  next f rest k i _ =>
    have htaken : ({ s with uPort := { s.uPort with buffer := rest } } : State).NoticesKept := h
    dsimp only
    split
    · exact htaken
    next gap _ =>
      split
      · exact (htaken.countGap k f.addr gap).same (State.startConversions_notices _)
      · exact ⟨rfl, rfl⟩
  next => exact h

theorem carrierLoss (p : Port) : NextIs (execCarrierLoss p s) State.NoticesKept := by
  unfold execCarrierLoss
  split
  · unfold State.leaveUp State.raiseLink
    exact raise (h.same (by simp)) ..
  · exact h.same (by simp)
  · exact h

theorem getStatusBody (f : Frame) : (getStatusBody f s).NoticesKept := by
  unfold Machine.getStatusBody
  split
  · split
    · dsimp only
      split
      · exact NoticeUnit.Kept.count h rfl false
      · exact h
    · exact h
  · exact h

theorem resetNodeBody (f : Frame) : (resetNodeBody f s).NoticesKept := by
  unfold Machine.resetNodeBody
  split
  · exact NoticeUnit.resetSoft_kept _
  · split
    · exact NoticeUnit.reset_kept _
    · exact h

theorem deleteCurveBody (f : Frame) : (deleteCurveBody f s).NoticesKept := by
  unfold Machine.deleteCurveBody
  split
  · exact h
  next c _ =>
    dsimp only
    split
    · exact h
    · exact h
    · exact h
    · split
      · exact h
      · exact h.deleteCurve c

theorem bindChannelsBody (f : Frame) : (bindChannelsBody f s).NoticesKept := by
  unfold Machine.bindChannelsBody
  dsimp only
  split
  · exact h
  · split
    · exact h
    · exact h.bindNow _

theorem applyBindBody (f : Frame) : (applyBindBody f s).NoticesKept := by
  unfold Machine.applyBindBody
  split
  · exact h
  next b _ =>
    split
    · exact h.applyPending b
    · exact h

theorem applyBindBroadcastBody (f : Frame) : (applyBindBroadcastBody f s).NoticesKept := by
  unfold Machine.applyBindBroadcastBody
  split
  next b _ =>
    split
    · exact h.applyPending b
    · exact h
  next => exact h

/-- An acknowledgement names an entry of the window. -/
theorem ackNoticesBody (f : Frame) : (ackNoticesBody f s).NoticesKept := by
  unfold Machine.ackNoticesBody
  split
  next seq _ =>
    split
    · exact h
    next n hn => exact NoticeUnit.Kept.ack h (NoticeUnit.acked_le hn) _
  next => exact h

theorem resumeNoticesBody (f : Frame) : (resumeNoticesBody f s).NoticesKept := NoticeUnit.Kept.resume h

/-! ### Takings -/

theorem takeFrom {x : Source} {f : Frame} {t : State} (ht : s.takeFrom x = some (f, t)) : t.NoticesKept := by
  cases x with
  | cq | fq | rq =>
    simp only [State.takeFrom] at ht
    split at ht <;> cases ht
    exact h
  | nu =>
    obtain ⟨⟨g, u⟩, hu, e⟩ := Option.map_eq_some_iff.1 ht
    cases e
    obtain ⟨hrun, before, e, after, hw, hsent, hq, -, rfl⟩ := State.takeNotice_eq_some hu
    exact NoticeUnit.Kept.transmit h hrun hw hsent hq _

theorem dPortTake {use : Frame → State → State} (huse : ∀ f t, (use f t).notices = t.notices) : (s.dPortTake use).NoticesKept := by
  unfold State.dPortTake
  split
  · exact h
  next x _ =>
    split
    · exact h
    next f taken ht =>
      have hused : ((use f taken).pointPast x).NoticesKept := (h.takeFrom ht).same (huse f taken)
      unfold State.fillPlace
      split
      · exact hused.enterCq
      · split
        · exact hused.same (by simp)
        · exact hused
      · exact hused.same (by simp)
      · exact hused

/-! ### Ticks -/

theorem tickRetry : s.tickRetry.NoticesKept := by
  unfold State.tickRetry
  split
  · exact NoticeUnit.Kept.expire h
  · split
    · exact NoticeUnit.Kept.count h Option.isSome_map s.notices.lost
    · exact h

end State.NoticesKept

/-! ### Periods -/

/-- Of the parts of an access period only a conversion end raises. -/
theorem State.noticesKept_keptByPeriods : KeptByPeriods State.NoticesKept where
  conversion _ u h := h.endConversion u
  readBack _ h := h.same (by simp)
  write _ h := h.same (by simp)
  grant _ h := h.same (by simp)

theorem State.NoticesKept.tick {s : State} (h : s.NoticesKept) : s.tick.NoticesKept := by
  refine tickRetry (s := s.tickLease) ?_
  unfold State.tickLease
  split
  · exact (State.noticesKept_keptByPeriods.completeDefine h).countLease
  · exact h.countLease

/-! ### Every command, and every step -/

/-- Every command keeps the notice unit. -/
theorem State.NoticesKept.exec {s : State} (h : s.NoticesKept) (c : Instr) : Follows State.NoticesKept c (exec c s) := by
  have hrow (accepts : Frame → Bool) (ok : List Byte → Bool) {body : Frame → State → State}
      (hbody : ∀ f t, t.NoticesKept → (body f t).NoticesKept) :
      Follows State.NoticesKept c (s.command accepts ok body) := follows_of_nextIs (h.command accepts ok hbody)
  have hquiet (accepts : Frame → Bool) (ok : List Byte → Bool) {body : Frame → State → State} (hbody : ∀ f t, (body f t).notices = t.notices) :
      Follows State.NoticesKept c (s.command accepts ok body) := hrow accepts ok fun f t ht => ht.same (hbody f t)
  have hleased (accepts : Frame → Bool) (ok : List Byte → Bool) (renews : Bool) {go : Frame → State → State}
      (hgo : ∀ f t, (go f t).notices = t.notices) :
      Follows State.NoticesKept c (s.command accepts ok fun f t => t.leaseCheck f renews (go f)) :=
    hquiet accepts ok fun f t => leaseCheck_notices f t renews (hgo f)
  cases c with
  | conversionEnd | pageWriteCompletion | defineCurveCheckDone | readKnotsDone | leaseExpiry | noticeRetryExpiry | millisecondTick =>
    exact follows_of_nextIs (State.noticesKept_keptByPeriods.exec h h.tick rfl)
  | resetnRelease => exact NoticeUnit.reset_kept .power
  | carrierDetect p => exact follows_of_nextIs (nextIs_ite (fun _ => h.same (by simp)) fun _ => h)
  | alignmentAchieved p => exact follows_of_nextIs (nextIs_ite (fun _ => raise (h.same (by simp)) ..) fun _ => h)
  | carrierLoss p => exact follows_of_nextIs (h.carrierLoss p)
  | frameArrival p run => exact follows_of_nextIs (nextIs_ite (fun _ => h.same (by simp)) fun _ => h)
  | frameSent p => exact h.same (State.setPort_notices ..)
  | dataClassifierTake => exact h.same (State.classifyData_notices s)
  | lookup => exact h.lookup
  | cqEntry => exact h.enterCq
  | fenceApply => exact h.same (State.settleFence_notices s)
  | commandClassifierTake => exact h.same (State.classifyCommand_notices s)
  | unknownCommand => exact hquiet _ _ fun _ _ => rfl
  | ping => exact hquiet _ _ fun _ _ => rfl
  | getStatus => exact hrow _ _ fun f _ ht => ht.getStatusBody f
  | setParam => exact hquiet _ _ setParamBody_notices
  | resetNodeSoft => exact hrow _ _ fun f _ ht => ht.resetNodeBody f
  | resetNodeFull => exact hrow _ _ fun f _ ht => ht.resetNodeBody f
  | mapChannel => exact hquiet _ _ mapChannelBody_notices
  | setChannel => exact hquiet _ _ setChannelBody_notices
  | getChannel => exact hquiet _ _ getChannelBody_notices
  | openLease => exact hquiet _ _ openLeaseBody_notices
  | stageKnots => exact hleased _ _ _ stageKnotsChecked_notices
  | clearStaging => exact hleased _ _ _ clearStagingChecked_notices
  | readStaging => exact hleased _ _ _ readStagingChecked_notices
  | writePage => exact hleased _ _ _ writePageChecked_notices
  | defineCurve => exact hleased _ _ _ defineCurveChecked_notices
  | closeLease => exact hleased _ _ _ closeLeaseChecked_notices
  | getCurve => exact hquiet _ _ getCurveBody_notices
  | readKnots => exact hquiet _ _ readKnotsBody_notices
  | deleteCurve => exact hrow _ _ fun f _ ht => ht.deleteCurveBody f
  | bindChannels => exact hrow _ _ fun f _ ht => ht.bindChannelsBody f
  | prepareBind => exact hquiet _ _ prepareBindBody_notices
  | applyBind => exact hrow _ _ fun f _ ht => ht.applyBindBody f
  | applyBindBroadcast => exact follows_of_nextIs (h.broadcastCopy _ h.applyBindBroadcastBody)
  | cancelBind => exact hquiet _ _ cancelBindBody_notices
  | cancelBindBroadcast => exact follows_of_nextIs (h.broadcastCopy _ fun f => h.same (cancelBindBroadcastBody_notices f s))
  | ackNotices => exact hrow _ _ fun f _ ht => ht.ackNoticesBody f
  | resumeNotices => exact hrow _ _ fun f _ ht => ht.resumeNoticesBody f
  | readCounters => exact hquiet _ _ readCountersBody_notices
  | dPortTaking => exact follows_of_nextIs (nextIs_ite (fun _ => h.dPortTake fun _ _ => rfl) fun _ => h)
  | dPortDiscardTaking => exact follows_of_nextIs (nextIs_ite (fun _ => h) fun _ => h.dPortTake fun _ _ => rfl)
  | upQueueTake =>
    show Follows _ _ (execUpQueueTake s)
    unfold execUpQueueTake
    split
    · exact follows_of_nextIs (nextIs_ite (fun _ => h) fun _ => h)
    · exact h
  | upQueueDiscard =>
    show Follows _ _ (execUpQueueDiscard s)
    unfold execUpQueueDiscard
    split
    · exact follows_of_nextIs (nextIs_ite (fun _ => h) fun _ => h)
    · exact h
  | postedResponsePlaced => exact h.same (State.placePosted_notices s)

/-- Settles O56: a step is one access period, or the front command on the part with the rest of the commands waiting; each keeps the notice unit. -/
theorem stepKeepsNotices : Obligations.StepKeepsNotices := by
  intro s t h hstep
  unfold step at hstep
  split at hstep
  · cases hstep
    exact State.noticesKept_keptByPeriods.accessPeriod h
  next c rest _ =>
    have hexec := State.NoticesKept.exec (s := { s with pending := rest }) h c
    rw [hstep] at hexec
    exact hexec

end Sys2Proof.Machine
end

section
/-! Raises, the notice commands, and the notice unit's transmissions and timer: O48, O49, O50. -/

namespace Sys2Proof.Machine

/-! ### The rows of a raise (08 Table 8-4) -/

theorem Notice.matches_iff (a b : Notice) : a.matches b = true ↔ b.kind = a.kind ∧ b.subject = a.subject := by
  rw [Notice.matches, Bool.and_eq_true, beq_iff_eq, beq_iff_eq, eq_comm, eq_comm (a := a.subject)]

section
variable {u : NoticeUnit} {mask : Half} {n : Notice}

theorem NoticeUnit.raiseOutcome_masked (h : ¬ mask.getLsbD n.kind.maskBit = true) : u.raiseOutcome mask n = .masked := if_neg h

theorem NoticeUnit.raiseOutcome_entered (h : mask.getLsbD n.kind.maskBit = true) (hroom : u.window.length < Config.windowSize) :
    u.raiseOutcome mask n = .entered := by
  rw [NoticeUnit.raiseOutcome, if_pos h, if_pos hroom]

theorem NoticeUnit.raiseOutcome_full (h : mask.getLsbD n.kind.maskBit = true) (hfull : Config.windowSize ≤ u.window.length) :
    u.raiseOutcome mask n = if u.held.any n.matches then .merged else if u.held.length < Config.heldSize then .held else .lost := by
  rw [NoticeUnit.raiseOutcome, if_pos h, if_neg (Nat.not_lt.2 hfull)]

end

/-- A raise by its outcome: what the unit makes of it, and what is counted. -/
theorem State.raise_of_outcome {s : State} {kind : NoticeKind} {subject : Byte} {fields : List Byte} {o : RaiseOutcome}
    (h : s.notices.raiseOutcome s.mgmt.params.noticeMask ⟨kind, subject, fields, 1⟩ = o) :
    s.raise kind subject fields =
      let u := s.notices
      match o with
      | .masked => s
      | .entered => { s with notices := u.enter ⟨kind, subject, fields, 1⟩ }
      | .merged =>
        ({ s with notices := { u with held := u.held.map fun h =>
          if (⟨kind, subject, fields, 1⟩ : Notice).matches h then (⟨kind, subject, fields, 1⟩ : Notice).merge h else h } } : State).countNode fun c =>
            { c with noticeCoalesced := c.noticeCoalesced + 1 }
      | .held => { s with notices := { u with held := u.held ++ [⟨kind, subject, fields, 1⟩] } }
      | .lost => ({ s with notices := { u with lost := true } } : State).countNode fun c => { c with noticesLost := c.noticesLost + 1 } := by
  simp only [State.raise, NoticeUnit.raise, h]
  cases o <;> rfl

/-- The merged list, entry by entry (08 R154). -/
theorem getElem?_map_merge {l : List Notice} {i : Nat} {h : Notice} (n : Notice) (hi : l[i]? = some h) :
    (l.map fun x => if n.matches x then n.merge x else x)[i]? =
      some (if h.kind = n.kind ∧ h.subject = n.subject then ⟨n.kind, n.subject, n.fields, min (h.coalesce + 1) 255⟩ else h) := by
  rw [List.getElem?_map, hi, Option.map_some]
  by_cases hm : h.kind = n.kind ∧ h.subject = n.subject
  · rw [if_pos ((n.matches_iff h).2 hm), if_pos hm, ← hm.1, ← hm.2]
    rfl
  · rw [if_neg ((n.matches_iff h).not.2 hm), if_neg hm]

/-- Settles O48: the outcome in each row, and what a raise with that outcome leaves. -/
theorem raiseTable : Obligations.RaiseTable := by
  refine ⟨rfl, fun s kind subject fields => ?_⟩
  intro u same enabled result
  have hsame (h : Notice) : Notice.matches ⟨kind, subject, fields, 1⟩ h = true ↔ same h := Notice.matches_iff _ h
  refine ⟨fun hmask => ?_, fun hmask hroom => ?_, fun hmask hfull => ?_⟩
  · exact State.raise_of_outcome (NoticeUnit.raiseOutcome_masked hmask)
  · exact State.raise_of_outcome (NoticeUnit.raiseOutcome_entered hmask hroom)
  have hout := NoticeUnit.raiseOutcome_full (u := u) (n := ⟨kind, subject, fields, 1⟩) hmask hfull
  refine ⟨fun ⟨h, hh, hs⟩ => ?_, fun hnone => ?_⟩
  · rw [if_pos (List.any_eq_true.2 ⟨h, hh, (hsame h).2 hs⟩)] at hout
    refine ⟨_, State.raise_of_outcome hout, List.length_map .., fun i x hx => ?_⟩
    rw [getElem?_map_merge _ hx]
    exact ⟨fun hs => congrArg some (if_pos hs), fun hs => congrArg some (if_neg hs)⟩
  · rw [if_neg fun hany => by
      obtain ⟨h, hh, hm⟩ := List.any_eq_true.1 hany
      exact hnone h hh ((hsame h).1 hm)] at hout
    refine ⟨fun hroom => ?_, fun hheld => ?_⟩
    · exact State.raise_of_outcome (hout.trans (if_pos hroom))
    · exact State.raise_of_outcome (hout.trans (if_neg (Nat.not_lt.2 hheld)))

/-! ### ACK_NOTICES (08 R163, R164) -/

theorem NoticeUnit.acked_eq_none {u : NoticeUnit} {q : Byte} (h : ∀ e ∈ u.window, e.seq ≠ q) : u.acked q = none := by
  have hnone : u.window.findIdx? (fun e => e.seq == q) = none := List.findIdx?_eq_none_iff.2 fun e he => beq_false_of_ne (h e he)
  rw [NoticeUnit.acked, hnone]
  rfl

/-- The entry with the sequence, and all before it, are acknowledged. -/
theorem NoticeUnit.acked_eq_some {u : NoticeUnit} {q : Byte} {before rest : List WindowEntry} {e : WindowEntry} (hw : u.window = before ++ e :: rest)
    (he : e.seq = q) (hbefore : ∀ x ∈ before, x.seq ≠ q) : u.acked q = some (before.length + 1) := by
  have hnone : before.findIdx? (fun e => e.seq == q) = none := List.findIdx?_eq_none_iff.2 fun x hx => beq_false_of_ne (hbefore x hx)
  simp [NoticeUnit.acked, hw, List.findIdx?_append, hnone, List.findIdx?_cons, he]

theorem WindowEntry.renew_eq : WindowEntry.renew = fun x => ⟨x.notice, x.seq, false, 0⟩ := rfl

/-- What an acknowledgement leaves, given the entries that stay. -/
theorem NoticeUnit.ack_eq {u : NoticeUnit} {n : Nat} {rest : List WindowEntry} (hrest : u.window.drop n = rest) (retry : Nat) :
    u.ack n retry =
      ⟨.running,
       (if u.state = .stalled then rest.map fun x => ⟨x.notice, x.seq, false, 0⟩ else rest) ++
         (u.held.take n).mapIdx fun i x => ⟨x, u.nextSeq + BitVec.ofNat 8 i, false, 0⟩,
       u.held.drop n, u.nextSeq + BitVec.ofNat 8 (u.held.take n).length,
       if u.state = .running ∧ ∃ x ∈ rest, x.sent = true then some ⟨retry, 0⟩ else none, u.lost⟩ := by
  subst hrest
  unfold NoticeUnit.ack
  rw [NoticeUnit.promote_eq]
  cases hs : u.state with
  | stalled => simp [WindowEntry.renew_eq]
  | running => simp [List.any_eq_true]

/-! ### RESUME_NOTICES (08 R165) -/

/-- A stalled unit recovers, every entry QUEUED afresh. -/
theorem NoticeUnit.resume_of_stalled {u : NoticeUnit} (h : u.state = .stalled) :
    u.resume = { u with state := .running, window := u.window.map fun x => ⟨x.notice, x.seq, false, 0⟩, timer := none } ∧
      u.requeued = u.window.countP WindowEntry.sent := by
  rw [NoticeUnit.resume, NoticeUnit.requeued, h]
  exact ⟨rfl, rfl⟩

theorem NoticeUnit.resume_of_running {u : NoticeUnit} (h : u.state = .running) : u.resume = u ∧ u.requeued = 0 := by
  rw [NoticeUnit.resume, NoticeUnit.requeued, h]
  exact ⟨rfl, rfl⟩

/-- Settles O49: which entries are acknowledged, and what the unit is after each command. -/
theorem noticeCommands : Obligations.NoticeCommands := by
  intro s f h u answered
  refine ⟨fun q hc hp => ?_, fun hc hp => ?_⟩
  · have htaken : exec .ackNotices s = .next (ackNoticesBody f (s.begun f)) :=
      State.command_taken h (beq_iff_eq.2 hc) (by rw [hp]; rfl)
    rw [htaken, ackNoticesBody, hp]
    refine ⟨fun hnone => ?_, fun before e rest hw he hbefore => ?_⟩
    · dsimp only
      rw [State.begun_notices, NoticeUnit.acked_eq_none hnone]
      rfl
    · have hrest : u.window.drop (before.length + 1) = rest := by rw [hw]; simp
      dsimp only
      rw [State.begun_notices, NoticeUnit.acked_eq_some hw he hbefore]
      dsimp only
      rw [NoticeUnit.ack_eq hrest]
      rfl
  · have htaken : exec .resumeNotices s = .next (resumeNoticesBody f (s.begun f)) :=
      State.command_taken h (beq_iff_eq.2 hc) (by rw [hp]; rfl)
    rw [htaken, resumeNoticesBody, State.begun_notices]
    refine ⟨fun hs => ?_, fun hs => ?_⟩
    · obtain ⟨hresume, hcount⟩ := NoticeUnit.resume_of_stalled hs
      rw [hresume, hcount, hs]
      rfl
    · obtain ⟨hresume, hcount⟩ := NoticeUnit.resume_of_running hs
      rw [hresume, hcount, hs]
      rfl

/-! ### The notice given (08 R158, R159) -/

section
variable {s : State}

/-- The oldest QUEUED entry is given. -/
theorem State.takeNotice_of_offers {before after : List WindowEntry} {e : WindowEntry} (h : s.offers = true)
    (hw : s.notices.window = before ++ e :: after) (hbefore : ∀ x ∈ before, x.sent = true) (he : e.sent = false) :
    s.takeNotice = some (noticeFrame s.mgmt.address e,
      { s.notices with
        window := before ++ e.transmit :: after
        timer := some (s.notices.timer.getD ⟨s.mgmt.params.noticeRetry.toNat, 0⟩) }) := by
  rw [State.takeNotice, if_pos h, hw, firstQueued_append after hbefore he]
  rfl

theorem State.takeNotice_of_not_offers (h : ¬ s.offers = true) : s.takeNotice = none := if_neg h

/-! ### The retry timer (08 R161, R162) -/

theorem State.retryDue_of_stopped (h : s.notices.timer = none) : s.retryDue = false := by
  simp [State.retryDue, h]

theorem State.retryDue_of_not_flow (h : s.noticesFlow = false) : s.retryDue = false := by
  simp [State.retryDue, h]

theorem State.retryDue_iff {r : RetryTimer} (h : s.notices.timer = some r) (hf : s.noticesFlow = true) :
    s.retryDue = true ↔ r.duration ≤ r.count + 1 := by
  simp [State.retryDue, h, hf]

/-- A stopped timer does not count, nor does one while the unit may not transmit. -/
theorem State.tickRetry_of_still (h : s.notices.timer = none ∨ s.noticesFlow = false) : s.retryDue = false ∧ s.tickRetry = s := by
  obtain ht | hf := h
  · refine ⟨State.retryDue_of_stopped ht, ?_⟩
    rw [State.tickRetry, State.retryDue_of_stopped ht, ht, Option.map_none, ← ht]
    exact ite_self _
  · refine ⟨State.retryDue_of_not_flow hf, ?_⟩
    rw [State.tickRetry, State.retryDue_of_not_flow hf, hf]
    rfl

theorem State.tickRetry_counts {r : RetryTimer} (h : s.notices.timer = some r) (hf : s.noticesFlow = true) (hd : s.retryDue = false) :
    s.tickRetry = { s with notices := { s.notices with timer := some ⟨r.duration, r.count + 1⟩ } } := by
  rw [State.tickRetry, hd, hf, h]
  rfl

theorem State.tickRetry_expires (h : s.retryDue = true) : s.tickRetry = { s with notices := s.notices.expire } := if_pos h

section
variable {u : NoticeUnit} {e : WindowEntry} {rest : List WindowEntry} (h : u.window = e :: rest)
include h

/-- The go-back, while the head has transmissions left. -/
theorem NoticeUnit.expire_of_left (hleft : e.transmissions < Config.maxTransmissions) :
    u.expire = { u with window := u.window.map fun x => ⟨x.notice, x.seq, false, x.transmissions⟩, timer := none } := by
  rw [NoticeUnit.expire, h]
  exact if_pos hleft

/-- The stall, after the head's last transmission. -/
theorem NoticeUnit.expire_of_spent (hspent : Config.maxTransmissions ≤ e.transmissions) : u.expire = { u with state := .stalled, timer := none } := by
  rw [NoticeUnit.expire, h]
  exact if_neg (Nat.not_lt.2 hspent)

end

theorem execNoticeRetryExpiry_of_not_due (h : s.retryDue = false) : exec .noticeRetryExpiry s = .next s := if_neg (by simp [h])

theorem execNoticeRetryExpiry_of_due (h : s.retryDue = true) : exec .noticeRetryExpiry s = exec .millisecondTick s := if_pos h

end

/-- Settles O50: when a notice is given, and what a tick comes to by the timer and its count. -/
theorem noticeTimer : Obligations.NoticeTimer := by
  intro s u flows
  have hflows : s.noticesFlow = true ↔ flows := s.noticesFlow_iff
  refine ⟨fun before e rest hf hrun hw hbefore he => ?_, fun hidle => ?_, fun hstill => ?_, fun r hr hf => ⟨fun hcount => ?_, fun hdue => ?_⟩, rfl⟩
  · have hqueued : ∃ x ∈ u.window, x.sent = false := ⟨e, by simp [hw], he⟩
    rw [State.takeNotice_of_offers (State.offers_iff.2 ⟨hrun, hf, hqueued⟩) hw hbefore he]
    rfl
  · refine State.takeNotice_of_not_offers fun hoffers => ?_
    obtain ⟨hrun, hf, x, hx, hq⟩ := State.offers_iff.1 hoffers
    obtain hnot | hstalled | hsent := hidle
    · exact hnot hf
    · rw [hrun] at hstalled
      cases hstalled
    · rw [hsent x hx] at hq
      cases hq
  · obtain ⟨hdue, htick⟩ := State.tickRetry_of_still (hstill.imp_right fun hf => Bool.eq_false_iff.2 (hflows.not.2 hf))
    exact ⟨htick, execNoticeRetryExpiry_of_not_due hdue⟩
  · have hdue : s.retryDue = false := by
      rw [← Bool.not_eq_true, State.retryDue_iff hr (hflows.2 hf)]
      omega
    exact ⟨State.tickRetry_counts hr (hflows.2 hf) hdue, execNoticeRetryExpiry_of_not_due hdue⟩
  · have hretry : s.retryDue = true := (State.retryDue_iff hr (hflows.2 hf)).2 hdue
    refine ⟨execNoticeRetryExpiry_of_due hretry, fun e rest hw => ?_⟩
    rw [State.tickRetry_expires hretry]
    exact ⟨fun hleft => by rw [NoticeUnit.expire_of_left hw hleft], fun hspent => by rw [NoticeUnit.expire_of_spent hw hspent]⟩

end Sys2Proof.Machine
end

section
/-! The D-port takings, the up queue and the held responses: O52, O53. -/

namespace Sys2Proof.Machine

/-! ### The order of the sources (09 R173) -/

theorem Source.next_eq_sourceAfter (x : Source) : x.next = sourceAfter x := by cases x <;> rfl

theorem Source.order_eq_sourceOrder (p : Source) : p.order = sourceOrder p := by cases p <;> rfl

@[simp] theorem sourceOrder_length (p : Source) : (sourceOrder p).length = 4 := by cases p <;> rfl

theorem mem_sourceOrder (p x : Source) : x ∈ sourceOrder p := by cases p <;> cases x <;> decide

theorem sourceOrder_eq_cons (p : Source) : sourceOrder p = p :: (sourceOrder p).tail := by cases p <;> rfl

theorem sourceOrder_sourceAfter (p : Source) : sourceOrder (sourceAfter p) = (sourceOrder p).tail ++ [p] := by cases p <;> rfl

/-- The pointer past a source puts those considered after it first, and that source last. -/
theorem sourceOrder_past {p y : Source} {before after : List Source} (h : sourceOrder p = before ++ y :: after) :
    sourceOrder (sourceAfter y) = after ++ before ++ [y] := by
  induction before generalizing p after with
  | nil =>
    rw [sourceOrder_eq_cons, List.nil_append, List.cons.injEq] at h
    obtain ⟨rfl, htail⟩ := h
    rw [sourceOrder_sourceAfter, htail, List.append_nil]
  | cons q before ih =>
    rw [sourceOrder_eq_cons, List.cons_append, List.cons.injEq] at h
    obtain ⟨rfl, htail⟩ := h
    have hnext : sourceOrder (sourceAfter p) = before ++ y :: (after ++ [p]) := by rw [sourceOrder_sourceAfter, htail]; simp
    rw [ih hnext]
    simp

/-! ### Every source is served (09 R173) -/

/-- How many sources are considered before `x` (09 Table 9-2). -/
def sourcesBefore (p x : Source) : Nat := (sourceOrder p).idxOf x

theorem sourcesBefore_lt (p x : Source) : sourcesBefore p x < 4 := by
  rw [← sourceOrder_length p]
  exact List.idxOf_lt_length_of_mem (mem_sourceOrder p x)

/-- At a taking a source with a frame to give is served, or fewer are considered before it at the next. -/
theorem served_or_sourcesBefore_lt {p x : Source} {gives : Source → Bool} (hx : gives x = true) :
    ∃ y, (sourceOrder p).find? gives = some y ∧ (y = x ∨ sourcesBefore (sourceAfter y) x < sourcesBefore p x) := by
  obtain ⟨y, hy⟩ := Option.isSome_iff_exists.1 (List.find?_isSome.2 ⟨x, mem_sourceOrder p x, hx⟩)
  refine ⟨y, hy, or_iff_not_imp_left.2 fun hne => ?_⟩
  obtain ⟨-, before, after, hsplit, hnone⟩ := List.find?_eq_some_iff_append.1 hy
  have hbefore : x ∉ before := fun h => by simpa [hx] using hnone x h
  have hafter : x ∈ after := by
    have hmem := mem_sourceOrder p x
    rw [hsplit, List.mem_append, List.mem_cons] at hmem
    exact (hmem.resolve_left hbefore).resolve_left (Ne.symm hne)
  rw [sourcesBefore, sourcesBefore, sourceOrder_past hsplit, hsplit, List.append_assoc, List.idxOf_append_of_mem hafter,
    List.idxOf_append_of_notMem hbefore, List.idxOf_cons_ne _ hne]
  omega

theorem pointerAt_succ {p y : Source} {gives : Nat → Source → Bool} {n : Nat}
    (h : (sourceOrder (pointerAt p gives n)).find? (gives n) = some y) : pointerAt p gives (n + 1) = sourceAfter y := by
  rw [pointerAt, h]
  rfl

/-- A source with a frame to give is served once each source considered before it has had its turn. -/
theorem exists_taking {p x : Source} {gives : Nat → Source → Bool} {N : Nat} (n : Nat) (hlt : sourcesBefore (pointerAt p gives n) x < N)
    (hx : ∀ i, i < N → gives (n + i) x = true) :
    ∃ i, i < N ∧ (sourceOrder (pointerAt p gives (n + i))).find? (gives (n + i)) = some x := by
  induction N generalizing n with
  | zero => exact absurd hlt (Nat.not_lt_zero _)
  | succ N ih =>
    obtain ⟨y, hy, rfl | hnearer⟩ := served_or_sourcesBefore_lt (p := pointerAt p gives n) (hx 0 (Nat.succ_pos N))
    · exact ⟨0, Nat.succ_pos N, hy⟩
    · rw [← pointerAt_succ (n := n) hy] at hnearer
      obtain ⟨i, hi, hserved⟩ := ih (n + 1) (by omega) fun i hi => by
        rw [Nat.add_right_comm, Nat.add_assoc]
        exact hx (i + 1) (by omega)
      exact ⟨i + 1, by omega, by rwa [Nat.add_right_comm, Nat.add_assoc] at hserved⟩

/-! ### What the sources give (09 R173, 08 R158) -/

theorem firstQueued_isSome_iff (l : List WindowEntry) : (firstQueued l).isSome = true ↔ ∃ e ∈ l, e.sent = false := by
  induction l with
  | nil => simp [firstQueued]
  | cons e rest ih => cases he : e.sent <;> simp [firstQueued, he, ih]

section
variable {s : State}

/-- The notice unit offers a notice exactly when it has one to give. -/
theorem State.offers_iff_takeNotice : s.offers = true ↔ s.takeNotice.isSome = true := by
  by_cases h : s.offers = true
  · obtain ⟨-, -, hqueued⟩ := State.offers_iff.1 h
    simpa [State.takeNotice, h] using (firstQueued_isSome_iff _).2 hqueued
  · simp [State.takeNotice_of_not_offers h, h]

theorem State.takeFrom_cq {e : CqEntry} {rest : List CqEntry} (h : s.merger.cq = e :: rest) :
    s.takeFrom .cq = some (e.frame, { s with merger := { s.merger with cq := rest } }) := by
  simp only [State.takeFrom, h]

theorem State.takeFrom_fq {f : Frame} {rest : List Frame} (h : s.merger.fq = f :: rest) :
    s.takeFrom .fq = some (f, { s with merger := { s.merger with fq := rest } }) := by
  simp only [State.takeFrom, h]

theorem State.takeFrom_rq {f : Frame} {rest : List Frame} (h : s.mgmt.responseQueue = f :: rest) :
    s.takeFrom .rq = some (f, { s with mgmt := { s.mgmt with responseQueue := rest } }) := by
  simp only [State.takeFrom, h]

theorem State.takeFrom_nu {f : Frame} {u : NoticeUnit} (h : s.takeNotice = some (f, u)) :
    s.takeFrom .nu = some (f, { s with notices := u }) := by
  rw [State.takeFrom, h]
  rfl

/-! ### The takings (09 R174, R177) -/

theorem State.dPortTake_of_none {use : Frame → State → State} (h : s.source = none) : s.dPortTake use = s := by
  rw [State.dPortTake, h]

theorem State.dPortTake_of_source {use : Frame → State → State} {x : Source} {f : Frame} {taken : State} (h : s.source = some x)
    (ht : s.takeFrom x = some (f, taken)) : s.dPortTake use = ((use f taken).pointPast x).fillPlace x s.passWaits := by
  simp only [State.dPortTake, h, ht]

/-- A taking gives the frame of the first source from the pointer that has one, passes that source and uses the place it makes. -/
theorem State.dPortTake_takingIs (s : State) (use : Frame → State → State) : takingIs s use (s.dPortTake use) := by
  have hsource : s.source = (sourceOrder s.merger.pointer).find? s.gives := by rw [State.source, Source.order_eq_sourceOrder]
  unfold takingIs
  intro past waited
  rw [← hsource]
  split
  next hx => exact State.dPortTake_of_none hx
  next hx => exact fun e rest hq => State.dPortTake_of_source hx (State.takeFrom_cq hq)
  next hx => exact fun f rest hq => State.dPortTake_of_source hx (State.takeFrom_fq hq)
  next hx => exact fun f rest hq => State.dPortTake_of_source hx (State.takeFrom_rq hq)
  next hx => exact fun f u hn => State.dPortTake_of_source hx (State.takeFrom_nu hn)

end

/-- Settles O52: a taking is made in its link state alone and is the one of Table 9-2; each taking that does not serve a source brings its turn nearer. -/
theorem dPortTakings : Obligations.DPortTakings := by
  refine ⟨fun s => ⟨⟨rfl, rfl, rfl, State.offers_iff_takeNotice⟩, fun hup hidle => ?_, fun h => if_neg h, fun hdown => ?_, fun hup => if_pos hup⟩,
    fun p gives n x hx => exists_taking n (sourcesBefore_lt _ x) hx⟩
  · exact ⟨s.dPortTake State.sendDown, if_pos ⟨hup, hidle⟩, s.dPortTake_takingIs _⟩
  · exact ⟨s.dPortTake State.discardDown, if_neg hdown, s.dPortTake_takingIs _⟩

/-! ### The up queue (09 R172) -/

section
variable {s : State}

theorem execUpQueueTake_cons {f : Frame} {rest : List Frame} (h : s.merger.uq = f :: rest) :
    exec .upQueueTake s =
      if s.uPort.link = .up ∧ s.uPort.tx = .idle then
        .next { s with merger := { s.merger with uq := rest }, uPort := { s.uPort with tx := .sending f.wire } }
      else .next s := by
  change execUpQueueTake s = _
  simp only [execUpQueueTake, h]

theorem execUpQueueDiscard_cons {f : Frame} {rest : List Frame} (h : s.merger.uq = f :: rest) :
    exec .upQueueDiscard s =
      if s.uPort.link = .up then .next s
      else .next (({ s with merger := { s.merger with uq := rest } } : State).countPort .uPort fun c => { c with outDiscard := c.outDiscard + 1 }) := by
  change execUpQueueDiscard s = _
  simp only [execUpQueueDiscard, h]

theorem execUpQueue_nil (h : s.merger.uq = []) : exec .upQueueTake s = .next s ∧ exec .upQueueDiscard s = .next s := by
  change execUpQueueTake s = _ ∧ execUpQueueDiscard s = _
  simp only [execUpQueueTake, execUpQueueDiscard, h, and_self]

/-! ### Held responses (07 R143, 05 R103) -/

theorem State.placePosted_of_none_held (h : s.mgmt.waiting = []) : s.placePosted = s := by
  simp only [State.placePosted, h]

theorem State.placePosted_of_full (h : Config.responseQueueSize ≤ s.mgmt.responseQueue.length) : s.placePosted = s := by
  unfold State.placePosted
  split
  · rfl
  · exact if_neg (Nat.not_lt.2 h)

/-- The response held first joins the response queue's tail, and the engine leaves its command or the loader is IDLE. -/
theorem State.placePosted_cons {holder : Holder} {r : Frame} {rest : List HeldResponse} (h : s.mgmt.waiting = ⟨holder, r⟩ :: rest)
    (hroom : s.mgmt.responseQueue.length < Config.responseQueueSize) :
    s.placePosted =
      let placed : Management := { s.mgmt with waiting := rest, responseQueue := s.mgmt.responseQueue ++ [r] }
      match holder with
      | .engine => { s with mgmt := placed.leave }
      | .loader => { s with mgmt := placed, loader := { s.loader with state := .idle, write := none } } := by
  simp only [State.placePosted, h, if_pos hroom]
  cases holder <;> rfl

end

/-- Settles O53: each row by the condition that lets it act, and what the first held response leaves once it is placed. -/
theorem queueCommands : Obligations.QueueCommands := by
  refine fun s => ⟨fun f rest hq => ?_, execUpQueue_nil, rfl, fun hstill => ?_, fun r rest hroom => ?_⟩
  · rw [execUpQueueTake_cons hq, execUpQueueDiscard_cons hq]
    exact ⟨fun hup hidle => if_pos ⟨hup, hidle⟩, fun hbusy => if_neg hbusy, fun hdown => if_neg hdown, fun hup => if_pos hup⟩
  · exact hstill.elim State.placePosted_of_none_held State.placePosted_of_full
  · exact ⟨fun hw => State.placePosted_cons hw hroom, fun hw => State.placePosted_cons hw hroom⟩

end Sys2Proof.Machine
end

section
/-! READ_COUNTERS: O51. -/

namespace Sys2Proof.Machine

/-! ### The scope a payload names (10 R186, checks 1 and 2) -/

theorem scopeOf_of_lt {scope : Byte} (context : Byte) (h : 3 < scope.toNat) : scopeOf scope context = .error 1 := by
  have hne (b : Byte) (hb : b.toNat ≤ 3) : scope ≠ b := by
    rintro rfl
    omega
  rw [scopeOf, if_neg (hne 0 (by decide)), if_neg (hne 1 (by decide)), if_neg (hne 2 (by decide)), if_neg (hne 3 (by decide))]

/-- Scope 3 names the context its second byte does, if any. -/
theorem scopeOf_three (context : Byte) : scopeOf 3 context = (contextOf context).elim (.error 2) fun k => .ok (.context k) := by
  unfold scopeOf
  cases contextOf context <;> rfl

theorem scopeOf_three_badContext {context : Byte} (h : 63 < context.toNat) : scopeOf 3 context = .error 2 := by
  rw [scopeOf_three, contextOf_of_le h]
  rfl

theorem scopeOf_three_context {context : Byte} {k : ContextId} (h : k.val = context.toNat) : scopeOf 3 context = .ok (.context k) := by
  rw [scopeOf_three, contextOf_val context h.symm]
  rfl

theorem Scope.bytes_context {context : Byte} {k : ContextId} (h : k.val = context.toNat) : (Scope.context k).bytes = [3, context] := by
  rw [Scope.bytes, h, byteOf_toNat]

/-! ### The clear (10 R188) -/

theorem Counters.read_clear_self (c : Counters) (x : Scope) : (c.clear x).read x = (c.read x).map fun _ => 0 := by
  match x with
  | .port .uPort | .port .dPort | .node => rfl
  | .context k => exact congrArg ContextCounters.list (vmod_self c.contexts k _)

/-- The scopes share no counter. -/
theorem Counters.read_clear_of_ne (c : Counters) {x y : Scope} (h : x ≠ y) : (c.clear x).read y = c.read y := by
  match x, y with
  | .port .uPort, .port .uPort | .port .dPort, .port .dPort | .node, .node => exact absurd rfl h
  | .port .uPort, .port .dPort | .port .dPort, .port .uPort => rfl
  | .port .uPort, .node | .port .dPort, .node | .node, .port .uPort | .node, .port .dPort => rfl
  | .port .uPort, .context _ | .port .dPort, .context _ | .node, .context _ => rfl
  | .context _, .port .uPort | .context _, .port .dPort | .context _, .node => rfl
  | .context _, .context _ => exact congrArg ContextCounters.list (vmod_other _ _ fun e => h (congrArg Scope.context e))

/-! ### READ_COUNTERS's checks and answer (10 R186, R187) -/

section
variable {f : Frame} {scope context flags : Byte} (hp : f.payload = [scope, context, flags])
include hp

theorem readCountersBody_badScope (s : State) {reason : Byte} (hx : scopeOf scope context = .error reason) :
    readCountersBody f s = s.respond f .badArg [reason] := by
  simp only [readCountersBody, hp, hx]

section
variable (s : State) {x : Scope} (hx : scopeOf scope context = .ok x)
include hx

theorem readCountersBody_badFlags (h : 1 < flags.toNat) : readCountersBody f s = s.respond f .badArg [3] := by
  simp only [readCountersBody, hp, hx, if_pos h]

theorem readCountersBody_report (h : flags = 0) : readCountersBody f s = s.respond f .ok (s.counters.report x false) := by
  subst h
  simp only [readCountersBody, hp, hx]
  rfl

/-- The snapshot is of the counters before the clear. -/
theorem readCountersBody_reportClears (h : flags = 1) :
    readCountersBody f s = ({ s with counters := s.counters.clear x } : State).respond f .ok (s.counters.report x true) := by
  subst h
  simp only [readCountersBody, hp, hx]
  rfl

end

variable {s : State} (h : s.Takes f) (hc : f.code = codeReadCounters)
include h hc

theorem execReadCounters_taken : exec .readCounters s = .next (readCountersBody f (s.begun f)) :=
  State.command_taken h (beq_iff_eq.2 hc) (by rw [hp]; rfl)

theorem execReadCounters_badScope {reason : Byte} (hx : scopeOf scope context = .error reason) :
    exec .readCounters s = .next (s.answered f .badArg [reason]) :=
  (execReadCounters_taken hp h hc).trans (congrArg _ (readCountersBody_badScope hp _ hx))

/-- The check of the flags for a scope that exists, then its counters answered and kept, or answered and cleared. -/
theorem execReadCounters_scope {x : Scope} {id : Byte} {values : List Count} (hx : scopeOf scope context = .ok x)
    (hid : x.bytes = [scope, id]) (hvalues : s.counters.read x = values) :
    (1 < flags.toNat → exec .readCounters s = .next (s.answered f .badArg [3])) ∧
    (flags = 0 → exec .readCounters s = .next (s.answered f .ok ([scope, id, 0] ++ values.flatMap wordBytes))) ∧
    (flags = 1 → exec .readCounters s = .next
      ({ s with counters := s.counters.clear x }.answered f .ok ([scope, id, 1] ++ values.flatMap wordBytes))) := by
  have hreport (clear : Bool) : (s.begun f).counters.report x clear = [scope, id, flagByte clear] ++ values.flatMap wordBytes := by
    rw [State.begun_counters, Counters.report, hid, hvalues]
    rfl
  rw [execReadCounters_taken hp h hc]
  refine ⟨fun hflags => ?_, fun hflags => ?_, fun hflags => ?_⟩
  · exact congrArg _ (readCountersBody_badFlags hp _ hx hflags)
  · rw [readCountersBody_report hp _ hx hflags, hreport]
    rfl
  · rw [readCountersBody_reportClears hp _ hx hflags, hreport]
    rfl

end

/-- Settles O51: the scope decides the refusal or the counters answered; each scope is cleared alone. -/
theorem readCountersResult : Obligations.ReadCountersResult := by
  refine ⟨fun s f scope context flags h hc hp => ?_, fun c x y => ?_⟩
  · refine ⟨fun hbad => ?_, ?_, ?_, ?_, ?_⟩
    · exact execReadCounters_badScope hp h hc (scopeOf_of_lt context hbad)
    · rintro rfl
      exact execReadCounters_scope hp h hc (x := .port .uPort) rfl rfl rfl
    · rintro rfl
      exact execReadCounters_scope hp h hc (x := .port .dPort) rfl rfl rfl
    · rintro rfl
      exact execReadCounters_scope hp h hc (x := .node) rfl rfl rfl
    · rintro rfl
      refine ⟨fun hbad => ?_, fun k hk => ?_⟩
      · exact execReadCounters_badScope hp h hc (scopeOf_three_badContext hbad)
      · exact execReadCounters_scope hp h hc (scopeOf_three_context hk) (Scope.bytes_context hk) rfl
  · by_cases hxy : x = y
    · subst hxy
      rw [if_pos rfl, Counters.read_clear_self]
    · rw [if_neg hxy, Counters.read_clear_of_ne c hxy]

end Sys2Proof.Machine
end

section
/-! Which blocks an event writes, said once for each event: O3. -/

namespace Sys2Proof.Machine

/-! ### Writing only the blocks of a list (00 Table 1) -/

/-- From `s` to `t` the part has changed nothing outside the blocks listed. -/
structure State.WritesOnly (l : List Block) (s t : State) : Prop where
  agrees : ∀ b, b ∉ l → s.agrees t b

/-- Block by block: those that are not listed are as they were. -/
theorem State.writesOnly_iff {l : List Block} {s t : State} :
    s.WritesOnly l t ↔
      (.uPort ∉ l → t.uPort = s.uPort) ∧ (.dPort ∉ l → t.dPort = s.dPort) ∧ (.table ∉ l → t.table = s.table) ∧
      (.store ∉ l → t.store = s.store) ∧ (.conditioner ∉ l → t.conditioner = s.conditioner) ∧
      (.loader ∉ l → t.loader = s.loader) ∧ (.bind ∉ l → t.bind = s.bind) ∧ (.mgmt ∉ l → t.mgmt = s.mgmt) ∧
      (.notices ∉ l → t.notices = s.notices) ∧ (.merger ∉ l → t.merger = s.merger) ∧
      (.counters ∉ l → t.counters = s.counters) := by
  refine ⟨fun ⟨h⟩ => ⟨h _, h _, h _, h _, h _, h _, h _, h _, h _, h _, h _⟩, ?_⟩
  rintro ⟨_, _, _, _, _, _, _, _, _, _, _⟩
  refine ⟨fun b => ?_⟩
  cases b <;> assumption

/-- The blocks that the events of an access period, and those of a tick, may write (log 7, 9). -/
def periodBlocks : List Block := [.table, .store, .conditioner, .loader, .mgmt, .notices, .merger, .counters]

/-- A frame dropped by the change to DROP goes to no queue (01 R18, log 21). -/
theorem State.writeParam_merger (s : State) (p : ParamId) (v : Half) : (s.writeParam p v).merger = s.merger := by
  unfold State.writeParam
  dsimp only
  split
  next hc =>
    obtain ⟨hw, hd⟩ := Bool.and_eq_true_iff.1 hc
    obtain ⟨-, -, g, hg, hk, hl⟩ := s.unmappedWaits_iff.1 hw
    obtain ⟨rest, hbuf⟩ := List.head?_eq_some_iff.1 hg
    have hdropped := State.classifyData_withParams_drop (q := s.mgmt.params.set p v) (beq_iff_eq.1 hd) hbuf hk hl
    exact (congrArg State.merger hdropped).trans rfl
  next => rfl

namespace State.WritesOnly

theorem mono {l m : List Block} {s t : State} (h : s.WritesOnly l t) (hlm : l ⊆ m := by decide) : s.WritesOnly m t :=
  ⟨fun b hb => h.agrees b fun hl => hb (hlm hl)⟩

theorem refl {l : List Block} (s : State) : s.WritesOnly l s := by simp [State.writesOnly_iff]

theorem trans {l : List Block} {s t u : State} (h : s.WritesOnly l t) (h' : t.WritesOnly l u) : s.WritesOnly l u := by
  refine ⟨fun b hb => ?_⟩
  have ht := h.agrees b hb
  have hu := h'.agrees b hb
  cases b <;> exact Eq.trans hu ht

/-- Every event writes only what there is. -/
theorem all (s t : State) : s.WritesOnly allBlocks t := ⟨fun b hb => absurd (by cases b <;> decide) hb⟩

variable (s : State)

/-! ### Ports -/

theorem setPort (p : Port) (x : LinkPort) : s.WritesOnly [portBlock p] (s.setPort p x) := by
  cases p <;> simp [State.writesOnly_iff, portBlock, State.setPort]

theorem raise (k : NoticeKind) (b : Byte) (v : List Byte) : s.WritesOnly [.notices, .counters] (s.raise k b v) := by
  simp [State.writesOnly_iff]

theorem countPort (p : Port) (f : PortCounters → PortCounters) : s.WritesOnly [.counters] (s.countPort p f) := by
  simp [State.writesOnly_iff]

/-- A port changes its link state, which is raised (01 R10). -/
theorem setPort_raiseLink (p : Port) (x : LinkPort) (k : LinkState) :
    s.WritesOnly [portBlock p, .notices, .counters] ((s.setPort p x).raiseLink p k) :=
  ((setPort s p x).mono (by simp)).trans ((raise ..).mono (by simp))

theorem leaveUp (p : Port) : s.WritesOnly [portBlock p, .notices, .counters] (s.leaveUp p) :=
  ((setPort s p _).mono (by simp)).trans (((countPort _ p _).mono (by simp)).trans ((raise ..).mono (by simp)))

theorem arrive (p : Port) (run : List Byte) : s.WritesOnly [portBlock p, .counters] (s.arrive p run) := by
  have hcount (f : PortCounters → PortCounters) : s.WritesOnly [portBlock p, .counters] (s.countPort p f) :=
    (countPort s p f).mono (by simp)
  unfold State.arrive State.joinBuffer
  split
  · exact hcount _
  · split
    · dsimp only
      split
      · exact (setPort s p _).mono (by simp)
      · exact hcount _
    · exact hcount _

/-! ### The engine and its commands -/

theorem withMgmt (m : Management) {l : List Block} (hm : .mgmt ∈ l := by decide) : s.WritesOnly l { s with mgmt := m } := by
  simp [State.writesOnly_iff, hm]

theorem respond (f : Frame) (st : Status) (p : List Byte) {l : List Block} (hm : .mgmt ∈ l := by decide) :
    s.WritesOnly l (s.respond f st p) := withMgmt s _ hm

theorem leave {l : List Block} (hm : .mgmt ∈ l := by decide) : s.WritesOnly l s.leave := withMgmt s _ hm

theorem startReadBack (r : ReadBack) : s.WritesOnly [.mgmt] (s.startReadBack r) := withMgmt s _

/-- A change of some blocks, then the answer. -/
theorem answer {s t : State} {l m : List Block} (h : s.WritesOnly l t) (f : Frame) (st : Status) (p : List Byte)
    (hlm : l ⊆ m := by decide) (hm : .mgmt ∈ m := by decide) : s.WritesOnly m (t.respond f st p) :=
  (h.mono hlm).trans (respond t f st p hm)

theorem applyMiss {l : List Block} (hm : .mgmt ∈ l := by decide) (hc : .counters ∈ l := by decide) : s.WritesOnly l s.applyMiss := by
  simp [State.writesOnly_iff, hm, hc]

/-- A command row writes what its body writes; the common path writes the engine and the node counters (07 R135). -/
theorem command {l : List Block} (hm : .mgmt ∈ l) (hc : .counters ∈ l) (accepts : Frame → Bool) (ok : List Byte → Bool)
    {body : Frame → State → State} (hbody : ∀ (f : Frame) (t : State), t.WritesOnly l (body f t)) :
    NextIs (s.command accepts ok body) (s.WritesOnly l) := by
  obtain ⟨t, e, rfl | ⟨m, c, rfl⟩ | ⟨f, -, -, -, -, rfl⟩⟩ := s.command_cases accepts ok body <;> rw [e]
  · exact refl _
  · show s.WritesOnly l _
    simp [State.writesOnly_iff, hm, hc]
  · exact (withMgmt s _ hm).trans (hbody f (s.begun f))

theorem broadcastCopy {l : List Block} (hm : .mgmt ∈ l) (hc : .counters ∈ l) (code : Byte) {body : Frame → State → State}
    (hbody : ∀ f, s.WritesOnly l (body f s)) : NextIs (s.broadcastCopy code body) (s.WritesOnly l) := by
  obtain ⟨t, e, rfl | rfl | ⟨f, -, -, -, -, rfl⟩⟩ := s.broadcastCopy_cases code body <;> rw [e]
  · exact refl _
  · exact applyMiss s hm hc
  · exact hbody f

/-- The lease checks may renew the lease before they go on (05 R88). -/
theorem leaseCheck {l : List Block} (hm : .mgmt ∈ l) (hl : .loader ∈ l) (f : Frame) (renews : Bool) {go : State → State}
    (hgo : ∀ t : State, t.WritesOnly l (go t)) : s.WritesOnly l (s.leaseCheck f renews go) := by
  obtain ⟨st, p, e⟩ | e | e := s.leaseCheck_cases f renews go <;> rw [e]
  · exact respond s f st p hm
  · exact trans (t := s.renewLease) (by simp [State.writesOnly_iff, hl]) (hgo _)
  · exact hgo s

/-! ### Channels, curves and binds -/

theorem finishFenced (f : Frame) : s.WritesOnly [.table, .mgmt, .counters] (s.finishFenced f) := by simp [State.writesOnly_iff]

theorem settleFence : s.WritesOnly [.table, .mgmt, .counters] s.settleFence := by simp [State.writesOnly_iff]

theorem fence (k : ContextId) : s.WritesOnly [.table, .mgmt, .counters] (s.fence k) := by simp [State.writesOnly_iff, State.fence]

theorem deleteCurve (c : CurveId) : s.WritesOnly [.store, .notices, .counters] (s.deleteCurve c) := by simp [State.writesOnly_iff]

theorem bindNow (l : List Pair) : s.WritesOnly [.table, .store, .notices, .counters] (s.bindNow l) := by simp [State.writesOnly_iff]

theorem applyPending (b : PendingBind) : s.WritesOnly [.table, .store, .bind, .notices, .counters] (s.applyPending b) := by
  simp [State.writesOnly_iff]

theorem cancelPending (b : PendingBind) : s.WritesOnly [.store, .bind] (s.cancelPending b) := by simp [State.writesOnly_iff]

/-! ### The loader -/

theorem endLease : s.WritesOnly [.store, .loader] s.endLease := by simp [State.writesOnly_iff]

theorem startWrite (f : Frame) (p : PageId) : s.WritesOnly [.store, .loader, .mgmt] (s.startWrite f p) := by
  simp [State.writesOnly_iff]

/-! ### Parameters -/

theorem writeParam (p : ParamId) (v : Half) : s.WritesOnly [.uPort, .mgmt, .counters] (s.writeParam p v) := by
  simp [State.writesOnly_iff, State.writeParam_merger]

/-! ### The engine's slots, the classifiers and the queues -/

/-- An admitted frame is counted and takes a slot, and conversions may start (04 R67, R69, R70). -/
theorem admission (k : ContextId) (b : Byte) (gap : Nat) (i : SlotId) (c : CurveId) (f : Frame) :
    s.WritesOnly [.table, .store, .conditioner, .notices, .counters] ((s.countGap k b gap).occupy k i c f).startConversions := by
  simp [State.writesOnly_iff]

theorem classifyData : s.WritesOnly [.uPort, .merger, .counters] s.classifyData := by simp [State.writesOnly_iff]

theorem classifyCommand : s.WritesOnly [.dPort, .mgmt, .merger, .counters] s.classifyCommand := by simp [State.writesOnly_iff]

theorem placePosted : s.WritesOnly [.loader, .mgmt] s.placePosted := by simp [State.writesOnly_iff]

theorem enterCq : s.WritesOnly [.table, .store, .conditioner, .mgmt, .notices, .merger, .counters] s.enterCq := by
  simp [State.writesOnly_iff]

/-- A source's frame is taken from the merger, the engine or the notice unit (09 R173). -/
theorem takeFrom {s t : State} {x : Source} {f : Frame} (h : s.takeFrom x = some (f, t)) : s.WritesOnly [.mgmt, .notices, .merger] t := by
  cases x with
  | cq | fq | rq =>
    simp only [State.takeFrom] at h
    split at h <;> cases h
    simp [State.writesOnly_iff]
  | nu =>
    obtain ⟨⟨g, u⟩, -, e⟩ := Option.map_eq_some_iff.1 h
    cases e
    simp [State.writesOnly_iff]

theorem fillPlace (x : Source) (waited : Bool) : s.WritesOnly (.uPort :: periodBlocks) (s.fillPlace x waited) := by
  unfold State.fillPlace
  split
  · exact (enterCq s).mono
  · split
    · exact (classifyData s).mono
    · exact refl s
  · exact (placePosted s).mono
  · exact refl s

/-- A D-port taking writes what its source, the place it makes and the use of its frame write (09 R174, R177). -/
theorem dPortTake {l : List Block} (hl : .uPort :: periodBlocks ⊆ l) {use : Frame → State → State}
    (huse : ∀ (f : Frame) (t : State), t.WritesOnly l (use f t)) : s.WritesOnly l (s.dPortTake use) := by
  unfold State.dPortTake
  split
  · exact refl s
  · split
    · exact refl s
    next x _ _ f taken ht =>
      have htaken : s.WritesOnly l taken := (takeFrom ht).mono (List.Subset.trans (by decide) hl)
      have hpointed : (use f taken).WritesOnly l ((use f taken).pointPast x) := by
        simp [State.writesOnly_iff, show .merger ∈ l from hl (by decide)]
      exact htaken.trans ((huse f taken).trans (hpointed.trans ((fillPlace _ x s.passWaits).mono hl)))

/-! ### Access periods and ticks -/

/-- What ends in an access period and what it grants write the same blocks (log 7). -/
theorem keptByPeriods : KeptByPeriods (s.WritesOnly periodBlocks) where
  conversion t u h := h.trans (by simp [State.writesOnly_iff, periodBlocks])
  readBack t h := h.trans (by simp [State.writesOnly_iff, periodBlocks])
  write t h := h.trans (by simp [State.writesOnly_iff, periodBlocks])
  grant t h := h.trans (by simp [State.writesOnly_iff, periodBlocks])

theorem tick : s.WritesOnly periodBlocks s.tick := by simp [State.writesOnly_iff, periodBlocks]

end State.WritesOnly

end Sys2Proof.Machine
end

section
/-! No row writes a block outside its list: O3. -/

namespace Sys2Proof.Machine

namespace State.WritesOnly
variable (s : State)

/-! ### The bodies of the node, channel and counter commands -/

theorem getStatusBody (f : Frame) : s.WritesOnly [.notices, .mgmt] (getStatusBody f s) := by
  unfold Machine.getStatusBody
  split
  next option _ =>
    split
    · refine answer (l := [.notices]) ?_ f _ _
      split
      · simp [State.writesOnly_iff]
      · exact refl s
    · exact respond s ..
  next => exact respond s ..

theorem setParamBody (f : Frame) : s.WritesOnly [.uPort, .mgmt, .counters] (setParamBody f s) := by
  unfold Machine.setParamBody
  split
  · split
    · exact respond s ..
    · dsimp only
      split
      · exact (writeParam s _ _).answer ..
      · exact respond s ..
  · exact respond s ..

theorem mapChannelBody (f : Frame) : s.WritesOnly [.table, .mgmt, .counters] (mapChannelBody f s) := by
  have hgo : s.WritesOnly [.table, .mgmt, .counters] (mapChannelBody.fenceOrFinish f s) := by
    unfold mapChannelBody.fenceOrFinish
    split
    · split
      · exact finishFenced s f
      · exact fence s _
    · exact finishFenced s f
  unfold Machine.mapChannelBody
  split
  · split
    · exact respond s ..
    · dsimp only
      split
      · exact respond s ..
      · split
        · split
          · exact respond s ..
          · exact hgo
        · exact hgo
  · exact respond s ..

theorem setChannelBody (f : Frame) : s.WritesOnly [.table, .mgmt, .counters] (setChannelBody f s) := by
  unfold Machine.setChannelBody
  split
  · exact respond s ..
  next p _ =>
    dsimp only
    split
    · exact respond s ..
    · split
      · exact respond s ..
      · split
        · exact answer (t := s.applySettings p) (l := [.table, .counters]) (by simp [State.writesOnly_iff]) ..
        · exact fence s _

theorem getChannelBody (f : Frame) : s.WritesOnly [.mgmt] (getChannelBody f s) := by
  unfold Machine.getChannelBody
  split <;> exact respond s ..

theorem readCountersBody (f : Frame) : s.WritesOnly [.mgmt, .counters] (readCountersBody f s) := by
  unfold Machine.readCountersBody
  split
  · split
    · exact respond s ..
    next x _ =>
      split
      · exact respond s ..
      · exact answer (t := s.clearScope x _) (l := [.counters]) (by simp [State.writesOnly_iff]) ..
  · exact respond s ..

/-! ### The bodies of the notice commands -/

theorem ackNoticesBody (f : Frame) : s.WritesOnly [.mgmt, .notices, .counters] (ackNoticesBody f s) := by
  unfold Machine.ackNoticesBody
  split
  · split
    · exact respond s ..
    · exact answer (l := [.notices, .counters]) (by simp [State.writesOnly_iff]) ..
  · exact respond s ..

theorem resumeNoticesBody (f : Frame) : s.WritesOnly [.mgmt, .notices] (resumeNoticesBody f s) :=
  answer (t := { s with notices := s.notices.resume }) (l := [.notices]) (by simp [State.writesOnly_iff]) ..

/-! ### The bodies of the loader commands -/

theorem openLeaseBody (f : Frame) : s.WritesOnly [.loader, .mgmt] (openLeaseBody f s) := by
  unfold Machine.openLeaseBody
  split
  · split
    · exact respond s ..
    · exact answer (t := s.openLease f.aux) (l := [.loader]) (by simp [State.writesOnly_iff]) ..
  · split
    · exact answer (t := s.renewLease) (l := [.loader]) (by simp [State.writesOnly_iff]) ..
    · exact respond s ..

theorem closeLeaseChecked (f : Frame) : s.WritesOnly [.store, .loader, .mgmt] (closeLeaseChecked f s) := by
  unfold Machine.closeLeaseChecked
  split
  · exact respond s ..
  · exact (endLease s).answer ..

theorem stageKnotsChecked (f : Frame) : s.WritesOnly [.loader, .mgmt] (stageKnotsChecked f s) := by
  unfold Machine.stageKnotsChecked
  split
  · split
    · exact respond s ..
    · split
      · exact respond s ..
      · exact answer (l := [.loader]) (by simp [State.writesOnly_iff]) ..
  · exact respond s ..

theorem clearStagingChecked (f : Frame) : s.WritesOnly [.loader, .mgmt] (clearStagingChecked f s) := by
  unfold Machine.clearStagingChecked
  split
  · exact respond s ..
  · exact answer (l := [.loader]) (by simp [State.writesOnly_iff]) ..

theorem readStagingChecked (f : Frame) : s.WritesOnly [.mgmt] (readStagingChecked f s) := by
  unfold Machine.readStagingChecked
  split
  · dsimp only
    split <;> exact respond s ..
  · exact respond s ..

theorem writePageChecked (f : Frame) : s.WritesOnly [.store, .loader, .mgmt] (writePageChecked f s) := by
  unfold Machine.writePageChecked
  split
  · exact respond s ..
  · split
    · exact respond s ..
    · split
      · exact startWrite s f _
      · split <;> exact respond s ..

theorem defineCurveChecked (f : Frame) : s.WritesOnly [.mgmt] (defineCurveChecked f s) := by
  unfold Machine.defineCurveChecked
  split
  · exact respond s ..
  · exact startReadBack s _

/-! ### The bodies of the curve and bind commands -/

theorem getCurveBody (f : Frame) : s.WritesOnly [.mgmt] (getCurveBody f s) := by
  unfold Machine.getCurveBody
  split <;> exact respond s ..

theorem readKnotsBody (f : Frame) : s.WritesOnly [.mgmt] (readKnotsBody f s) := by
  unfold Machine.readKnotsBody
  split
  · split
    · exact respond s ..
    · dsimp only
      split
      · exact respond s ..
      · split
        · exact respond s ..
        · split
          · exact respond s ..
          · exact startReadBack s _
  · exact respond s ..

theorem deleteCurveBody (f : Frame) : s.WritesOnly [.store, .mgmt, .notices, .counters] (deleteCurveBody f s) := by
  unfold Machine.deleteCurveBody
  split
  · exact respond s ..
  · dsimp only
    split
    · exact respond s ..
    · exact respond s ..
    · exact respond s ..
    · split
      · exact respond s ..
      · exact (deleteCurve s _).answer ..

theorem bindChannelsBody (f : Frame) : s.WritesOnly [.table, .store, .mgmt, .notices, .counters] (bindChannelsBody f s) := by
  unfold Machine.bindChannelsBody
  dsimp only
  split
  · exact respond s ..
  · split
    · exact respond s ..
    · exact (bindNow s _).answer ..

theorem prepareBindBody (f : Frame) : s.WritesOnly [.store, .bind, .mgmt] (prepareBindBody f s) := by
  unfold Machine.prepareBindBody
  split
  · split
    · exact respond s ..
    · split
      · exact respond s ..
      · split
        · exact respond s ..
        · exact answer (l := [.store, .bind]) (by simp [State.writesOnly_iff]) ..
  · exact respond s ..

theorem applyBindBody (f : Frame) : s.WritesOnly [.table, .store, .bind, .mgmt, .notices, .counters] (applyBindBody f s) := by
  unfold Machine.applyBindBody
  split
  · exact respond s ..
  · split
    · exact (applyPending s _).answer ..
    · exact respond s ..

theorem cancelBindBody (f : Frame) : s.WritesOnly [.store, .bind, .mgmt] (cancelBindBody f s) := by
  unfold Machine.cancelBindBody
  split
  · exact respond s ..
  · split
    · exact (cancelPending s _).answer ..
    · exact respond s ..

theorem applyBindBroadcastBody (f : Frame) :
    s.WritesOnly [.table, .store, .bind, .mgmt, .notices, .counters] (applyBindBroadcastBody f s) := by
  unfold Machine.applyBindBroadcastBody
  split
  · split
    · exact (applyPending s _).mono.trans (leave _)
    · exact applyMiss s
  · exact applyMiss s

theorem cancelBindBroadcastBody (f : Frame) : s.WritesOnly [.store, .bind, .mgmt, .counters] (cancelBindBroadcastBody f s) := by
  unfold Machine.cancelBindBroadcastBody
  split
  · split
    · exact (cancelPending s _).mono.trans (leave _)
    · exact applyMiss s
  · exact applyMiss s

/-! ### The rows of ports and queues -/

theorem carrierLoss (p : Port) : NextIs (execCarrierLoss p s) (s.WritesOnly (mayWrite (.carrierLoss p))) := by
  unfold execCarrierLoss
  split
  · exact leaveUp s p
  · exact (setPort s p _).mono (by simp [mayWrite])
  · exact refl s

theorem upQueueTake : NextIs (execUpQueueTake s) (s.WritesOnly (mayWrite .upQueueTake)) := by
  unfold execUpQueueTake
  split
  · exact nextIs_ite (fun _ => by simp [State.writesOnly_iff, mayWrite]) fun _ => refl s
  · exact refl s

theorem upQueueDiscard : NextIs (execUpQueueDiscard s) (s.WritesOnly (mayWrite .upQueueDiscard)) := by
  unfold execUpQueueDiscard
  split
  · exact nextIs_ite (fun _ => refl s) fun _ => by simp [State.writesOnly_iff, mayWrite]
  · exact refl s

/-- The frame leaves the receive buffer; a late one is only counted (04 R66). -/
theorem lookup : Follows (s.WritesOnly (mayWrite .lookup)) .lookup (execLookup s) := by
  unfold execLookup
  split
  next f rest k i _ =>
    have htaken : s.WritesOnly (mayWrite .lookup) { s with uPort := { s.uPort with buffer := rest } } := by
      simp [State.writesOnly_iff, mayWrite]
    dsimp only
    split
    · exact htaken.trans (by simp [State.writesOnly_iff, mayWrite])
    next gap _ =>
      split
      next c _ => exact htaken.trans (admission _ k f.addr gap i c f).mono
      next => exact ⟨rfl, rfl⟩
  next => exact refl s

/-! ### Every command -/

/-- Every command that answers a next state writes only the blocks its rules let it write. -/
theorem exec (c : Instr) : Follows (s.WritesOnly (mayWrite c)) c (exec c s) := by
  have hrow (hm : .mgmt ∈ mayWrite c) (hc : .counters ∈ mayWrite c) (accepts : Frame → Bool) (ok : List Byte → Bool)
      {body : Frame → State → State} (hbody : ∀ (f : Frame) (t : State), t.WritesOnly (mayWrite c) (body f t)) :
      Follows (s.WritesOnly (mayWrite c)) c (s.command accepts ok body) := follows_of_nextIs (command s hm hc accepts ok hbody)
  have hleased (hm : .mgmt ∈ mayWrite c) (hc : .counters ∈ mayWrite c) (hl : .loader ∈ mayWrite c) (accepts : Frame → Bool)
      (ok : List Byte → Bool) (renews : Bool) {go : Frame → State → State} (hgo : ∀ (f : Frame) (t : State), t.WritesOnly (mayWrite c) (go f t)) :
      Follows (s.WritesOnly (mayWrite c)) c (s.command accepts ok fun f t => t.leaseCheck f renews (go f)) :=
    hrow hm hc accepts ok fun f t => leaseCheck t hm hl f renews (hgo f)
  cases c with
  | conversionEnd | pageWriteCompletion | defineCurveCheckDone | readKnotsDone | leaseExpiry | noticeRetryExpiry | millisecondTick =>
    exact follows_of_nextIs ((keptByPeriods s).exec (refl s) (tick s) rfl)
  | resetnRelease => exact all s _
  | resetNodeSoft | resetNodeFull => exact hrow (by decide) (by decide) _ _ fun _ t => all t _
  | carrierDetect p => exact follows_of_nextIs (nextIs_ite (fun _ => setPort s p _) fun _ => refl s)
  | alignmentAchieved p => exact follows_of_nextIs (nextIs_ite (fun _ => setPort_raiseLink s p _ _) fun _ => refl s)
  | carrierLoss p => exact follows_of_nextIs (carrierLoss s p)
  | frameArrival p run => exact follows_of_nextIs (nextIs_ite (fun _ => arrive s p run) fun _ => refl s)
  | frameSent p => exact setPort s p _
  | dataClassifierTake => exact classifyData s
  | lookup => exact lookup s
  | cqEntry => exact enterCq s
  | fenceApply => exact settleFence s
  | commandClassifierTake => exact classifyCommand s
  | unknownCommand => exact hrow (by decide) (by decide) _ _ fun f t => respond t f _ _
  | ping => exact hrow (by decide) (by decide) _ _ fun f t => respond t f _ _
  | getStatus => exact hrow (by decide) (by decide) _ _ fun f t => (getStatusBody t f).mono
  | setParam => exact hrow (by decide) (by decide) _ _ fun f t => (setParamBody t f).mono
  | mapChannel => exact hrow (by decide) (by decide) _ _ fun f t => (mapChannelBody t f).mono
  | setChannel => exact hrow (by decide) (by decide) _ _ fun f t => (setChannelBody t f).mono
  | getChannel => exact hrow (by decide) (by decide) _ _ fun f t => (getChannelBody t f).mono
  | openLease => exact hrow (by decide) (by decide) _ _ fun f t => (openLeaseBody t f).mono
  | stageKnots => exact hleased (by decide) (by decide) (by decide) _ _ _ fun f t => (stageKnotsChecked t f).mono
  | clearStaging => exact hleased (by decide) (by decide) (by decide) _ _ _ fun f t => (clearStagingChecked t f).mono
  | readStaging => exact hleased (by decide) (by decide) (by decide) _ _ _ fun f t => (readStagingChecked t f).mono
  | writePage => exact hleased (by decide) (by decide) (by decide) _ _ _ fun f t => (writePageChecked t f).mono
  | defineCurve => exact hleased (by decide) (by decide) (by decide) _ _ _ fun f t => (defineCurveChecked t f).mono
  | closeLease => exact hleased (by decide) (by decide) (by decide) _ _ _ fun f t => (closeLeaseChecked t f).mono
  | getCurve => exact hrow (by decide) (by decide) _ _ fun f t => (getCurveBody t f).mono
  | readKnots => exact hrow (by decide) (by decide) _ _ fun f t => (readKnotsBody t f).mono
  | deleteCurve => exact hrow (by decide) (by decide) _ _ fun f t => (deleteCurveBody t f).mono
  | bindChannels => exact hrow (by decide) (by decide) _ _ fun f t => (bindChannelsBody t f).mono
  | prepareBind => exact hrow (by decide) (by decide) _ _ fun f t => (prepareBindBody t f).mono
  | applyBind => exact hrow (by decide) (by decide) _ _ fun f t => (applyBindBody t f).mono
  | cancelBind => exact hrow (by decide) (by decide) _ _ fun f t => (cancelBindBody t f).mono
  | applyBindBroadcast =>
    exact follows_of_nextIs (broadcastCopy s (by decide) (by decide) _ fun f => (applyBindBroadcastBody s f).mono)
  | cancelBindBroadcast =>
    exact follows_of_nextIs (broadcastCopy s (by decide) (by decide) _ fun f => (cancelBindBroadcastBody s f).mono)
  | ackNotices => exact hrow (by decide) (by decide) _ _ fun f t => (ackNoticesBody t f).mono
  | resumeNotices => exact hrow (by decide) (by decide) _ _ fun f t => (resumeNoticesBody t f).mono
  | readCounters => exact hrow (by decide) (by decide) _ _ fun f t => (readCountersBody t f).mono
  | dPortTaking =>
    exact follows_of_nextIs (nextIs_ite (fun _ => dPortTake s (by decide) fun _ _ => by simp [State.writesOnly_iff, mayWrite, State.sendDown])
      fun _ => refl s)
  | dPortDiscardTaking =>
    exact follows_of_nextIs (nextIs_ite (fun _ => refl s) fun _ =>
      dPortTake s (by decide) fun _ t => (countPort t .dPort _).mono)
  | upQueueTake => exact follows_of_nextIs (upQueueTake s)
  | upQueueDiscard => exact follows_of_nextIs (upQueueDiscard s)
  | postedResponsePlaced => exact placePosted s

end State.WritesOnly

/-- Settles O3: each event writes only certain blocks, each row's events only those its list names. -/
theorem commandsWriteOnlyTheirBlocks : Obligations.CommandsWriteOnlyTheirBlocks := by
  intro c s t hexec
  have hfollows := State.WritesOnly.exec s c
  rw [hexec] at hfollows
  exact hfollows.agrees

end Sys2Proof.Machine
end
